-- ==== Sys2Proof/Word.lean ====
section
/-! DEFINITION. The word types of the hub: bytes of packets and 32-bit parameter words (R10, R13), and the sparse
tables in which numbered things (channels, cells, ports, items) are held. -/

namespace Sys2Proof

/-- One byte of a packet, a frame or an image. -/
abbrev Byte := BitVec 8

/-- A 32-bit parameter ID or parameter value (R13). -/
abbrev Word := BitVec 32

/-- A table by number: pairs with rising keys, in which an unlisted key holds the table's default. -/
abbrev Tbl (α : Type) := List (Nat × α)

end Sys2Proof
end

