-- ==== Sys2Proof/Config.lean ====
section
/-! DEFINITION. What the spec leaves to the part or to the instant: constants without a body, which nothing can
evaluate, so that a statement about them holds whatever they are. -/

namespace Sys2Proof.Config

/-- A free value: the n-th one taken is freeWord n (R-silent results; see the assumption log).
DESIGN CHOICE, log entry 9. -/
opaque freeWord : Nat → Word

/-- The number of taps of the droop compensator, CMP_N of instance 0x0FF of the gait block (R631).
DESIGN CHOICE, log entry 10. -/
opaque cmpTaps : Fin 257

/-- The published coefficient at an item of instance 0x0FF of the gait block (R631). DESIGN CHOICE, log entry 10. -/
opaque fixedCoef : Nat → Word

/-- Coefficient k of the final stage (÷5 when five, else ÷2) of a chain with decimation factor d, interpolated from its prototype
for a fine phase delay (R144). DESIGN CHOICE, log entry 10. -/
opaque fineCoef : Bool → Nat → Nat → Nat → Word

/-- The part of a stamp below a nanosecond that the phase interpolator of a port shows at an instant of RUNTIME, in 0.01 ps (R257,
R259). DESIGN CHOICE, log entry 17. -/
opaque finePhase : Nat → Nat → Fin 100000

/-- The lead and the island of the hub that drives the Rein bus at an instant of RUNTIME (R277). DESIGN CHOICE, log entry 107. -/
opaque reinDriver : Nat → Nat × Nat

/-- The fractional bits, below U, that the FIR's output keeps (R124). DESIGN CHOICE, log entry 117. -/
opaque firBits : Nat

/-- The fractional bits of the unit sine of the lock-in reference (R162). DESIGN CHOICE, log entry 117. -/
opaque sineBits : Fin 65

/-- Coefficient k of built-in set b (R135, R137). DESIGN CHOICE, log entry 10. -/
opaque builtinCoef : Nat → Nat → Word

/-- Production trim k of object n in the part's fuses (R284). DESIGN CHOICE, log entry 11. -/
opaque fuseTrim : Nat → Nat → Int

/-- The MAC address of a port in the part's fuses (R488). DESIGN CHOICE, log entry 11. -/
opaque portMac : Nat → BitVec 48

end Sys2Proof.Config
end

