-- ==== Sys2Proof/Machine/Bits.lean ====
section
/-! DEFINITION. Sparse tables, fields of words, byte orders, the two CRCs and small arithmetic. -/

namespace Sys2Proof.Machine

/-- The entry of key k, when it is listed. -/
def tfind {α : Type} : Tbl α → Nat → Option α
  | [], _ => none
  | (j, v) :: r, k => if j = k then some v else tfind r k

/-- The entry of key k, an unlisted key holding d. -/
def tget {α : Type} (d : α) (t : Tbl α) (k : Nat) : α := (tfind t k).getD d

/-- The table without key k. -/
def tdel {α : Type} : Tbl α → Nat → Tbl α
  | [], _ => []
  | (j, v) :: r, k => if j = k then r else (j, v) :: tdel r k

/-- The table with v at key k, keys rising. -/
def tput {α : Type} : Tbl α → Nat → α → Tbl α
  | [], k, v => [(k, v)]
  | (j, w) :: r, k, v =>
    if k < j then (k, v) :: (j, w) :: r
    else if j = k then (k, v) :: r
    else (j, w) :: tput r k v

/-- The table with v at key k, in canonical form: no entry holds the default d. -/
def tset {α : Type} [DecidableEq α] (d : α) (t : Tbl α) (k : Nat) (v : α) : Tbl α :=
  if v = d then tdel t k else tput t k v

/-- The table with the entry of key k changed by f. -/
def tmod {α : Type} [DecidableEq α] (d : α) (t : Tbl α) (k : Nat) (f : α → α) : Tbl α :=
  tset d t k (f (tget d t k))

/-- The canonical form of a table: keys strictly rising and no entry at the default. -/
def twf {α : Type} [DecidableEq α] (d : α) : Tbl α → Bool
  | [] => true
  | [(_, v)] => decide (v ≠ d)
  | (j, v) :: (k, w) :: r => decide (j < k) && decide (v ≠ d) && twf d ((k, w) :: r)

/-- The n-bit field of v whose lowest bit is lo. -/
def fld (v lo n : Nat) : Nat := (v >>> lo) % 2 ^ n

/-- Whether bit i of v is set. -/
def bit (v i : Nat) : Bool := fld v i 1 == 1

/-- v as one bit. -/
def b2n (b : Bool) : Nat := if b then 1 else 0

/-- Clears the n-bit field of v at lo and puts x there. -/
def setFld (v lo n x : Nat) : Nat := v - (fld v lo n <<< lo) + ((x % 2 ^ n) <<< lo)

/-- v modulo 2^n. -/
def wrap (n v : Nat) : Nat := v % 2 ^ n

/-- The n-bit two's complement code of x. -/
def code (n : Nat) (x : Int) : Nat := (x % (2 ^ n : Int)).toNat

/-- The number an n-bit two's complement code stands for. -/
def signed (n v : Nat) : Int :=
  if v % 2 ^ n < 2 ^ (n - 1) then ((v % 2 ^ n : Nat) : Int) else ((v % 2 ^ n : Nat) : Int) - 2 ^ n

/-- x kept within lo to hi. -/
def clampI (lo hi x : Int) : Int := max lo (min hi x)

/-- The n-bit two's complement code of x saturated to its range. -/
def satCode (n : Nat) (x : Int) : Nat := code n (clampI (-(2 ^ (n - 1))) (2 ^ (n - 1) - 1) x)

/-- a ÷ b rounded to the nearest integer, halves to even. -/
def rne (a : Int) (b : Nat) : Int :=
  let q := a / b
  let r := a % b
  if 2 * r < b then q else if 2 * r > b then q + 1 else if q % 2 = 0 then q else q + 1

/-- a ÷ b rounded to the nearest integer, halves up. -/
def rdiv (a b : Nat) : Nat := if b = 0 then 0 else (2 * a + b) / (2 * b)

/-- a ÷ b rounded up. -/
def cdiv (a b : Nat) : Nat := if b = 0 then 0 else (a + b - 1) / b

/-- The signed difference a − b of n-bit numbers (R15). -/
def sdiff (n a b : Nat) : Int := signed n (a % 2 ^ n + 2 ^ n - b % 2 ^ n)

/-- v in n bytes, most significant first (R11). -/
def be : Nat → Nat → List Byte
  | 0, _ => []
  | n + 1, v => BitVec.ofNat 8 (v >>> (8 * n)) :: be n v

/-- v in n bytes, least significant first (R12). -/
def le : Nat → Nat → List Byte
  | 0, _ => []
  | n + 1, v => BitVec.ofNat 8 v :: le n (v >>> 8)

/-- The number that bytes spell, most significant first. -/
def unbe (b : List Byte) : Nat := b.foldl (fun a x => a * 256 + x.toNat) 0

/-- The number that bytes spell, least significant first. -/
def unle : List Byte → Nat
  | [] => 0
  | x :: r => x.toNat + 256 * unle r

/-- Bytes off to off + n − 1. -/
def slice (b : List Byte) (off n : Nat) : List Byte := (b.drop off).take n

/-- The big-endian field of n bytes at off. -/
def fbe (b : List Byte) (off n : Nat) : Nat := unbe (slice b off n)

/-- The little-endian field of n bytes at off. -/
def fle (b : List Byte) (off n : Nat) : Nat := unle (slice b off n)

/-- n zero bytes. -/
def zeros (n : Nat) : List Byte := List.replicate n 0

/-- The big-endian words of a byte string, whole words only. -/
def wordsBE : List Byte → List Word
  | a :: b :: c :: d :: r => BitVec.ofNat 32 (unbe [a, b, c, d]) :: wordsBE r
  | _ => []

/-- One bit of a reflected CRC. -/
def crcBit (poly c : Nat) : Nat := if c % 2 = 1 then (c >>> 1) ^^^ poly else c >>> 1

/-- One byte of a reflected CRC. -/
def crcByte (poly c : Nat) (b : Byte) : Nat :=
  crcBit poly (crcBit poly (crcBit poly (crcBit poly (crcBit poly (crcBit poly (crcBit poly
    (crcBit poly (c ^^^ b.toNat))))))))

/-- A reflected 32-bit CRC with initial value and final exclusive-OR of all ones. -/
def crcOf (poly : Nat) (b : List Byte) : Nat := (b.foldl (crcByte poly) 0xFFFFFFFF) ^^^ 0xFFFFFFFF

/-- CRC-32C (R346): polynomial 0x1EDC6F41, reflected. -/
def crc32c (b : List Byte) : Nat := crcOf 0x82F63B78 b

/-- CRC-32 of an image (R377): polynomial 0x04C11DB7, reflected. -/
def crc32 (b : List Byte) : Nat := crcOf 0xEDB88320 b

/-- One bit of the NSL CRC. -/
def nslBit (c : Nat) : Nat :=
  if 0x80000000 ≤ c then wrap 32 (c <<< 1) ^^^ 0x814141AB else wrap 32 (c <<< 1)

/-- One byte of the NSL CRC. -/
def nslByte (c : Nat) (b : Byte) : Nat :=
  nslBit (nslBit (nslBit (nslBit (nslBit (nslBit (nslBit (nslBit (c ^^^ (b.toNat <<< 24)))))))))

/-- The NSL CRC (R558): polynomial 0x814141AB, not reflected, from 0. -/
def crcNsl (b : List Byte) : Nat := b.foldl nslByte 0

/-- Places the fields (value, width) in order from the most significant bit. -/
def packMsb : List (Nat × Nat) → Nat
  | [] => 0
  | (v, w) :: r => (wrap w v) <<< ((r.map Prod.snd).sum) ||| packMsb r

/-- The total width of the fields. -/
def widthOf (fs : List (Nat × Nat)) : Nat := (fs.map Prod.snd).sum

/-- Bit i of the words of a mask held as consecutive items of 32 bits. -/
def maskBit (w : Nat → Nat) (i : Nat) : Bool := bit (w (i / 32)) (i % 32)

/-- The numbers below n whose bit is set in m. -/
def bitsOf (n m : Nat) : List Nat := (List.range n).filter (fun i => bit m i)

/-- The mask of a list of bit numbers. -/
def maskOf (l : List Nat) : Nat := l.foldl (fun m i => m ||| (1 <<< i)) 0

/-- The number of bits set among the lowest n. -/
def popcount (n m : Nat) : Nat := (bitsOf n m).length

/-- Inserts x before the first element that f places after it. -/
def insertBy {α : Type} (before : α → α → Bool) (x : α) : List α → List α
  | [] => [x]
  | y :: r => if before x y then x :: y :: r else y :: insertBy before x r

/-- The largest number in a list, or d. -/
def maxOf (d : Nat) (l : List Nat) : Nat := l.foldl max d

end Sys2Proof.Machine
end

