-- ==== Sys2Proof/Machine/Items.lean ====
section
/-! DEFINITION. The items of the parameter map: access, default, writable bits and field ranges of each, as the register
tables of the spec give them. A parameter ID is block, instance and item (R13). -/

namespace Sys2Proof.Machine

/-- How an item may be used: read only, read and write, write only, or a command item that reads 0 (R379). -/
inductive Access where
  | ro | rw | wo | cmd
  deriving DecidableEq, Repr

/-- An item: access, default, the bits that may be written, and the ranges of its fields as (lowest bit, width, least,
greatest). -/
structure Desc where
  acc : Access
  dflt : Nat
  mask : Nat
  rng : List (Nat × Nat × Nat × Nat)
  deriving DecidableEq, Repr

/-- The ID of an item. -/
def pid (block inst item : Nat) : Nat := (block <<< 24) ||| (inst <<< 12) ||| item

/-- The block of an ID. -/
def pidBlock (id : Nat) : Nat := fld id 24 8

/-- The instance of an ID. -/
def pidInst (id : Nat) : Nat := fld id 12 12

/-- The item of an ID. -/
def pidItem (id : Nat) : Nat := fld id 0 12

/-- The n bits from lo. -/
def ones (lo n : Nat) : Nat := (2 ^ n - 1) <<< lo

/-- A read-only item. -/
def roItem (dflt : Nat := 0) : Option Desc := some ⟨.ro, dflt, 0, []⟩

/-- A configurable item. -/
def rwItem (dflt mask : Nat) (rng : List (Nat × Nat × Nat × Nat) := []) : Option Desc := some ⟨.rw, dflt, mask, rng⟩

/-- A command item. -/
def cmdItem (mask : Nat) : Option Desc := some ⟨.cmd, 0, mask, []⟩

/-- Any 32-bit value. -/
def full : Nat := 0xFFFFFFFF

/-- The system block, instance 0x000 (R372, R397, R494, R548, R600, R616). -/
def descSystem (inst item : Nat) : Option Desc :=
  if inst ≠ 0 then none
  else if item = 0x200 ∨ item = 0x201 ∨ item = 0x202 ∨ item = 0x203 ∨ item = 0x204 then roItem
  else if 0x300 ≤ item ∧ item ≤ 0x303 then roItem
  else if item = 0x400 then rwItem (1023 ||| 24 <<< 16) (ones 0 10 ||| ones 16 8) [(16, 8, 1, 255)]
  else if item = 0x401 then roItem 1023
  else if item = 0x402 ∨ item = 0x404 ∨ item = 0x410 then roItem
  else if item = 0x403 then rwItem 0 (ones 0 10)
  else if 0x420 ≤ item ∧ item ≤ 0x427 then rwItem 0 (ones 0 10 ||| ones 12 4)
  else if item = 0x500 ∨ item = 0x501 ∨ item = 0x502 ∨ item = 0x513 then roItem
  else if item = 0x510 then rwItem 1023 (ones 0 10 ||| ones 12 2)
  else if item = 0x511 then rwItem 0 full
  else if item = 0x512 then cmdItem 1
  else if item = 0x600 ∨ item = 0x601 ∨ item = 0x602 then roItem
  else if 0x700 ≤ item ∧ item ≤ 0x706 then roItem
  else none

/-- The time block: Bridle, its ports, the action entries and the Rein lines (R256, R260, R267, R275). -/
def descTime (inst item : Nat) : Option Desc :=
  if inst = 0 then
    if item = 0 then rwItem (128 <<< 16) (ones 0 2 ||| ones 8 2 ||| ones 16 8) [(0, 2, 0, 2)]
    else if item = 1 then rwItem (4 ||| 20 <<< 8 ||| 16 <<< 16 ||| 20 <<< 24) (ones 0 4 ||| ones 8 24)
      [(0, 4, 0, 10), (8, 8, 1, 255), (16, 8, 1, 255), (24, 8, 5, 255)]
    else if item = 2 then rwItem 10000 full
    else if item = 3 then rwItem 10000000 full
    else if item = 4 then rwItem 1000 full [(0, 32, 1, 0x7FFFFFFF)]
    else if item = 5 ∨ item = 6 then rwItem 0 full
    else if item = 7 then rwItem 0 (ones 0 17)
    else if item = 0x018 then roItem full
    else if (0x010 ≤ item ∧ item ≤ 0x01B) ∨ (0x020 ≤ item ∧ item ≤ 0x024) ∨ item = 0x028 then roItem
    else none
  else if 0x010 ≤ inst ∧ inst ≤ 0x015 then
    if item = 0 then rwItem (3 ||| 12 <<< 16 ||| 1 <<< 20) (ones 0 7 ||| ones 8 16) [(20, 4, 0, 3)]
    else if item = 1 then rwItem 0 full
    else if item = 2 ∨ item = 3 then roItem
    else none
  else if 0x100 ≤ inst ∧ inst ≤ 0x13F then
    if item = 0 then rwItem 0 (ones 0 7)
    else if 1 ≤ item ∧ item ≤ 6 then rwItem 0 full
    else if item = 7 then cmdItem 3
    else if item = 8 then roItem
    else none
  else if 0x200 ≤ inst ∧ inst ≤ 0x203 then
    if item = 0 then
      if inst ≤ 0x201 then rwItem 0 (ones 0 2 ||| ones 16 12) [(0, 2, 0, 2)]
      else rwItem 0 (ones 0 2 ||| ones 4 2 ||| ones 16 12) [(0, 2, 0, 2), (4, 2, 0, 2)]
    else if item = 1 then rwItem 0 (ones 0 16)
    else if item = 2 then roItem
    else none
  else none

/-- The port block: lane items and link items of P0 to P5 (R461, R493). -/
def descPort (inst item : Nat) : Option Desc :=
  if 6 ≤ inst then none
  else if item = 0x000 then rwItem (1 ||| 3 <<< 4 ||| 1 <<< 8) (ones 0 3 ||| ones 4 3 ||| ones 8 3) [(1, 2, 0, 2), (4, 3, 1, 3)]
  else if item = 0x001 then rwItem 0x00F834FC full
  else if item = 0x002 then rwItem 500 (ones 0 16) [(0, 16, 50, 2000)]
  else if item = 0x003 then rwItem 0 (ones 0 3 ||| ones 4 2 ||| ones 8 3 ||| ones 12 2) [(0, 3, 0, 4), (8, 3, 0, 4)]
  else if item = 0x004 then rwItem 0 full
  else if item = 0x005 then rwItem 0 (ones 0 8)
  else if item = 0x006 then rwItem (20 <<< 8) (ones 0 2 ||| ones 8 5) [(8, 5, 10, 30)]
  else if item = 0x007 then rwItem 10 (ones 0 16) [(0, 16, 1, 65535)]
  else if item = 0x008 then cmdItem 3
  else if (0x010 ≤ item ∧ item ≤ 0x016) ∨ (0x018 ≤ item ∧ item ≤ 0x01D) then roItem
  else if item = 0x100 then rwItem 1 3
  else if item = 0x101 then rwItem 0x88B5 (ones 0 16)
  else if item = 0x102 then rwItem 0 full
  else if item = 0x103 then rwItem 0 (ones 0 16)
  else if 0x110 ≤ item ∧ item ≤ 0x116 then roItem
  else none

/-- The archive block: engine and the two storage ports (R433). -/
def descArchive (inst item : Nat) : Option Desc :=
  if inst = 0 then
    if item = 0 then rwItem (1 ||| 8 <<< 8 ||| 4 <<< 16) (ones 0 3 ||| ones 8 8 ||| ones 16 12) [(8, 8, 1, 255), (16, 12, 1, 4095)]
    else if item = 1 then rwItem 10 (ones 0 16) [(0, 16, 1, 3600)]
    else if item = 2 then rwItem 0 (ones 0 16)
    else if item = 3 then rwItem 20 (ones 0 8) [(0, 8, 1, 80)]
    else if item = 4 then rwItem 9 (ones 0 4) [(0, 4, 1, 11)]
    else if 0x010 ≤ item ∧ item ≤ 0x01B then rwItem 0 full
    else if 0x020 ≤ item ∧ item ≤ 0x02B then rwItem full full
    else if 0x030 ≤ item ∧ item ≤ 0x032 then roItem
    else none
  else if inst ≤ 2 then
    if item = 0 then cmdItem 3
    else if 1 ≤ item ∧ item ≤ 4 then roItem
    else none
  else none

/-- How many occurrences in how many ms make source n SEVERE by default, and its default reaction (0 LOG, 1 HALTER,
2 SAFE) (R496). -/
def srcDefault (n : Nat) : Nat × Nat × Nat :=
  if n < 48 then (3, 3600000, 0)
  else if n < 54 then (3, 600000, 0)
  else if n < 58 then (1, 1000, 1)
  else if n = 58 then (1, 1000, 2)
  else if n < 61 then (1, 1000, 0)
  else if n < 69 then (1, 1000, 1)
  else if n < 92 then (1, 1000, 0)
  else if n < 94 then (1, 1000, 1)
  else if n = 94 then (3, 86400000, 0)
  else if n < 97 then (3, 60000, 0)
  else if n = 97 then (3, 3600000, 0)
  else if n < 100 then (1, 1000, 0)
  else if n < 108 then (1, 1000, 2)
  else if n = 110 then (1, 3600000, 0)
  else if n = 111 then (1, 1000, 2)
  else if n = 113 then (3, 60000, 0)
  else (1, 1000, 0)

/-- Sources of the safety class (R496). -/
def safetyClass (n : Nat) : Bool := n == 58 || (100 ≤ n && n ≤ 107) || n == 111

/-- Sources whose SRC_CFG and SRC_W are fixed, so that every write is DENIED (R505). -/
def srcFixed (n : Nat) : Bool := safetyClass n || 115 ≤ n

/-- The default of SRC_CFG (R496, R505). -/
def srcCfgDefault (n : Nat) : Nat :=
  if 116 ≤ n then 0
  else
    let d := srcDefault n
    d.1 ||| (if d.2.2 = 1 then 1 <<< 8 else 0) ||| (if d.2.2 = 2 then 1 <<< 9 else 0) ||| 1 <<< 10

/-- The default of SRC_W (R496, R505). -/
def srcWDefault (n : Nat) : Nat := if 116 ≤ n then 0 else (srcDefault n).2.1

/-- The fault block: collector and sources (R525). -/
def descFault (inst item : Nat) : Option Desc :=
  if inst = 0 then
    if item = 0 then rwItem (1 ||| 4 <<< 8 ||| 135 <<< 16) (1 ||| ones 8 4 ||| ones 16 8) [(8, 4, 1, 8), (16, 8, 85, 145)]
    else if (0x010 ≤ item ∧ item ≤ 0x016) ∨ (0x020 ≤ item ∧ item ≤ 0x02C) ∨ (0x030 ≤ item ∧ item ≤ 0x032) then roItem
    else none
  else if 0x100 ≤ inst ∧ inst ≤ 0x17F then
    if item = 0 then rwItem (srcCfgDefault (inst - 0x100)) (ones 0 12) [(0, 8, 1, 255)]
    else if item = 1 then rwItem (srcWDefault (inst - 0x100)) (ones 0 27) [(0, 27, 1, 86400000)]
    else if 0x010 ≤ item ∧ item ≤ 0x014 then roItem
    else none
  else none

/-- The safety block (R575). -/
def descSafety (inst item : Nat) : Option Desc :=
  if inst ≠ 0 then none
  else if item = 0 then rwItem (15 <<< 8 ||| 30 <<< 16) (ones 0 4 ||| ones 8 8 ||| ones 16 7) [(8, 8, 0, 240), (16, 7, 5, 50)]
  else if item = 1 then rwItem 10 (ones 0 6) [(0, 6, 1, 40)]
  else if 0x010 ≤ item ∧ item ≤ 0x014 then roItem
  else if 0x020 ≤ item ∧ item ≤ 0x023 then
    rwItem (100 ||| 3 <<< 12 ||| 1 <<< 17 ||| 1 <<< 18) (ones 0 10 ||| ones 12 3 ||| ones 16 3) [(0, 10, 10, 1000), (12, 3, 1, 7)]
  else if 0x028 ≤ item ∧ item ≤ 0x02B then roItem
  else if 0x100 ≤ item ∧ item < 0x200 then
    if item % 8 = 0 then rwItem 0 (ones 0 9 ||| ones 16 15)
    else if item % 8 = 1 ∨ item % 8 = 2 then rwItem 0 full
    else if item % 8 = 3 then rwItem 0 full [(0, 32, 0, 0x7FFFFFFF)]
    else if item % 8 = 4 then rwItem (1 ||| 100 <<< 16) (ones 0 4 ||| ones 16 10) [(0, 4, 1, 8), (16, 10, 10, 1000)]
    else if item % 8 = 5 then roItem
    else none
  else if 0x200 ≤ item ∧ item < 0x280 then
    if item % 8 = 0 then rwItem 1023 (ones 0 10 ||| ones 16 4)
    else if item % 8 = 1 then rwItem 0 full
    else if item % 8 = 2 then rwItem 100 (ones 0 14) [(0, 14, 10, 10000)]
    else if item % 8 = 3 then roItem
    else none
  else none

/-- The optical block: sources, driver and wavelength classes (R331). -/
def descOptical (inst item : Nat) : Option Desc :=
  if inst < 16 then
    if item = 0 then rwItem 0 (ones 0 3 ||| ones 4 2 ||| 1 <<< 8) [(0, 3, 0, 3)]
    else if item = 1 then rwItem 0 (ones 0 12)
    else if item = 2 then rwItem 65536 (ones 0 17) [(0, 17, 0, 65536)]
    else if item = 3 then rwItem 0 (ones 0 24) [(0, 24, 0, 10485760)]
    else if item = 4 then cmdItem 3
    else if 0x010 ≤ item ∧ item ≤ 0x014 then roItem
    else none
  else if inst = 0x010 then
    if item = 0 then rwItem 255 (ones 0 8)
    else if item = 1 then rwItem (105 ||| 200 <<< 8) (ones 0 24) [(0, 8, 85, 140), (8, 16, 1, 10000)]
    else if item = 2 then rwItem (60 ||| 1 <<< 16) (ones 0 12 ||| 1 <<< 16) [(0, 12, 1, 3600)]
    else if item = 3 then rwItem 2500 (ones 0 16)
    else if item = 8 then roItem
    else none
  else if 0x020 ≤ inst ∧ inst ≤ 0x023 then
    if item = 0 then rwItem 0 full else none
  else none

/-- The default priority of an event code (R401). -/
def evPrioDefault (code : Nat) : Nat :=
  if code = 0x01 ∨ code = 0x02 then 4
  else if code = 0x03 then 5
  else if code = 0x04 then 2
  else if code = 0x05 then 5
  else if code = 0x06 then 3
  else if code = 0x07 ∨ code = 0x08 then 5
  else if code = 0x09 then 4
  else if code = 0x0A ∨ code = 0x0B ∨ code = 0x0C then 6
  else if code = 0x0D then 3
  else if code = 0x0E then 2
  else if code = 0x0F then 4
  else if code = 0x10 then 1
  else if code = 0x11 ∨ code = 0x12 then 3
  else if code = 0x30 then 6
  else if code = 0x31 then 5
  else if code = 0x32 then 2
  else if 0x40 ≤ code ∧ code ≤ 0x5F then 7
  else if 0x60 ≤ code ∧ code ≤ 0x6F then 4
  else if 0x70 ≤ code ∧ code ≤ 0x7F then 5
  else 0

/-- The queue block (R432). -/
def descQueue (inst item : Nat) : Option Desc :=
  if inst ≠ 0 then none
  else if item = 0 then rwItem 0 1
  else if item = 1 then rwItem 1 (ones 0 12 ||| ones 16 14) [(0, 12, 1, 4095), (16, 12, 0, 4094), (28, 2, 0, 2)]
  else if item = 2 then rwItem (3072 ||| 2048 <<< 16) (ones 0 12 ||| ones 16 14) [(0, 12, 1, 4095), (16, 12, 0, 4094), (28, 2, 0, 2)]
  else if item = 3 then cmdItem 15
  else if item = 4 then roItem (1 <<< 13)
  else if item = 5 ∨ item = 6 then roItem
  else if item = 7 then rwItem (2048 ||| 1536 <<< 12 ||| 255 <<< 24) full [(24, 8, 1, 255)]
  else if 8 ≤ item ∧ item ≤ 0x00A then roItem
  else if 0x100 ≤ item ∧ item ≤ 0x1FF then rwItem (evPrioDefault (item - 0x100)) (ones 0 4)
  else none

/-- The cell block: tap routing, guard, charge amplifiers, SP and TRIG_MISS (R44, R52, R83, R105, R632). -/
def descCell (inst item : Nat) : Option Desc :=
  if 48 ≤ inst then none
  else if 0x100 ≤ item ∧ item ≤ 0x10B then rwItem 0 (ones 0 4 ||| 1 <<< 8) [(0, 4, 0, 0xC)]
  else if item = 0x110 then rwItem 0 (ones 0 2 ||| ones 4 4)
  else if item = 0x120 then cmdItem (ones 0 4 ||| 1 <<< 8)
  else if item = 0x121 ∨ item = 0x122 then roItem
  else if item = 0x130 ∨ item = 0x131 then
    rwItem (6 ||| 2 <<< 4 ||| 80 <<< 8 ||| 60 <<< 16) (ones 0 6 ||| ones 8 7 ||| ones 16 12)
      [(0, 4, 0, 9), (4, 2, 0, 2), (8, 7, 50, 95), (16, 12, 1, 3600)]
  else if item = 0x138 ∨ item = 0x139 then roItem
  else if item = 0x140 then roItem
  else none

/-- The channel block (R45, R65, R73, R92, R134, R143, R155, R161, R167, R183, R195, R196, R228, R494). -/
def descChannel (inst item : Nat) : Option Desc :=
  if 384 ≤ inst then none
  else if item = 0x020 then rwItem 0x200 (ones 0 14) [(0, 4, 0, 0xC), (4, 4, 0, 0xC), (8, 2, 0, 2)]
  else if item = 0x024 then roItem
  else if item = 0x030 then rwItem 250 (ones 0 11) [(0, 11, 50, 2000)]
  else if item = 0x040 then rwItem (7 <<< 12 ||| 50 <<< 16) (ones 0 3 ||| ones 4 2 ||| ones 8 3 ||| ones 12 3 ||| ones 16 7) [(16, 7, 10, 90)]
  else if item = 0x041 then rwItem 10 (ones 0 12) [(0, 12, 1, 3600)]
  else if item = 0x042 then rwItem (1 <<< 4) (ones 0 2 ||| 1 <<< 4) [(0, 2, 0, 2)]
  else if item = 0x043 ∨ item = 0x044 then roItem
  else if item = 0x050 then rwItem 0 7
  else if item = 0x051 then rwItem 0 (ones 0 8 ||| ones 16 16)
  else if item = 0x052 then rwItem 0 (ones 0 6 ||| ones 16 16) [(0, 2, 0, 2)]
  else if item = 0x053 then roItem
  else if item = 0x060 then rwItem (16 <<< 3) (ones 0 9 ||| ones 16 8) [(3, 6, 0, 40)]
  else if item = 0x061 ∨ item = 0x062 then rwItem 0 full
  else if item = 0x063 then cmdItem 15
  else if item = 0x064 then roItem
  else if 0x068 ≤ item ∧ item ≤ 0x07B then roItem
  else if item = 0x080 then rwItem 0 (ones 0 7 ||| ones 8 2)
  else if item = 0x081 then rwItem 0 full
  else if item = 0x082 then rwItem 5243 full [(0, 32, 1, 0x7FFFFFFF)]
  else if item = 0x083 then rwItem (200 ||| 10 <<< 16) (ones 0 23) [(0, 16, 1, 5000), (16, 7, 1, 50)]
  else if item = 0x084 then cmdItem 1
  else if item = 0x085 then rwItem 1000 full [(0, 32, 16, full)]
  else if 0x090 ≤ item ∧ item ≤ 0x0AC then roItem
  else if item = 0x0B0 then rwItem (1 ||| 1000 <<< 16) (1 ||| ones 16 16) [(16, 16, 1, 60000)]
  else if item = 0x0B1 then rwItem 1 (ones 0 8)
  else none

/-- The decimation factor of a gait at reset (R132). -/
def gaitDecimDefault (g : Nat) : Nat :=
  match g with
  | 0 => 2
  | 1 => 4
  | 2 => 16
  | 3 => 16
  | 4 => 64
  | 5 => 80
  | 6 => 160
  | _ => 16000

/-- The built-in set of bank A of a gait at reset (R132). -/
def gaitBankDefault (g : Nat) : Nat :=
  match g with
  | 1 => 1
  | 3 => 4
  | 6 => 3
  | _ => 2

/-- The gait block (R130), with the fixed cascade coefficients of R631 in instance 0x0FF. -/
def descGait (inst item : Nat) : Option Desc :=
  if inst < 8 then
    if item = 0 then rwItem (gaitDecimDefault inst) (ones 0 14)
    else if item = 1 then rwItem (100 <<< 8) (1 ||| ones 8 16) [(8, 16, 1, 65535)]
    else if item = 2 then rwItem 0 3
    else if item = 0x010 then rwItem (gaitBankDefault inst <<< 28) (ones 0 10 ||| 1 <<< 12 ||| ones 16 8 ||| ones 28 3) [(0, 10, 0, 512), (28, 3, 0, 5)]
    else if item = 0x011 then rwItem 0 (ones 0 10 ||| 1 <<< 12 ||| ones 16 8 ||| ones 28 3) [(0, 10, 0, 512), (28, 3, 0, 5)]
    else if item = 0x012 then cmdItem 1
    else if 0x013 ≤ item ∧ item ≤ 0x015 then roItem
    else if 0x200 ≤ item ∧ item ≤ 0x5FF then rwItem 0 full
    else none
  else if inst = 0x0FF then roItem
  else none

/-- The trigger condition block (R198). -/
def descSlot (inst item : Nat) : Option Desc :=
  if 512 ≤ inst then none
  else if item = 0 then rwItem (1 <<< 12 ||| 1 <<< 16) (ones 0 3 ||| ones 4 3 ||| ones 8 5 ||| ones 16 8) [(0, 3, 0, 5), (16, 8, 1, 255)]
  else if item = 1 ∨ item = 2 then rwItem 0 full
  else if item = 3 then rwItem 0 full [(0, 32, 0, 0x7FFFFFFF)]
  else if item = 4 then rwItem 1 (ones 0 8) [(0, 8, 1, 255)]
  else if item = 5 then rwItem (5 ||| 10 <<< 8 ||| 1024 <<< 16) (ones 0 4 ||| ones 8 5 ||| ones 16 16) [(8, 5, 1, 24), (16, 16, 257, 65535)]
  else if item = 6 then rwItem 512 (ones 0 16) [(0, 16, 256, 65535)]
  else if item = 7 then rwItem 524 full [(0, 32, 0, 0x7FFFFFFF)]
  else if item = 8 then rwItem 0 (ones 0 3 ||| ones 16 16) [(0, 2, 0, 2)]
  else if item = 0x010 then roItem
  else none

/-- The coincidence group block (R208). -/
def descGroup (inst item : Nat) : Option Desc :=
  if 32 ≤ inst then none
  else if item = 0 then rwItem (1 <<< 1 ||| 1 <<< 2 ||| 1 <<< 8) (ones 0 3 ||| ones 4 4 ||| ones 8 10) [(8, 10, 1, 512)]
  else if item = 1 then rwItem 16 (ones 0 24) [(0, 24, 1, 16777215)]
  else if item = 2 then roItem
  else if 0x010 ≤ item ∧ item ≤ 0x01F then rwItem 0 full
  else none

/-- The record block: profiles, record slots and the engine (R211, R494). -/
def descRecord (inst item : Nat) : Option Desc :=
  if inst < 16 then
    if item = 0 then rwItem 0 (ones 0 4 ||| ones 16 16)
    else if item = 1 then rwItem 8000 full
    else if item = 2 then rwItem 32000 full
    else if item = 3 then rwItem 1 (ones 0 8)
    else if 0x010 ≤ item ∧ item ≤ 0x01B then rwItem 0 full
    else none
  else if 0x100 ≤ inst ∧ inst ≤ 0x10F then
    if item ≤ 4 then roItem
    else if item = 5 then cmdItem 1
    else none
  else if inst = 0x1FF then
    if item ≤ 2 then roItem
    else if item = 3 then rwItem 0 1
    else if item = 4 then cmdItem (ones 0 5)
    else none
  else none

/-- The calibration block (R310). -/
def descCal (inst item : Nat) : Option Desc :=
  if inst = 0 then
    if item = 0 then rwItem (1 ||| 24 <<< 8 ||| 10 <<< 16) (ones 0 2 ||| ones 8 16) [(8, 8, 1, 168), (16, 8, 1, 240)]
    else if item = 1 then rwItem (200 ||| 50 <<< 16) full [(0, 16, 1, 10000), (16, 16, 1, 10000)]
    else if item = 2 then rwItem 50 (ones 0 16) [(0, 16, 1, 10000)]
    else if item = 3 then rwItem (50 ||| 100 <<< 16) full [(0, 16, 10, 10000), (16, 16, 10, 10000)]
    else if item = 4 ∨ item = 6 then some ⟨.wo, 0, ones 0 16, []⟩
    else if item = 5 then some ⟨.wo, 0, 1, []⟩
    else if item = 0x010 ∨ item = 0x011 then roItem
    else if item = 0x012 then rwItem 0 full
    else if 0x013 ≤ item ∧ item ≤ 0x022 then roItem
    else none
  else if 0x200 ≤ inst ∧ inst ≤ 0x203 then
    if item ≤ 2 then roItem else none
  else if inst = 0x204 then
    if item ≤ 1 then roItem else none
  else if 0x300 ≤ inst ∧ inst ≤ 0x3BF then
    if item ≤ 1 then roItem else none
  else if 0x400 ≤ inst ∧ inst ≤ 0x57F then
    if item = 0 then rwItem 0 3
    else if item ≤ 4 then roItem
    else none
  else if 0x600 ≤ inst ∧ inst ≤ 0x62F then
    if item ≤ 3 then roItem else none
  else none

/-- The excitation source block (R60). -/
def descSource (inst item : Nat) : Option Desc :=
  if 192 ≤ inst then none
  else if item = 0 then rwItem 0 (ones 0 3 ||| ones 4 2) [(0, 3, 0, 4)]
  else if item = 1 then rwItem 0 (ones 0 16)
  else if item = 2 then rwItem 0 (ones 0 24) [(0, 24, 0, 10485760)]
  else if item = 3 then rwItem 0 (ones 0 13 ||| ones 16 13)
  else if item = 4 then rwItem 20 (ones 0 7)
  else if item = 0x010 then rwItem 0 full
  else if item = 0x011 then rwItem 400 (ones 0 16) [(0, 16, 150, 10000)]
  else if item = 0x012 then rwItem 25 (ones 0 16) [(0, 16, 1, 90)]
  else if item = 0x013 then rwItem (10 ||| 20 <<< 16) full [(0, 16, 1, 1000), (16, 16, 1, 65535)]
  else if item = 0x014 then rwItem (500 ||| 60 <<< 20) full [(0, 20, 0, 100000), (20, 12, 1, 1440)]
  else if item = 0x015 then rwItem (3 ||| 10 <<< 8 ||| 100 <<< 16) full
  else if item = 0x016 then rwItem 5 (ones 0 10) [(0, 10, 1, 1000)]
  else if 0x020 ≤ item ∧ item ≤ 0x024 then roItem
  else none

/-- The item an ID names, none when it does not exist. -/
def descOf (id : Nat) : Option Desc :=
  let i := pidInst id
  let k := pidItem id
  match pidBlock id with
  | 0x01 => descSystem i k
  | 0x02 => descTime i k
  | 0x03 => descPort i k
  | 0x04 => descArchive i k
  | 0x05 => descFault i k
  | 0x06 => descSafety i k
  | 0x07 => descOptical i k
  | 0x08 => descQueue i k
  | 0x10 => descCell i k
  | 0x11 => descChannel i k
  | 0x12 => descGait i k
  | 0x13 => descSlot i k
  | 0x14 => descGroup i k
  | 0x15 => descRecord i k
  | 0x16 => descCal i k
  | 0x17 => descSource i k
  | _ => none

/-- The default value of an ID. -/
def dfltOf (id : Nat) : Nat := ((descOf id).map Desc.dflt).getD 0

/-- Whether v keeps every reserved bit of the item 0 and every field within its range. -/
def fieldsOk (d : Desc) (v : Nat) : Bool :=
  (v &&& d.mask) == v && d.rng.all (fun r => r.2.2.1 ≤ fld v r.1 r.2.1 && fld v r.1 r.2.1 ≤ r.2.2.2)

/-- The items whose writes change a cell's signal path and take effect at its next base-rate boundary: gain, routing,
excitation, filter and gait parameters (R28). -/
def signalPath (id : Nat) : Bool :=
  let k := pidItem id
  match pidBlock id with
  | 0x10 => (0x100 ≤ k && k ≤ 0x110) || k == 0x130 || k == 0x131
  | 0x11 => k == 0x020 || k == 0x040 || k == 0x050 || k == 0x051 || k == 0x052
  | 0x12 => k ≤ 2 || k == 0x010 || k == 0x011
  | 0x17 => k ≤ 4
  | _ => false

/-- The cell an ID belongs to, for the items held in cells: cell, channel and source blocks (R5, R16). -/
def cellOf (id : Nat) : Option Nat :=
  match pidBlock id with
  | 0x10 => some (pidInst id)
  | 0x11 => some (pidInst id / 8)
  | 0x17 => some (pidInst id / 4)
  | 0x13 => some (pidInst id % 48)
  | _ => none

end Sys2Proof.Machine
end

