-- ==== Sys2Proof/Syntax.lean ====
section
/-! DEFINITION. The commands and events of the hub: one constructor per row of spec/opcode_table.json, with the
row's operands. Every command carries the instant t at which it happens, in nanoseconds of RUNTIME (R238), and an
event carries what the outside world shows the hub at that instant (a measured voltage, a received frame, a pin). -/

namespace Sys2Proof

/-- The header of the WCP request a command belongs to (R343): the port it came in on (0 to 5 for P0 to P5, 6 for the
host port), its source hub ID (1023 for the host), tag, stream ID, PRIO, ACKREQ and version. -/
structure Hdr where
  port : Nat
  source : Nat
  tag : Nat
  stream : Nat
  prio : Nat
  ackreq : Bool
  ver : Nat
  deriving DecidableEq, Repr

/-- The handshake crossings of R23 whose patience can run out. -/
inductive Crossing where
  | cellHold | cellTrigger | cfgCell | holdLane | holdStorage | laneCore | hostCore | cellSafety
  deriving DecidableEq, Repr

/-- What the SECDED check of a memory read finds (R406, R417): no error, a corrected one, or an uncorrectable one.
DESIGN CHOICE, log entry 13. -/
inductive Ecc where
  | ok | corrected | bad
  deriving DecidableEq, Repr

/-- One measurement of a source monitor (R62): V_DRV in microvolts, I_DRV and I_RET in 10 pA units, and the drive
compliance limit of the quadrant in microvolts (R55). DESIGN CHOICE, log entry 12. -/
structure Monitor where
  vDrv : Nat
  iDrv : Nat
  iRet : Nat
  limit : Nat
  deriving DecidableEq, Repr

/-- A charge-amplifier reset (R86 to R88): the amplifier's output referred to the channel's input when the switch closes,
the 8 modulator samples before it closes and the 8 after it opens, all in U = 4.096 V / 2^38, and the modulator periods of
the reset window. DESIGN CHOICE, log entry 12. -/
structure QaLevels where
  level : Int
  pre : List Int
  post : List Int
  width : Nat
  deriving DecidableEq, Repr

/-- What the converters of a channel deliver over one base-rate period (R80, R81, R124): the 256 modulator samples of its
own modulator and of SP while SP converts the channel's inputs, in U = 4.096 V / 2^38, oldest first; whether the overload
detector of each fired; and whether an input lay outside the range of R78. DESIGN CHOICE, log entry 12. -/
structure BasePer where
  own : List Int := []
  sp : List Int := []
  ovl : Bool := false
  spOvl : Bool := false
  outside : Bool := false
  deriving DecidableEq, Repr

/-- A coarse value as it arrives at the safety unit (R148, R553). -/
structure CoarseVal where
  v : Word
  valid : Bool
  clip : Bool
  sensor : Bool
  deriving DecidableEq, Repr

/-- The payload of a network trigger message (R221). DESIGN CHOICE, log entry 15. -/
structure NetTrig where
  ncode : Nat
  hub : Nat
  epoch : Nat
  state : Nat
  island : Nat
  number : Nat
  pre : Nat
  trig : Nat
  decided : Nat
  deriving DecidableEq, Repr

/-- The payload of a TIME frame (R489); t1 to t4 in units of 2^-16 ns. DESIGN CHOICE, log entry 15. -/
structure TimeMsg where
  exch : Nat
  state : Nat
  island : Nat
  lead : Nat
  t1 : Nat
  t2 : Nat
  t3 : Nat
  t4 : Nat
  bound : Nat
  d : Nat
  deriving DecidableEq, Repr

/-- An IEEE 1588 message on P0 or P1 (R258): messageType, sequence, its time field and the port's receive stamp in units of 2^-16
ns; of an Announce the grandmaster's class, priority1, identity, priority2, accuracy and variance and the steps removed; the
sender's port identity, the domain, whether it came by UDP/IPv4, the twoStepFlag, and the correction in units of 2^-16 ns.
DESIGN CHOICE, log entry 15. -/
structure PtpMsg where
  kind : Nat
  seq : Nat
  origin : Nat
  rx : Nat
  cls : Nat
  prio1 : Nat
  ident : Nat
  prio2 : Nat := 128
  accuracy : Nat := 0xFE
  variance : Nat := 0xFFFF
  steps : Nat := 0
  sender : Nat := 0
  domain : Nat := 0
  udp : Bool := false
  twoStep : Bool := false
  corr : Int := 0
  deriving DecidableEq, Repr

/-- What a calibration is made on (R280): a converter of a cell (8 is SP), a source, or an amplifier of a cell. -/
inductive CalObj where
  | conv (cell k : Nat)
  | source (n : Nat)
  | amp (cell qa : Nat)
  deriving DecidableEq, Repr

/-- A measured calibration (R283, R286): offset and gain codes for G1 to G128 (for a source the gain list holds the trim
of each range; for an amplifier its head is the Cf code), and the pair match of a source in 0.001 %. DESIGN CHOICE, log
entry 12. -/
structure CalOut where
  obj : CalObj
  ofs : List Int
  gain : List Int
  pairMatch : Int
  deriving DecidableEq, Repr

/-- What a triangulation run measures (R297): the ratios Q0/Q1, Q0/Q2, Q0/Q3, Q1/Q2, Q1/Q3 and Q2/Q3 of the quadrant
references, those of Q0 to Q3 to REFIN, the REFIN voltage in microvolts, the die temperatures in 0.01 degrees, and whether the
boot flash takes what the run has it write (R305). DESIGN CHOICE, log entry 12. -/
structure TriOut where
  pairs : List Rat
  refs : List Rat
  refin : Nat
  temps : List Int
  logOk : Bool := true
  deriving DecidableEq, Repr

/-- The selection of an archive job (R430). -/
structure ArcSel where
  chans : BitVec 384
  first : Nat
  last : Nat
  profs : BitVec 16
  deriving DecidableEq, Repr

/-- How an archive job ends (R431): complete, with the positions of the blocks whose CRC failed when read (R429), out of
output space, or a needed port lost. -/
inductive JobOut where
  | complete (bad : List Nat)
  | noSpace
  | portLost
  deriving DecidableEq, Repr

/-- The HELLO payload (R474). DESIGN CHOICE, log entry 15. -/
structure Hello where
  eui : Nat
  cap : BitVec 3
  excl : BitVec 3
  seen : Bool
  target : Nat
  countdown : Option Nat
  kind : Nat
  idValid : Bool
  refuse : Bool
  port : Nat
  id : Nat
  lead : Nat
  prio : Nat
  cls : Nat
  island : Nat
  hops : Nat
  c2 : Nat
  c3 : Nat
  deriving DecidableEq, Repr

/-- A Borku frame (R468) with the outcome of its CRC check. DESIGN CHOICE, log entries 15, 111. -/
structure Frame where
  typ : Nat
  cls : Nat
  bcast : Bool
  dest : Nat
  src : Nat
  seq : Nat
  hops : Nat
  payload : List Byte
  crcOk : Bool
  deriving DecidableEq, Repr

/-- The LSA payload (R478); a neighbour is (hub ID, local port, generation). DESIGN CHOICE, log entry 15. -/
structure Lsa where
  eui : Nat
  id : Nat
  boot : Nat
  seq : Nat
  claim : Bool
  coll : BitVec 6
  nbrs : List (Nat × Nat × Nat)
  deriving DecidableEq, Repr

/-- The HEARTBEAT payload (R490) with the source of its frame. DESIGN CHOICE, log entry 15. -/
structure Heartbeat where
  src : Nat
  seq : Nat
  leads : Bool
  state : Nat
  island : Nat
  ntime : Nat
  deriving DecidableEq, Repr

/-- The supply rails of R602. -/
inductive Rail where
  | vddaon | vioaon | vddc | vddl | vddla | vio18 | avdd (q : Nat)
  deriving DecidableEq, Repr

/-- What the ROM meets at a start: the REFSEL and BOOTSEL straps and the check code of each slot (R581, R584).
DESIGN CHOICE, log entry 14. -/
structure BootIn where
  refsel : Bool
  bootsel : Bool
  codeA : Nat
  codeB : Nat
  deriving DecidableEq, Repr

/-- What a storage port finds in its device (R395, R418, R419): whether it answers and reaches HS200, its sectors, the hub
ID of its label when it is valid, and the two configuration copies it holds with their generations. -/
structure StDev where
  ok : Bool
  sectors : Nat
  label : Option Nat
  cfg0 : Option (Nat × List Word) := none
  cfg1 : Option (Nat × List Word) := none
  deriving DecidableEq, Repr

/-- The commands and events of the hub, one constructor per row of the table. -/
inductive Instr where
  /-- WRITE (R337): Host-port WRITE transaction passes one WCP packet to the control core or safety unit, or ends with LAST set to RETRY or BAD_FRAME. -/
  | write (t : Nat) (stated : Nat) (bytes : List Byte)
  /-- READ_REPLY (R338): Host-port transaction clocks out the head reply and removes it only if all of its bytes were clocked. -/
  | readReply (t : Nat) (clocked : Nat) (ecc : List Ecc)
  /-- READ_EVENTS (R339): Host-port transaction removes one event-queue entry per 8 bytes clocked, with underrun reads beyond the queued entries. -/
  | readEvents (t : Nat) (clocked : Nat) (ecc : List Ecc)
  /-- STATUS (R336): Host-port transaction that returns the status word alone. -/
  | status (t : Nat)
  /-- BAD_TRANSACTION_CODE (R335): A host transaction with an unknown code sets LAST to 3 and has no effect. -/
  | badTransactionCode (t : Nat) (code : Nat)
  /-- COMMAND_START (R363): A waiting packet starts once its ORD or FENCE conditions are met, in PRIO and arrival order. -/
  | commandStart (t : Nat)
  /-- NOP (R349): NOP command, completed on receipt. -/
  | nop (t : Nat) (h : Hdr)
  /-- IDENTIFY (R349): Returns part number, screen, stepping, hub ID, EUI-64, firmware version and active slot. -/
  | identify (t : Nat) (h : Hdr)
  /-- FENCE (R365): FENCE command runs its CMD, CFG and OUT scopes in order and holds later packets of its source while CMD or CFG waits. -/
  | fence (t : Nat) (h : Hdr) (scope : Nat)
  /-- FENCE_CFG_MET (R366): Every configuration write completed before the CFG step has taken effect, so the fence proceeds. -/
  | fenceCfgMet (t : Nat) (h : Hdr)
  /-- FENCE_OUT_MET (R367): Everything produced before the fence point has left every UP port, and the FENCE reply is queued behind the barrier. -/
  | fenceOutMet (t : Nat) (h : Hdr)
  /-- PD_CTL (R33): Switches a power domain, or named lane switches of PD13, off or on, completing when they have settled. -/
  | pdCtl (t : Nat) (h : Hdr) (domain action lanes : Nat)
  /-- READ_PARAM (R352): Reads a list of parameter IDs in order, with no configuration write taking effect in between. -/
  | readParam (t : Nat) (h : Hdr) (ids : List Word)
  /-- WRITE_PARAM (R350): Checks a list of parameter writes as one set and applies none if any item is rejected. -/
  | writeParam (t : Nat) (h : Hdr) (items : List (Word × Word))
  /-- READ_RANGE (R353): Reads consecutive items of one block instance. -/
  | readRange (t : Nat) (h : Hdr) (first : Word) (count : Nat)
  /-- WRITE_RANGE (R353): Writes consecutive items of one block instance, checked as one set. -/
  | writeRange (t : Nat) (h : Hdr) (first : Word) (vals : List Word)
  /-- REGISTER_WRITE (R350): Write of a configurable item that has no behaviour of its own: checks against the resulting state, then issue to its cell or block. -/
  | registerWrite (t : Nat) (h : Hdr) (id val : Word)
  /-- CELL_WRITE_EFFECT (R28): At the first base-rate boundary after a signal-path write reaches a cell, the change takes effect: routing, gain, excitation, filter or gait. -/
  | cellWriteEffect (t : Nat) (cell : Nat)
  /-- CROSSPOINT_CLOSE (R48): 250 ns after a matrix boundary, the new crosspoints close and the source currents change. -/
  | crosspointClose (t : Nat) (cell : Nat)
  /-- CROSSING_PATIENCE_EXPIRY (R21): A sender on a closed handshake channel reaches its patience time and applies that crossing's policy. -/
  | crossingPatienceExpiry (t : Nat) (x : Crossing) (unit : Nat)
  /-- VW_READ (R72): Starts a vibrating-wire reading on a bound source, or refuses it with PARAM_RANGE, NOT_COMMITTED, DENIED or RETRY. -/
  | vwRead (t : Nat) (h : Hdr) (src : Nat)
  /-- VW_RESISTANCE_END (R73): End of the resistance step: the coil check is evaluated, and the reading either ends with the coil status or proceeds to pluck. -/
  | vwResistanceEnd (t : Nat) (src : Nat) (m : Monitor)
  /-- VW_PLUCK_START (R73): At the next boundary the source starts its VW sweep burst. -/
  | vwPluckStart (t : Nat) (src : Nat)
  /-- VW_LISTEN_START (R73): At the end of the burst the source stops and the channel crosspoints close to the coil for settling and capture. -/
  | vwListenStart (t : Nat) (src : Nat)
  /-- VW_CAPTURE_END (R73): End of the capture window: the measurement engine returns period, frequency and coil resistance. -/
  | vwCaptureEnd (t : Nat) (src : Nat)
  /-- RECORD_MANUAL (R349): Opens a manual record on a profile, as a write of MANUAL, and replies with its epoch and number. -/
  | recordManual (t : Nat) (h : Hdr) (profile : Nat) (net : Bool)
  /-- RECORD_CLOSE (R349): Closes an open record slot, as a write of RCTL. -/
  | recordClose (t : Nat) (h : Hdr) (slot : Nat)
  /-- SCHEDULE (R268): Takes the lowest free action entry, checks it and holds or arms it, or answers NO_SPACE. -/
  | schedule (t : Nat) (h : Hdr) (typ : Word) (target : Nat) (args : List Word)
  /-- CANCEL (R267): Cancels a held or armed action entry. -/
  | cancel (t : Nat) (h : Hdr) (entry : Nat)
  /-- TIME_READ (R349): Returns NTIME and RUNTIME latched at one Bridle edge, with TSTATE, BOUND and LEAD. -/
  | timeRead (t : Nat) (h : Hdr)
  /-- CAL_REQUEST (R291): Requests a calibration; answered ACCEPTED and completed later, or refused with RETRY, BUSY_LIVE or DENIED. -/
  | calRequest (t : Nat) (h : Hdr) (kind target : Nat)
  /-- SELF_TEST (R307): Requests a self-test; a live test is ACCEPTED, and an offline test is BUSY_LIVE unless its channels may pause. -/
  | selfTest (t : Nat) (h : Hdr) (test target : Nat)
  /-- OS_APPLY (R323): Applies the staged sets of the named optical sources at one base-rate boundary. -/
  | osApply (t : Nat) (h : Hdr) (mask : Nat)
  /-- CAL_REQ (R291): Write of CAL_REQ that starts a deferred calibration of a converter, SP, source, amplifier, triangulation or cell. -/
  | calReq (t : Nat) (h : Hdr) (kind target : Nat)
  /-- TEST_REQ (R307): Write of TEST_REQ that starts a deferred self-test. -/
  | testReq (t : Nat) (h : Hdr) (test target : Nat)
  /-- BASELINE (R301): Write of BASELINE that makes the next accepted triangulation run the drift baseline. -/
  | baseline (t : Nat) (h : Hdr) (val : Word)
  /-- TAP_EXCURSION_START (R42): A tap comparator detects a tap outside the operating range; its channels carry SENSOR and an event names the tap. -/
  | tapExcursionStart (t : Nat) (cell tap : Nat)
  /-- TAP_EXCURSION_END (R42): The tap has been back in range for 1 ms, and SENSOR from the excursion stops. -/
  | tapExcursionEnd (t : Nat) (cell tap : Nat)
  /-- SOURCE_MONITOR_EVALUATION (R64): Every 1 ms the source monitor measures V_DRV, I_DRV, I_RET and R_LOAD and updates the debounced OPEN, SHORT and LEAK status. -/
  | sourceMonitorEvaluation (t : Nat) (src : Nat) (m : Monitor)
  /-- DRIFT_EVALUATION (R64): Every 1 s the R_LOAD slope over the DRIFT window is evaluated for DRIFT status. -/
  | driftEvaluation (t : Nat) (src : Nat) (m : Monitor)
  /-- BLANKING_END (R63): The blanking time after a source change expires, and evaluation restarts with cleared debounce counts. -/
  | blankingEnd (t : Nat) (src : Nat)
  /-- QA_THRESHOLD_CROSSING (R86): The charge-amplifier output crosses THRESH and the amplifier resets. -/
  | qaThresholdCrossing (t : Nat) (cell qa : Nat) (lv : QaLevels)
  /-- QA_PERIODIC_RESET (R86): PERIOD seconds after the previous reset, the amplifier resets at a base-rate boundary. -/
  | qaPeriodicReset (t : Nat) (cell qa : Nat) (lv : QaLevels)
  /-- QA_DEFERRED_RESET (R87): A reset deferred by a range recovery, a seam or the 1 ms minimum interval executes at the boundary after the deferral ends. -/
  | qaDeferredReset (t : Nat) (cell qa : Nat) (lv : QaLevels)
  /-- RANGE_RECOVERY_END (R95): 24 base-rate samples after a flagged gain change, the interpolation completes and held samples are released. -/
  | rangeRecoveryEnd (t : Nat) (ch : Nat)
  /-- CONVERTER_PATH_VALID (R107): 64 base-rate samples after an incoming converter starts, its path is valid and matching begins. -/
  | converterPathValid (t : Nat) (cell : Nat)
  /-- SEAMLESS_SEAM (R97): At step 4 the channel's filter chain takes SP's corrected stream and the own modulator switches to the new gain. -/
  | seamlessSeam (t : Nat) (cell : Nat)
  /-- SEAMLESS_HANDBACK_SEAM (R97): At step 7 the channel returns to its own modulator and SP becomes idle. -/
  | seamlessHandbackSeam (t : Nat) (cell : Nat)
  /-- SP_ASSIGN (R106): Write of SP_ASSIGN that retires a modulator by warm takeover (or by cold switch for a lone-fenced channel), or releases it by warm handback. -/
  | spAssign (t : Nat) (h : Hdr) (cell : Nat) (val : Word)
  /-- WARM_SEAM (R107): At the seam of a warm takeover or handback, the chain takes the incoming converter's corrected stream and the sample carries CALSWAP. -/
  | warmSeam (t : Nat) (cell : Nat) (ps : List BasePer)
  /-- AUTO_RANGE_LOWER (R100): One base-rate period after two consecutive clipped samples, the gain is lowered one code as a flagged change. -/
  | autoRangeLower (t : Nat) (ch : Nat)
  /-- AUTO_RANGE_RAISE (R101): After AUTO_QUIET seconds below DOWN_LEVEL, the gain is raised one code. -/
  | autoRangeRaise (t : Nat) (ch : Nat)
  /-- MODULATOR_FAILURE (R112): A modulator in service meets a failure criterion and is declared failed within 2 ms. -/
  | modulatorFailure (t : Nat) (cell modulator : Nat)
  /-- COLD_SWITCH_RESUME (R111): Output resumes at the first output boundary at or after f + 64, with CALSWAP and then SETTLE. -/
  | coldSwitchResume (t : Nat) (ch : Nat)
  /-- OUTPUT_SAMPLE (R128): At each output-sample boundary the chain produces a sample stamped with its represented instant, with its flags, into its stream, ring and reductions. -/
  | outputSample (t : Nat) (ch : Nat) (ps : List BasePer)
  /-- COARSE_VALUE (R147): Every 1 ms the coarse path delivers a sinc4 value with its flag byte to the trigger slots and alarm pairs. -/
  | coarseValue (t : Nat) (ch : Nat) (ps : List BasePer)
  /-- SWAP (R140): Write of SWAP that requests a FIR bank swap at the next boundary, or rejects it. -/
  | swap (t : Nat) (h : Hdr) (gait : Nat)
  /-- SWAP_EFFECT (R139): At the effective boundary the swap takes place, seamlessly or as a gait change. -/
  | swapEffect (t : Nat) (gait : Nat)
  /-- GAIT_CHANGE (R156): At the first old-rate boundary a gait change takes effect, clearing histories and opening SETTLE. -/
  | gaitChange (t : Nat) (ch : Nat)
  /-- RED_CLOSE_ACC (R175): RED_CTL bit 0 closes the running accumulator interval with MANUAL. -/
  | redCloseAcc (t : Nat) (h : Hdr) (ch : Nat)
  /-- RED_CLOSE_MM (R175): RED_CTL bit 1 closes the running min/max interval with MANUAL. -/
  | redCloseMm (t : Nat) (h : Hdr) (ch : Nat)
  /-- RED_LATCH_LIVE (R169): RED_CTL bit 2 latches the running reduction values. -/
  | redLatchLive (t : Nat) (h : Hdr) (ch : Nat)
  /-- RED_LATCH_LAST (R169): RED_CTL bit 3 latches the last closed interval values. -/
  | redLatchLast (t : Nat) (h : Hdr) (ch : Nat)
  /-- INTERVAL_CLOSE (R174): A reduction interval reaches its length and writes its accumulator and min/max entries into the stream. -/
  | intervalClose (t : Nat) (ch : Nat)
  /-- MEAS_CMD (R181): Write of MEAS_CMD that starts a commanded measurement span, or RETRY if one is in progress. -/
  | measCmd (t : Nat) (h : Hdr) (ch : Nat)
  /-- SPAN_END (R185): A measurement span reaches its last sample; a one-pass result follows, or a two-pass measurement starts. -/
  | spanEnd (t : Nat) (ch : Nat) (ofRecord : Bool)
  /-- MEAS_RESULT (R189): The result entry enters the channel's stream, with a copy in LAST_MEAS and in the record trailer. -/
  | measResult (t : Nat) (ch : Nat) (ofRecord : Bool)
  /-- GAP_ENTRY_CONT (R193): Every 60 s of a continuing gap, a gap entry with CONT set is written. -/
  | gapEntryCont (t : Nat) (ch : Nat)
  /-- LAST_SAMPLE_READ (R197): A read of LAST_SAMPLE freezes LAST_INFO. -/
  | lastSampleRead (t : Nat) (h : Hdr) (ch : Nat)
  /-- LAST_COARSE_READ (R197): A read of LAST_COARSE freezes LAST_CFLAGS. -/
  | lastCoarseRead (t : Nat) (h : Hdr) (ch : Nat)
  /-- SLOT_RESULT (R205): A slot result reaches the trigger combiner and joins or opens a trigger event for its T. -/
  | slotResult (t : Nat) (slot : Nat)
  /-- TRIGGER_EVENT (R205): The 100 µs merge window of a trigger event ends and the event is evaluated against the coincidence groups. -/
  | triggerEvent (t : Nat) (trig : Nat)
  /-- MANUAL (R215): Write of MANUAL that opens a record of the named profile at the boundary it takes effect. -/
  | manual (t : Nat) (h : Hdr) (profile : Nat) (net : Bool)
  /-- RCTL (R216): Write of RCTL that moves an open record's end to the next output boundary. -/
  | rctl (t : Nat) (h : Hdr) (slot : Nat)
  /-- RECORD_END (R216): Every member has delivered or gap-covered its last slot; the trailer is written and the record slot is freed. -/
  | recordEnd (t : Nat) (slot : Nat)
  /-- NETWORK_TRIGGER_RECEIVE (R222): A received network trigger message opens records on matching ACCEPT profiles unless it is a duplicate, UNLOCKED or from another island. -/
  | networkTriggerReceive (t : Nat) (port seq hops : Nat) (m : NetTrig)
  /-- BLOCK_FLUSH (R228): FLUSH has passed since the first item of an open stream or record block, and the block closes. -/
  | blockFlush (t : Nat) (ch : Nat) (slot : Option Nat)
  /-- REFCLK_LOST (R234): Bridle declares REFCLK lost, switches the PLLs to the DCO and reports source 74. -/
  | refclkLost (t : Nat) (cause : Nat)
  /-- REFCLK_RETURN (R234): After 100 ms within ±100 ppm, Bridle returns to REFCLK without a phase step. -/
  | refclkReturn (t : Nat)
  /-- SYNC_SEND (R259): Sixteen times per second the parent sends a SYNC carrying t1. -/
  | syncSend (t : Nat) (port : Nat)
  /-- SYNC_RECEIVE (R489): The child stamps t2 and answers with a DELAY_REQ carrying t2 and t3. -/
  | syncReceive (t : Nat) (port : Nat) (m : TimeMsg)
  /-- DELAY_REQ_RECEIVE (R489): The parent stamps t4 and sends a DELAY_RESP with t1 to t4 and its d. -/
  | delayReqReceive (t : Nat) (port : Nat) (m : TimeMsg)
  /-- DELAY_RESP_RECEIVE (R243): The child completes the exchange, computes d and e, and runs one servo update of the time state machine. -/
  | delayRespReceive (t : Nat) (port : Nat) (m : TimeMsg) (y : Int)
  /-- PTP_MESSAGE_RECEIVE (R258): An IEEE 1588 message on P0 or P1 is handled for ordinary or boundary clock operation. -/
  | ptpMessageReceive (t : Nat) (port : Nat) (m : PtpMsg) (y : Int)
  /-- PARENT_LOSS (R243): The time parent is lost; a parentless holdover starts at once if the hub was already in HOLDOVER. -/
  | parentLoss (t : Nat)
  /-- PARENT_REPLACE_TIMEOUT (R243): 250 ms after losing its parent from LOCKED with no replacement, the hub enters HOLDOVER and reports source 75. -/
  | parentReplaceTimeout (t : Nat)
  /-- LEAD_WAIT_EXPIRY (R250): LEAD_WAIT passes without a parent, and an eligible best-ranked hub founds an island. -/
  | leadWaitExpiry (t : Nat)
  /-- HOLD_LIMIT_PASSED (R255): BOUND passes HOLD_LIMIT in HOLDOVER, and source 75 is reported with detail 2. -/
  | holdLimitPassed (t : Nat)
  /-- SLEW_COMPLETE (R252): SLEW_REM reaches 0 and the slew ends. -/
  | slewComplete (t : Nat)
  /-- ACT_ACCEPT (R268): ACT_CTL write of 1 checks an action entry and holds or arms it. -/
  | actAccept (t : Nat) (h : Hdr) (entry : Nat)
  /-- ACT_CANCEL (R267): ACT_CTL write of 2 cancels a held or armed entry. -/
  | actCancel (t : Nat) (h : Hdr) (entry : Nat)
  /-- ACTION_ARM_CHECK (R269): Every 100 ms firmware arms each held entry whose T lies within 2^30 ns. -/
  | actionArmCheck (t : Nat)
  /-- ACTION_FIRE (R270): An armed entry fires at the first Bridle edge at or after T and its type's effect starts. -/
  | actionFire (t : Nat) (entry : Nat)
  /-- HELD_ACTION_DROP (R535): With the core out of service, Bridle drops a held entry at its T with event 0x0D. -/
  | heldActionDrop (t : Nat) (entry : Nat)
  /-- NTIME_LAT_READ (R256): A read of item 0x012 latches NTIME_LAT and RUNTIME_LAT together. -/
  | ntimeLatRead (t : Nat) (h : Hdr)
  /-- UTC (R256): Write of the TAI-UTC offset, allowed only on a lead without a PTP source, DENIED otherwise. -/
  | utc (t : Nat) (h : Hdr) (val : Word)
  /-- REIN_EDGE (R277): An edge on a Rein input is captured with COMP removed and drives the servo or EXT slots. -/
  | reinEdge (t : Nat) (line : Nat) (rising : Bool)
  /-- REIN_SYNC_DRIVE (R274): At each whole NTIME second the driving hub raises REIN_SYNC for 1 ms. -/
  | reinSyncDrive (t : Nat)
  /-- REIN_PULSE_END (R274): A 10 µs REIN_TRG or REIN_AUX pulse ends. -/
  | reinPulseEnd (t : Nat) (line : Nat)
  /-- REIN_CLK_MISSING (R278): REIN_CLK is missing for 1 µs while it is the parent; the parent is lost and source 113 is reported. -/
  | reinClkMissing (t : Nat)
  /-- REIN_SYNC_MISSING (R278): REIN_SYNC is missing for 1.1 s while it is the parent, and source 113 is reported. -/
  | reinSyncMissing (t : Nat)
  /-- REIN_READBACK_FAULT (R278): A driven line's readback differs on 16 cycles; Bridle stops driving it, sets FAULT and reports source 113. -/
  | reinReadbackFault (t : Nat) (line : Nat)
  /-- REIN_LINE_STUCK_HIGH (R278): REIN_TRG or REIN_AUX stays high for more than 1 ms, and source 113 is reported. -/
  | reinLineStuckHigh (t : Nat) (line : Nat)
  /-- POWERUP_CALIBRATION_END (R283): Power-up calibration finishes, stores its record or falls back, and the hub enters HELD. -/
  | powerupCalibrationEnd (t : Nat) (results : List CalOut)
  /-- BACKGROUND_CALIBRATION (R286): Per BG_PERIOD, a cell calibrates its next channel by natural gap, SP carry or not at all. -/
  | backgroundCalibration (t : Nat) (cell : Nat)
  /-- CALIBRATION_RESULT (R295): A calibration result is checked for plausibility and applied, or rejected with the old trims kept. -/
  | calibrationResult (t : Nat) (c : CalOut)
  /-- TRIM_APPLY (R292): New trims take effect at a base-rate boundary, with CALSWAP on one sample. -/
  | trimApply (t : Nat) (cell conv : Nat)
  /-- TRIANGULATION_RUN (R297): Every TRI_PERIOD a triangulation run starts on idle SPs. -/
  | triangulationRun (t : Nat)
  /-- TRIANGULATION_RESULT (R298): The run completes; quadrant drifts, closure and REFIN suspicion are evaluated. -/
  | triangulationResult (t : Nat) (o : TriOut)
  /-- TRIANGULATION_TRIM_UPDATE (R299): At the next whole second, gain trims of a drifted quadrant are updated in all twelve cells. -/
  | triangulationTrimUpdate (t : Nat) (quadrant : Nat)
  /-- DRIFT_LOG_RETRY (R305): Every hour a failed drift-log write is retried. -/
  | driftLogRetry (t : Nat) (ok : Bool)
  /-- CAL_AGE_TICK (R290): Hourly CAL_AGE increments, and OVERDUE sets at 4 × BG_PERIOD. -/
  | calAgeTick (t : Nat)
  /-- SELF_TEST_END (R308): An offline test ends and its channels return with FENCED and SETTLE. -/
  | selfTestEnd (t : Nat) (test target : Nat) (failed : Bool) (data : Nat)
  /-- OPTICAL_UPDATE (R316): Every 10 ms the driver recomputes each sink current from temperature compensation and derating. -/
  | opticalUpdate (t : Nat) (tdrv : Int)
  /-- OS_CTL_APPLY (R323): Write of APPLY that applies a source's staged set at the next boundary. -/
  | osCtlApply (t : Nat) (h : Hdr) (os : Nat)
  /-- OS_CTL_CLEAR (R328): Write of CLEAR that releases an NB_SHORT latch and retests the pair. -/
  | osCtlClear (t : Nat) (h : Hdr) (os : Nat) (shorted : Bool)
  /-- OS_OPEN_DETECT (R327): A sink out of regulation for 1 ms becomes OPEN and reports source 76 + n. -/
  | osOpenDetect (t : Nat) (os : Nat)
  /-- OS_OPEN_CLEAR (R327): OPEN clears after 100 ms in regulation. -/
  | osOpenClear (t : Nat) (os : Nat)
  /-- NEIGHBOUR_SHORT_TEST (R328): Every NS_PERIOD on a dark pair, the neighbour-short test runs for 100 µs. -/
  | neighbourShortTest (t : Nat) (pair : Nat) (shorted : Bool)
  /-- EXT_TEMP (R326): The host writes the REFIN-zone temperature. -/
  | extTemp (t : Nat) (h : Hdr) (val : Word)
  /-- EXT_TEMP_STALE (R326): EXT_TEMP older than 60 s sets EXT_STALE with one event. -/
  | extTempStale (t : Nat)
  /-- IMG_OPEN (R381): Opens the staging area for an image of a given generation and length. -/
  | imgOpen (t : Nat) (h : Hdr) (gen len : Nat)
  /-- IMG_WRITE (R382): Writes a piece of the staged image. -/
  | imgWrite (t : Nat) (h : Hdr) (off : Nat) (data : List Word)
  /-- IMG_VERIFY (R382): Starts verification of the staged image, answered ACCEPTED. -/
  | imgVerify (t : Nat) (h : Hdr)
  /-- IMG_VERIFY_COMPLETE (R382): Verification finishes with a check code and the image marked verified or not. -/
  | imgVerifyComplete (t : Nat)
  /-- IMG_COMMIT (R383): Verifies if needed and preloads the image into shadow registers for commit at C. -/
  | imgCommit (t : Nat) (h : Hdr) (store : Bool)
  /-- IMG_ABORT (R381): Empties the staging area. -/
  | imgAbort (t : Nat) (h : Hdr)
  /-- COMMIT_BOUNDARY (R384): At C every changed item takes effect in every cell and block at once. -/
  | commitBoundary (t : Nat)
  /-- IMAGE_STORE_COMPLETE (R390): The write of a committed image to the configuration partition completes or fails. -/
  | imageStoreComplete (t : Nat) (ok : Bool)
  /-- HUB_ID_WAIT_EXPIRY (R395): The 10 s wait for a hub ID ends, and the hub stays in HELD if no copy commits. -/
  | hubIdWaitExpiry (t : Nat)
  /-- QCTL_CLEAR_UNDERRUN (R432): QCTL bit 0 clears UNDERRUN. -/
  | qctlClearUnderrun (t : Nat) (h : Hdr)
  /-- QCTL_CLEAR_NOTICES (R408): QCTL bit 1 clears the watermark notices. -/
  | qctlClearNotices (t : Nat) (h : Hdr)
  /-- QCTL_CLEAR_LOST (R432): QCTL bit 2 clears LOST. -/
  | qctlClearLost (t : Nat) (h : Hdr)
  /-- QCTL_CLEAR_REPLY_UNDERRUN (R432): QCTL bit 3 clears REPLY_UNDERRUN. -/
  | qctlClearReplyUnderrun (t : Nat) (h : Hdr)
  /-- SPILL (R414): With the fill at SPILL_ON, the archive engine codes the oldest blocks into the spill area until SPILL_OFF. -/
  | spill (t : Nat)
  /-- SPILL_READBACK (R415): Spilled blocks are read back, decoded and handed to the port in order. -/
  | spillReadback (t : Nat)
  /-- PORT_FRAME_SEND (R471): At a frame boundary the port sends the highest-class ready frame that has credit. -/
  | portFrameSend (t : Nat) (port : Nat) (ecc : List Ecc)
  /-- BLOCK_SENT (R413): A block's last byte leaves the serialiser; the block is freed once every route and the archive have taken it. -/
  | blockSent (t : Nat) (port : Nat)
  /-- STORAGE_PORT_FAIL (R421): A storage port that fails three commands is failed and reports source 92 or 93. -/
  | storagePortFail (t : Nat) (st : Nat)
  /-- ST_CTL_DETACH (R421): DETACH completes writes and leaves the port ready to be removed. -/
  | stCtlDetach (t : Nat) (h : Hdr) (st : Nat)
  /-- ST_CTL_ATTACH (R419): ATTACH labels and uses a device, resilvering it in mirrored mode. -/
  | stCtlAttach (t : Nat) (h : Hdr) (st : Nat)
  /-- RESILVER_COMPLETE (R422): Resilvering of a mirrored replacement completes. -/
  | resilverComplete (t : Nat) (st : Nat)
  /-- LIFE_CHECK (R423): Hourly, the e.MMC life estimates are read into ST_LIFE, with warnings. -/
  | lifeCheck (t : Nat) (st : Nat) (lifeA lifeB eol : Nat)
  /-- ARCHIVE_BLOCK_WRITE (R424): An archive block is coded and written when full or after ARC_FLUSH. -/
  | archiveBlockWrite (t : Nat) (ch : Nat) (ecc : List Ecc)
  /-- EVENT_READ (R430): Returns and removes up to n event entries. -/
  | eventRead (t : Nat) (h : Hdr) (count : Nat) (ecc : List Ecc)
  /-- ARC_EXPORT (R430): Starts a job that copies selected archive blocks into the export area. -/
  | arcExport (t : Nat) (h : Hdr) (sel : ArcSel)
  /-- ARC_COMPRESS (R430): Starts a job that recodes raw blocks and frees positions. -/
  | arcCompress (t : Nat) (h : Hdr) (sel : ArcSel)
  /-- ARC_READ (R430): Reads bytes of the current export. -/
  | arcRead (t : Nat) (h : Hdr) (off len : Nat)
  /-- JOB_CANCEL (R431): Cancels the running job. -/
  | jobCancel (t : Nat) (h : Hdr)
  /-- JOB_COMPLETE (R431): A job finishes and commits its output, or fails with nothing committed. -/
  | jobComplete (t : Nat) (o : JobOut)
  /-- LANE_SWITCH_CLOSE (R443): A lane switch closes and the lane locks its PLL. -/
  | laneSwitchClose (t : Nat) (lane : Nat)
  /-- PLL_LOCK (R443): The lane PLL locks and the lane enters IDLE. -/
  | pllLock (t : Nat) (lane : Nat)
  /-- PLL_LOCK_TIMEOUT (R443): No PLL lock within 1 ms, and the lane is FAILED. -/
  | pllLockTimeout (t : Nat) (lane : Nat)
  /-- PLL_LOSS (R443): The transmit PLL loses lock; the lane squelches, reports source 48 + n and is FAILED. -/
  | pllLoss (t : Nat) (lane : Nat)
  /-- FAILED_RETRY (R443): Every 100 ms a FAILED lane attempts PLL lock again. -/
  | failedRetry (t : Nat) (lane : Nat) (locked : Bool)
  /-- HELLO_SEND (R475): A hello is sent every 1 ms in SEEK and CHANGE, and every 10 ms or on change when UP. -/
  | helloSend (t : Nat) (port : Nat)
  /-- HELLO_RECEIVE (R474): A hello updates partner, generation negotiation, credits, lead announcement and REFUSE state. -/
  | helloReceive (t : Nat) (port : Nat) (m : Hello)
  /-- COUNTDOWN_SWITCH (R445): At the switch instant both ends squelch, retune and start the new generation. -/
  | countdownSwitch (t : Nat) (port : Nat)
  /-- ADAPT_LOCK (R443): BK2 lock, or BK3 training and marker lock, is gained and the lane is UP. -/
  | adaptLock (t : Nat) (port : Nat)
  /-- ADAPT_FAILURE (R446): ADAPT times out, excludes the generation and returns to BK1 hellos. -/
  | adaptFailure (t : Nat) (port : Nat)
  /-- TRAINING_FRAME_RECEIVE (R450): A BK3 training frame's requests and status drive FFE changes and adaptation. -/
  | trainingFrameReceive (t : Nat) (port : Nat) (control status : BitVec 16) (eyeOk : Bool)
  /-- DATA_START (R452): After 64 frames of RX_READY both ways, the lane starts data with a codeword marker. -/
  | dataStart (t : Nat) (port : Nat)
  /-- MARKER_RECEIVE (R448): A codeword marker arrives; two in place give lock and three missed lose it. -/
  | markerReceive (t : Nat) (port : Nat) (inPlace : Bool)
  /-- LOCK_LOSS (R443): An UP lane loses lock and reports it to the link layer. -/
  | lockLoss (t : Nat) (port : Nat)
  /-- LOCK_REGAIN_TIMEOUT (R443): Lock not regained within 1 ms takes the lane back to SEEK at BK1. -/
  | lockRegainTimeout (t : Nat) (port : Nat)
  /-- ETH_LINK_UP (R453): Ethernet synchronisation and auto-negotiation complete and the lane is UP. -/
  | ethLinkUp (t : Nat) (port : Nat) (fullDuplex : Bool)
  /-- LANE_TEST (R454): Write of LANE_TEST that starts or ends a lane test mode. -/
  | laneTest (t : Nat) (h : Hdr) (port : Nat) (val : Word)
  /-- ERR_INJ_SINGLE (R458): SINGLE inverts the next transmitted pattern bit. -/
  | errInjSingle (t : Nat) (h : Hdr) (port : Nat)
  /-- LANE_CTL_RETRAIN (R443): RETRAIN clears exclusions and restarts SEEK at BK1. -/
  | laneCtlRetrain (t : Nat) (h : Hdr) (port : Nat)
  /-- LANE_CTL_CLEAR (R460): CLEAR clears the BITS, ERRS, lock-loss and FEC counts. -/
  | laneCtlClear (t : Nat) (h : Hdr) (port : Nat)
  /-- FEC_LIMIT_CHECK (R464): Each second the uncorrectable codewords are compared with FEC_LIMIT, and source 48 + n is reported after 3 seconds over. -/
  | fecLimitCheck (t : Nat) (port : Nat) (corr unc sym : Nat)
  /-- CREDIT_RECEIVE (R472): A CREDIT frame updates the partner's granted counts. -/
  | creditReceive (t : Nat) (port c2 c3 : Nat)
  /-- CREDIT_SEND (R472): A CREDIT frame is sent once four slots or 20 µs are waiting. -/
  | creditSend (t : Nat) (port : Nat)
  /-- WCP_FRAME_RECEIVE (R469): A WCP frame is forwarded, broadcast or passed to this hub's core or safety unit. -/
  | wcpFrameReceive (t : Nat) (port : Nat) (f : Frame)
  /-- STREAM_FRAME_RECEIVE (R486): A STREAM or RECORD frame is forwarded toward its border hub or out of the collector port. -/
  | streamFrameReceive (t : Nat) (port : Nat) (f : Frame)
  /-- ETH_FRAME_RECEIVE (R488): An Ethernet frame carrying a Borku frame is taken, and other EtherTypes are dropped. -/
  | ethFrameReceive (t : Nat) (port etherType : Nat) (f : Frame)
  /-- LSA_RECEIVE (R479): A newer LSA is stored and flooded to every UP port except the arrival port. -/
  | lsaReceive (t : Nat) (port : Nat) (m : Lsa)
  /-- LSA_REFRESH (R479): The hub refreshes its own LSA every 1 s. -/
  | lsaRefresh (t : Nat)
  /-- LSA_UNREACHABLE_HOLD (R479): After 4 s unreachable, a database entry becomes held. -/
  | lsaUnreachableHold (t : Nat) (eui : Nat)
  /-- ID_HOLD_EXPIRY (R479): A held entry is removed after ID_HOLD hours. -/
  | idHoldExpiry (t : Nat) (eui : Nat)
  /-- ID_CLAIM_WAIT_END (R480): 200 ms after a claim, the hub takes the ID or retries with the lowest free ID. -/
  | idClaimWaitEnd (t : Nat)
  /-- PARTNER_GONE (R476): No hello for 30 ms makes the partner gone: an LSA is flooded, credits reset and event 0x60 raised. -/
  | partnerGone (t : Nat) (port : Nat)
  /-- ROUTE_RECOMPUTE (R483): Routing tables are recomputed within 5 ms of the last database change. -/
  | routeRecompute (t : Nat)
  /-- QUEUED_FRAME_EXPIRY (R484): Queued frames for a destination with mask 0 for 1 s are discarded. -/
  | queuedFrameExpiry (t : Nat) (dest : Nat)
  /-- PROXY_EXPIRY (R487): A proxy entry is freed 10 s after its last reply, or 1 h after an ACCEPTED reply. -/
  | proxyExpiry (t : Nat) (tag : Nat)
  /-- STREAM_ATTACH (R491): A collector opens or closes a stream route to its border port. -/
  | streamAttach (t : Nat) (h : Hdr) (detach : Bool)
  /-- TOPOLOGY_READ (R491): Returns the LSA held for a hub ID, with its age. -/
  | topologyRead (t : Nat) (h : Hdr) (id : Nat)
  /-- ID_RELEASE (R491): Removes a held ID entry from the database. -/
  | idRelease (t : Nat) (h : Hdr) (id : Nat)
  /-- FAULT_PAIR_ACTIVE (R503): A fault pair is taken active: detail captured, occurrence counted, severity judged and event written. -/
  | faultPairActive (t : Nat) (src : Nat) (detail : Word)
  /-- FAULT_PAIR_INACTIVE (R510): A pair returns inactive; only ACTIVE clears. -/
  | faultPairInactive (t : Nat) (src : Nat)
  /-- WIRE_FAULT (R500): A pair reads 00 or 11 for 3 samples; source 115 occurs and starts the failed pair's reaction. -/
  | wireFault (t : Nat) (pair : Nat)
  /-- ALIVE_TOGGLE (R512): Every 1 ms ALIVE toggles while no OUT source is SEVERE and the watchdog is served. -/
  | aliveToggle (t : Nat)
  /-- WATCHDOG_MISS (R512): The watchdog is not served within WD_PERIOD; source 99 is raised and ALIVE stops. -/
  | watchdogMiss (t : Nat)
  /-- RESTART_WINDOW_EXPIRY (R513): The restart window closes unserved and source 99 is raised with detail 2. -/
  | restartWindowExpiry (t : Nat)
  /-- FAULT_N_RELEASE (R514): FAULT_N goes high once cleared and 10 ms have passed since the latest latch. -/
  | faultNRelease (t : Nat)
  /-- LOCKET_COPY (R511): Within 1 s of latching, firmware copies the Locket to the boot flash. -/
  | locketCopy (t : Nat)
  /-- LOCKET_READ (R522): Returns the current or previous-start Locket record. -/
  | locketRead (t : Nat) (h : Hdr) (prev : Bool)
  /-- FAULT_CLEAR (R515): Clears LATCHED and SEVERE on named inactive data sources, and optionally the Locket and FAULT_N. -/
  | faultClear (t : Nat) (h : Hdr) (mask : BitVec 128) (locket faultN : Bool)
  /-- UNFENCE (R520): Releases a fenced unit, or refuses with PARAM_RANGE, DENIED or RETRY. -/
  | unfence (t : Nat) (h : Hdr) (kind num : Nat)
  /-- UNFENCE_COMPLETE (R520): The released unit runs again and the final OK is sent. -/
  | unfenceComplete (t : Nat) (kind num : Nat)
  /-- FENCE_UNIT (R521): Fences a unit by command as HALTER does, without latching a source. -/
  | fenceUnit (t : Nat) (h : Hdr) (kind num : Nat)
  /-- CLASP_MINORITY (R529): One core differs; the majority word is forwarded, source 97 reported and a resync begun. -/
  | claspMinority (t : Nat) (core : Nat)
  /-- CORE_RESYNC_COMPLETE (R530): The minority core's state is copied and checked, and all three cores are released. -/
  | coreResyncComplete (t : Nat) (ok : Bool)
  /-- CLASP_DOUBLE_DISAGREEMENT (R529): No majority; the word is withheld, source 98 reported and the cores halted. -/
  | claspDoubleDisagreement (t : Nat)
  /-- RESTART_SERVED (R533): Restarted firmware serves the watchdog, takes over the units and re-arms held actions. -/
  | restartServed (t : Nat) (unitsSwapped : Nat)
  /-- SCRUB (R538): Once per second the cores emit a voted CRC over their private state. -/
  | scrub (t : Nat) (mismatch : Option Nat)
  /-- HEARTBEAT_SEND (R540): At every whole millisecond Bridle sends a HEARTBEAT to PARTNER. -/
  | heartbeatSend (t : Nat)
  /-- HEARTBEAT_RECEIVE (R540): An accepted heartbeat updates partner presence and lead state. -/
  | heartbeatReceive (t : Nat) (port : Nat) (m : Heartbeat)
  /-- PARTNER_LOSS (R541): No heartbeat for 3 ms; source 114 is reported and uplink routes via the partner close. -/
  | partnerLoss (t : Nat)
  /-- PAIR_CTL_YIELD (R542): Write of YIELD that makes a TIME-pair lead yield. -/
  | pairCtlYield (t : Nat) (h : Hdr)
  /-- YIELD_TIMEOUT (R543): No partner lead within 3 ms of the yield; the hub resumes lead. -/
  | yieldTimeout (t : Nat)
  /-- YIELD_RETRY (R543): After 1 s the yield is retried while its cause persists. -/
  | yieldRetry (t : Nat)
  /-- PAIR_MEMBER_VALUE (R553): A coarse value of an alarm-pair member is evaluated for demand and re-arm. -/
  | pairMemberValue (t : Nat) (pair : Nat) (memberB : Bool) (v : Option CoarseVal)
  /-- PAIR_DISCREPANCY (R554): Members disagree for longer than PAIR_DISC; DISCREPANT is set with event 0x51. -/
  | pairDiscrepancy (t : Nat) (pair : Nat)
  /-- SI_CHANGE (R555): A safety input channel changes level. -/
  | siChange (t : Nat) (si : Nat) (a b : Bool)
  /-- SI_FILTER_EXPIRY (R555): After FILT ms the input's demand state changes. -/
  | siFilterExpiry (t : Nat) (si : Nat)
  /-- SI_DISCREPANCY (R555): The two SI channels differ longer than DISC, and source 102 + x is reported. -/
  | siDiscrepancy (t : Nat) (si : Nat)
  /-- NSL_CYCLE (R562): A DATA frame updates the PERMIT bits and the watchdog of a connection. -/
  | nslCycle (t : Nat) (h : Hdr) (bytes : List Byte)
  /-- CONFIRM_SIGNET (R565): Confirms the signet if the argument matches, otherwise SIGNET_MISMATCH and source 107. -/
  | confirmSignet (t : Nat) (h : Hdr) (bytes : List Byte)
  /-- SAFETY_RESET (R566): Clears demand latches, safety-class sources and FAULT state of the named outputs. -/
  | safetyReset (t : Nat) (h : Hdr) (bytes : List Byte)
  /-- NSL_OPEN (R560): CONNECT opens a connection with CONNECT_ACK, and DISCONNECT closes it. -/
  | nslOpen (t : Nat) (h : Hdr) (bytes : List Byte)
  /-- NSL_TIMEOUT (R562): No accepted frame within the watchdog time; the connection times out and reports source 106. -/
  | nslTimeout (t : Nat) (conn : Nat)
  /-- SO_READBACK (R568): A readback change advances STARTING or TESTING. -/
  | soReadback (t : Nat) (so : Nat) (hrb lrb : Bool)
  /-- RB_T_EXPIRY (R568): A readback missing or mismatched after RB_T takes the output to FAULT with source 100 + x. -/
  | rbTExpiry (t : Nat) (so : Nat)
  /-- TP_WIDTH_END (R568): The test pulse ends and the released switch is driven again. -/
  | tpWidthEnd (t : Nat) (so : Nat)
  /-- POWER_UP (R584): PD0 good starts the power-up sequence: RUNTIME, pair tests, PD1, ROM and slot verification. -/
  | powerUp (t : Nat) (b : BootIn)
  /-- FIRMWARE_START (R584): Firmware starts, powers the domains, loads unit code and begins calibration and storage mount. -/
  | firmwareStart (t : Nat)
  /-- DOMAIN_GOOD (R34): A domain is reported good; its pairs are tested and its islands reopen and reload. -/
  | domainGood (t : Nat) (pd : Nat) (badPairs : List Nat)
  /-- RAIL_WAIT_EXPIRY (R605): A domain's rail is not good within 1 s; its source is reported and the start carries on. -/
  | railWaitExpiry (t : Nat) (pd : Nat)
  /-- RAIL_TRIP (R606): A rail leaves its limits and its domains switch off within 10 µs. -/
  | railTrip (t : Nat) (rail : Rail) (overV : Bool)
  /-- RESET_N_ASSERT (R588): RESET_N low for 10 µs begins a full reset. -/
  | resetNAssert (t : Nat)
  /-- RESET_N_RELEASE (R588): RESET_N going high starts the hub from step 2. -/
  | resetNRelease (t : Nat) (b : BootIn)
  /-- RESET_N_TIMEOUT (R588): After 5 s low, the start runs anyway and a stuck pin reports source 112. -/
  | resetNTimeout (t : Nat) (b : BootIn)
  /-- RESET_N_STUCK_CLEAR (R589): After the pin has been high for 100 ms, STUCK clears. -/
  | resetNStuckClear (t : Nat)
  /-- CODE_SWAP (R595): New unit code swaps in at a boundary, without flags or link loss. -/
  | codeSwap (t : Nat) (kind num : Nat) (ok : Bool)
  /-- UPD_STATUS (R592): Returns slot states, versions, SV, fuses and boot number. -/
  | updStatus (t : Nat) (h : Hdr)
  /-- UPD_OPEN (R593): Opens a slot for writing and starts its erase. -/
  | updOpen (t : Nat) (h : Hdr) (slot len : Nat)
  /-- SLOT_ERASE_COMPLETE (R592): The slot erase finishes and UPD_OPEN completes. -/
  | slotEraseComplete (t : Nat)
  /-- UPD_WRITE (R593): Programs bytes into the open slot. -/
  | updWrite (t : Nat) (h : Hdr) (off : Nat) (bytes : List Byte)
  /-- UPD_VERIFY (R593): Starts verification of a written slot. -/
  | updVerify (t : Nat) (h : Hdr) (slot : Nat)
  /-- UPD_VERIFY_COMPLETE (R581): Slot verification ends VERIFIED or BAD with its check code. -/
  | updVerifyComplete (t : Nat) (slot : Nat) (keyOk sigOk : Bool)
  /-- UPD_CONFIRM (R582): Makes the TRIAL slot GOOD and active, blowing fuses with BURN. -/
  | updConfirm (t : Nat) (h : Hdr) (burn : Bool)
  /-- UPD_BOOT (R598): Boots a slot from recovery mode. -/
  | updBoot (t : Nat) (h : Hdr) (slot : Nat) (code : Nat)
  /-- TAP_UNLOCK (R630): Opens the 60 s window for intrusive JTAG instructions. -/
  | tapUnlock (t : Nat) (h : Hdr) (magic : Word)
  /-- UNLOCK_WINDOW_EXPIRY (R625): The 60 s unlock window closes. -/
  | unlockWindowExpiry (t : Nat)
  /-- BIST_REPORT (R630): Returns production BIST results from the fuses. -/
  | bistReport (t : Nat) (h : Hdr)
  /-- EXTEST (R622): JTAG EXTEST instruction; enters test hold. -/
  | extest (t : Nat) (shift : List Bool)
  /-- SAMPLE_PRELOAD (R622): JTAG SAMPLE/PRELOAD instruction. -/
  | samplePreload (t : Nat) (shift : List Bool)
  /-- IDCODE (R623): JTAG IDCODE instruction. -/
  | idcode (t : Nat)
  /-- PROBE (R628): JTAG PROBE instruction connecting taps to AT1 and AT2. -/
  | probe (t : Nat)
  /-- EXTEST_PULSE (R627): JTAG 1149.6 EXTEST_PULSE instruction. -/
  | extestPulse (t : Nat)
  /-- EXTEST_TRAIN (R627): JTAG 1149.6 EXTEST_TRAIN instruction. -/
  | extestTrain (t : Nat)
  /-- CLAMP (R622): JTAG CLAMP instruction. -/
  | clamp (t : Nat)
  /-- HIGHZ (R622): JTAG HIGHZ instruction. -/
  | highz (t : Nat)
  /-- MBIST (R629): JTAG March C- memory BIST. -/
  | mbist (t : Nat) (failing : Nat)
  /-- MODBIST (R629): JTAG modulator BIST. -/
  | modbist (t : Nat) (map : BitVec 432)
  /-- BIST_RESULT (R622): JTAG instruction reading the 64-bit BIST result register. -/
  | bistResult (t : Nat)
  /-- BYPASS (R622): JTAG BYPASS, and any locked or unknown code. -/
  | bypass (t : Nat) (code : BitVec 8)
  /-- TEST_LOGIC_RESET (R625): Test-Logic-Reset or TRST_N returns the instruction register to IDCODE. -/
  | testLogicReset (t : Nat)
  /-- TJ_HOURS_TICK (R616): Hourly temperature-bin counts are updated and written to the persistent records. -/
  | tjHoursTick (t : Nat) (temp : Int) (sensor : Nat)
  /-- ST_INIT_COMPLETE (R418): A storage port finishes identification and HS200 tuning and passes from initialising to ready, or fails with state 5 and source 92 or 93 detail 2. -/
  | stInitComplete (t : Nat) (st : Nat) (d : StDev)
  /-- STORAGE_WRITE_COMPLETE (R420): The e.MMC reports an archive or spill write complete on every ready port, making it durable and letting the hold store free the block. -/
  | storageWriteComplete (t : Nat) (index : Nat)
  /-- CHECKER_LOCK (R459): The lane pattern checker gains lock after 64 matching PRBS bits, or 80 error-free USER bits, and starts counting BITS and ERRS. -/
  | checkerLock (t : Nat) (port : Nat)
  /-- CHECKER_LOCK_LOSS (R459): More than 64 of 1024 received bits are in error, so the checker loses lock, increments the lock-loss count and seeks lock again. -/
  | checkerLockLoss (t : Nat) (port : Nat)
  /-- CHECKER_COUNT_SATURATE (R460): BITS, or ERRS alone, reaches 2^48 − 1, stops with SAT set and raises one event. -/
  | checkerCountSaturate (t : Nat) (port : Nat) (bits : Bool)
  /-- RAIL_GOOD (R605): A supply rail that was missing or tripped comes back within its limits, and the hub switches on the domains it feeds. -/
  | railGood (t : Nat) (rail : Rail)
  /-- PTP_MESSAGE_SEND (R258): At its logSyncInterval or logAnnounceInterval the hub sends PTP Sync, Announce or Delay_Req messages on P0 or P1. -/
  | ptpMessageSend (t : Nat) (port kind : Nat)
  deriving DecidableEq, Repr

end Sys2Proof
end

