-- ==== Sys2Proof/Machine/State.lean ====
section
/-! DEFINITION. The state of one ZH384 hub as plain data, the reasons a command can stop, and the state at the instant
the PD0 supervisor reports good (step 1 of R584). A table holds only what differs from its default record. -/

namespace Sys2Proof.Machine

/-- Kinds of numbered unit an operand can name. DESIGN CHOICE, log entry 109. -/
inductive UnitKind where
  | cell | channel | source | tap | amplifier | modulator | port | gait | slot | group | profile | record
  | action | reinLine | quadrant | optical | opticalPair | storage | faultSource | pair | safetyInput | connection
  | output | core | domain | firmwareSlot | rail
  deriving DecidableEq, Repr

/-- Why the machine stops. -/
inductive Fault where
  /-- An operand names a unit the spec says the hub does not have (cell 48 and above, R16; channel 384 and above, R5;
  and so on). Raised by every meaning that takes such an operand; safe: the hardware has no such command. -/
  | noSuchUnit (kind : UnitKind) (n : Nat)
  deriving DecidableEq, Repr

/-- Why a command has no meaning. -/
inductive Refusal where
  /-- The command has no meaning yet. Raised by exec's own arm only; safe. -/
  | notModelled (mnemonic : String)
  deriving DecidableEq, Repr

/-- The time states of R242. -/
inductive TimeState where
  | unlocked | locked | holdover
  deriving DecidableEq, Repr

/-- The time functions of one BK port (R259, R260): the stamps of the exchange in progress in 2^-16 ns units, the mean
path delay in ps and whether this end is the parent side (2) or the child side (3); of PTP (R258), the stamps of a peer
delay exchange, the correction of the message that a Follow_Up completes, the Announce of the master there, the messages sent,
and their bytes under their EtherType or UDP port; syncAt is the instant of the latest SYNC. -/
structure PortTime where
  role : Nat := 1
  exch : Nat := 0
  t1 : Nat := 0
  t2 : Nat := 0
  t3 : Nat := 0
  t4 : Nat := 0
  delay : Int := 0
  p1 : Nat := 0
  p2 : Nat := 0
  p4 : Nat := 0
  corr : Int := 0
  master : Option PtpMsg := none
  ptpOut : List PtpMsg := []
  ptpLine : List (Nat × List Byte) := []
  syncAt : Option Nat := none
  deriving DecidableEq, Repr

/-- A stretch of time in which a slew moved the grid (R246): its end and start, what had been moved before, and the phase and grid
parts left at its start, in ns. -/
structure GridSeg where
  till : Nat
  start : Nat
  moved : Int
  phase : Int
  grid : Int
  deriving DecidableEq, Repr

/-- Bridle: counters, time state, servo, slew and holdover (R237 to R256). Phases are in ps, slews in ns, rates in
10^-12 units; gridAdj is the part of grid slews done before slewFrom and gridPast the stretches in which they were done, newest
first (R246), reinClk whether REIN_CLK is present and reinFrom since when the Rein bus is the parent (R277), known the lead last followed
or the hub itself once it has led, outputs whether outputs have run since power-up (R246). DESIGN CHOICE, log entry 17. -/
structure Time where
  runtime : Nat := 0
  refsel : Bool := false
  refclkOk : Bool := true
  mapSet : Bool := false
  r0 : Nat := 0
  n0 : Nat := 0
  y : Int := 0
  state : TimeState := .unlocked
  isLead : Bool := false
  lead : Nat := 0
  leadPrio : Nat := 0
  leadCls : Nat := 0
  island : Nat := 0
  hops : Nat := 0
  parent : Nat := 7
  parentBound : Nat := 0
  phaseErr : Int := 0
  steer : Int := 0
  integ : Int := 0
  lastUpdate : Nat := 0
  good : Nat := 0
  bad : Nat := 0
  slewRem : Int := 0
  gridRem : Int := 0
  gridAdj : Int := 0
  gridPast : List GridSeg := []
  slewFrom : Option Nat := none
  newLead : Bool := false
  known : Option Nat := none
  segStart : Nat := 0
  segE0 : Nat := 0
  segY0 : Nat := 0
  segD : Nat := 0
  holdEntry : Nat := 0
  hadParent : Bool := false
  everLocked : Bool := false
  lostAt : Option Nat := none
  lonelySince : Option Nat := none
  gridDone : Bool := false
  outputs : Bool := false
  ptpClass : Option Nat := none
  ptpLost : Bool := false
  utcDist : Word := 0
  limitPassed : Bool := false
  reinClk : Bool := false
  reinFrom : Nat := 0
  latN : Nat := 0
  latR : Nat := 0
  ports : Tbl PortTime := []
  deriving DecidableEq, Repr

/-- One Rein line (R274, R275, R278): its level, the instants of its latest edge and of its latest rising edge, whether it has been
given up as faulty, and the end of a pulse driven. -/
structure ReinLine where
  level : Bool := false
  edgeAt : Nat := 0
  riseAt : Nat := 0
  fault : Bool := false
  pulseEnd : Option Nat := none
  deriving DecidableEq, Repr

/-- The state of a scheduled-action entry (R267). -/
inductive ActState where
  | free | held | armed | fired | cancelled | dropped
  deriving DecidableEq, Repr

/-- A scheduled-action entry (R267). -/
structure Act where
  typ : Word := 0
  target : Nat := 0
  args : List Word := [0, 0, 0, 0]
  st : ActState := .free
  reason : Nat := 0
  deriving DecidableEq, Repr

/-- A queued event (R399): its code, its priority at entry, and its entries, first entry first. -/
structure Ev where
  code : Nat
  prio : Nat
  words : List (BitVec 64)
  deriving DecidableEq, Repr

/-- One watermark (R407, R408): the live pin state and the two sticky notices. -/
structure Watermark where
  live : Bool := false
  up : Bool := false
  down : Bool := false
  deriving DecidableEq, Repr

/-- The event queue in reading order (R403 to R406), the continuation entries of the event being read, and the last
entry read. -/
structure EvQueue where
  q : List Ev := []
  reading : List (BitVec 64) := []
  last : BitVec 64 := 0
  underrun : Bool := false
  lost : Bool := false
  wm0 : Watermark := {}
  wm1 : Watermark := {}
  deriving DecidableEq, Repr

/-- A reply (R347) waiting in its queue, with the number of fence barriers placed before it (R409). -/
structure Reply where
  h : Hdr
  opcode : Nat
  status : Nat
  detail : Nat
  data : List Byte
  safety : Bool
  epoch : Nat
  deriving DecidableEq, Repr

/-- A WCP packet taken by the command receiver (R343), in order of arrival. -/
structure Pkt where
  h : Hdr
  opcode : Nat
  ord : Bool
  dest : Nat
  arrival : Nat
  params : List Byte
  deriving DecidableEq, Repr

/-- The step a FENCE waits in (R365). -/
inductive FenceStep where
  | cmd | cfg | out
  deriving DecidableEq, Repr

/-- A FENCE in progress: the arrivals and the configuration writes it waits for, and its OUT fence point (R365 to R367). -/
structure Fence where
  h : Hdr
  cfg : Bool
  out : Bool
  step : FenceStep
  arrival : Nat
  mark : Nat
  deriving DecidableEq, Repr

/-- Deferred work accepted and not yet finished, with the request its final reply answers (R358). -/
inductive Work where
  | vw (src : Nat)
  | cal (kind target : Nat)
  | test (test target : Nat)
  | meas (ch : Nat)
  | verify
  | job
  | unfence (kind num : Nat)
  | erase (slot : Nat)
  | slotVerify (slot : Nat)
  deriving DecidableEq, Repr

/-- Deferred work and the header and opcode of its request. -/
structure Deferred where
  h : Hdr
  opcode : Nat
  work : Work
  deriving DecidableEq, Repr

/-- What a started command that completes only later waits for: a domain that settles, or an instant (R349, R362). -/
inductive LateOn where
  | domain (n : Nat)
  | instant (e : Nat)
  deriving DecidableEq, Repr

/-- A started command that is answered OK when what it waits for has come. -/
structure Late where
  h : Hdr
  opcode : Nat
  on : LateOn
  deriving DecidableEq, Repr

/-- A configuration write issued to its cell and not yet in effect, with the value in force before it (R28, R366). -/
structure Issued where
  seq : Nat
  cell : Nat
  id : Word
  val : Word
  old : Word
  t : Nat
  deriving DecidableEq, Repr

/-- The host port and the command path: LAST of the status word (R336), the bytes the last transaction shifted out, the
host reply queue in reading order, the link replies in the block region and those that wait for it, the packets waiting and started, those started that complete later, the
fences, deferred work and
the configuration writes issued (R360 to R367). -/
structure Cmds where
  last : Nat := 0
  miso : List Byte := []
  replies : List Reply := []
  linkReplies : List Reply := []
  linkWait : List Reply := []
  epoch : Nat := 0
  replyUnderrun : Bool := false
  arrivals : Nat := 0
  waiting : List Pkt := []
  started : List Pkt := []
  late : List Late := []
  fences : List Fence := []
  deferred : List Deferred := []
  issued : List Issued := []
  writes : Nat := 0
  deriving DecidableEq, Repr

/-- What the header of a slot's block restates (R226, R228): D, word format, FLAGS, and the instants of the channel's last
RESYNC and of its last RESYNC or gait change. -/
structure Head where
  d : Nat := 2
  fmt : Nat := 0
  flags : Bool := false
  org : Nat := 0
  part : Nat := 0
  deriving DecidableEq, Repr

/-- A gap in progress on a channel (R191, R193): its cause, first slot, slots since the last entry, the instants of its first
slot and of its last entry, and what the header of its first slot's block restates. -/
structure Gap where
  cause : Nat
  first : Nat
  count : Nat
  t0 : Nat
  since : Nat
  head : Head := {}
  deriving DecidableEq, Repr

/-- A running accumulator interval (R171, R177, R178): gain is the gain code in force over it. -/
structure Acc where
  gain : Nat := 0
  count : Nat := 0
  sum : Int := 0
  sumsq : Nat := 0
  slots : Nat := 0
  t0 : Nat := 0
  seq0 : Nat := 0
  flags : BitVec 8 := 0
  invalid : Bool := false
  partSet : Bool := false
  satS : Bool := false
  satQ : Bool := false
  deriving DecidableEq, Repr

/-- A running min/max interval (R171, R177, R179): gain is the gain code in force over it. -/
structure MinMax where
  gain : Nat := 0
  count : Nat := 0
  min : Int := 0
  max : Int := 0
  tMin : Nat := 0
  tMax : Nat := 0
  slots : Nat := 0
  t0 : Nat := 0
  flags : BitVec 8 := 0
  invalid : Bool := false
  partSet : Bool := false
  deriving DecidableEq, Repr

/-- A measurement span (R181): its type (1 record, 2 vibrating wire, 3 commanded), the samples measured in U with their
instants, the slots left (none: until the record ends), what makes it invalid, the instant before its first slot and the
gain code and D at its latest slot. -/
structure Span where
  typ : Nat
  t0 : Nat
  xs : List (Int × Nat)
  n : Nat
  left : Option Nat
  flags : BitVec 8
  gap : Bool
  recNum : Nat
  epoch : Nat
  ended : Bool
  since : Nat := 0
  gain : Nat := 0
  d : Nat := 2
  deriving DecidableEq, Repr

/-- A sample in the pre-trigger ring (R16, R214): sequence number, represented instant, word and flag byte, with its S32R
value and gain code and its block's header; or, with a cause, a run of slots that were not produced, which takes no room in
the ring. -/
structure RingWord where
  seq : Nat
  t : Nat
  w : Word
  fl : BitVec 8
  x : Int := 0
  gain : Nat := 0
  cause : Nat := 0
  n : Nat := 1
  head : Head := {}
  deriving DecidableEq, Repr

/-- One decimator (R124, R631): the latest modulator-rate values and the latest CIC outputs, newest first. -/
structure Path where
  mods : List Rat := []
  cic : List Rat := []
  deriving DecidableEq, Repr

/-- What acts on a sample by its represented instant (R136, R139, R159): the bank's coefficients, whether the high-pass is
enabled, and its coefficient A. -/
structure Filt where
  coefs : List Int := []
  hpOn : Bool := false
  hpA : Nat := 0
  deriving DecidableEq, Repr

/-- A filter chain at work (R124 to R163): the instant from which it takes inputs, the origin of its grid, the instant of
the last RESYNC or gait change, D, the group delay
in base-rate periods and the number on the grid of the last period taken; whether the gait is lock-in; the two decimators,
the samples held back by a recovery and the last one passed on; the delay lines of the cascade's stages, the coarse delay
line and the FIR's, newest first; phase delay and reference in force; what acts on samples after an instant and what on those
up to earlier instants; and the high-pass state x[n-1], y[n-1]. DESIGN CHOICE, log entry 120. -/
structure Chain where
  start : Nat := 0
  org : Nat := 0
  part : Nat := 0
  d : Nat := 2
  gd : Nat := 0
  idx : Nat := 0
  lock : Bool := false
  own : Path := {}
  sp : Path := {}
  held : Nat := 0
  last : Rat := 0
  lines : List (List Rat) := []
  coarse : List Rat := []
  fir : List Rat := []
  delay : Nat := 0
  fine : Nat := 0
  ref : Nat := 0
  square : Bool := false
  filt : Filt := {}
  past : List (Nat × Filt) := []
  hp : Option (Rat × Rat) := none
  deriving DecidableEq, Repr

/-- An output slot not yet delivered (R128, R129, R165): its sequence number, represented instant, flags and gain code at
that instant, the cause for which it is not produced (0: it is), the chain's value once it is there, and D, RESYNC and gait
change of its chain. -/
structure Pend where
  seq : Nat
  t : Nat
  fl : BitVec 8
  gain : Nat
  cause : Nat := 0
  v : Option Rat := none
  head : Head := {}
  deriving DecidableEq, Repr

/-- What happens to a channel's intervals and blocks before its first slot after an instant (R152, R175). -/
inductive Mark where
  | split
  | restart (resync : Bool)
  deriving DecidableEq, Repr

/-- A charge-amplifier reset still in the modulator stream (R88): the instant the switch closed, the modulator periods of
its window, and the levels before and after, in 1/8 U. -/
structure Splice where
  t : Nat
  n : Nat
  pre : Int
  post : Int
  deriving DecidableEq, Repr

/-- How far a member of an open record has come, lo being the instant T − PRE (R214, R224, R230). -/
structure Member where
  ch : Nat
  firstSeq : Nat
  shortfall : Nat
  gapSlots : Nat
  flags : BitVec 8
  endAt : Nat
  finished : Bool
  gap : Option Gap
  lo : Nat := 0
  deriving DecidableEq, Repr

/-- An open record in its slot (R211, R215, R229), with PRE, POST, EXTEND and ROUTES of its profile as it opened (R388). -/
structure Record where
  profile : Nat
  origin : Nat
  epoch : Nat
  num : Nat
  trig : Nat
  taken : Nat
  endAt : Option Nat
  phase : Nat
  closedBy : Nat
  retrig : Nat
  groups : BitVec 32
  primary : Nat
  causes : BitVec 512
  late : Bool
  bcast : Bool
  oHub : Nat
  oEpoch : Nat
  oNum : Nat
  ncode : Nat
  decided : Nat
  members : List Member
  results : List (Nat × List Byte)
  want : Nat
  tStamp : Option Nat
  pre : Nat := 0
  post : Nat := 0
  extend : Bool := false
  routes : Nat := 0
  deriving DecidableEq, Repr

/-- An item of a block body (R227). -/
inductive Item where
  | run (first : Nat) (xs : List (Word × BitVec 8))
  | acc (reason : BitVec 8) (a : Acc) (gain sh : Nat)
  | mm (reason : BitVec 8) (m : MinMax) (gain : Nat)
  | meas (bytes : List Byte)
  | gap (cause first count t0 : Nat) (cont : Bool)
  | tag (epoch num : Nat)
  | openBlk (r : Record)
  | trailer (r : Record)
  deriving DecidableEq, Repr

/-- What waits in a channel's stream behind a two-pass result (R189). -/
inductive Wait where
  | slot (w : RingWord)
  | entry (i : Item)
  deriving DecidableEq, Repr

/-- What feeds a channel's filter chain (CONVERTER, R92). -/
inductive Conv where
  | own | spTemp | spPerm | none_
  deriving DecidableEq, Repr

/-- One channel at work: the gain in force and the one before it with the instant of the change, the base-rate periods that
the latest recovery replaces, converter with the correction of its stream (offset in U, gain), SETTLE window and the instant
it opened, pending flags with their instants, gait in force, sequence number and instant of its latest slot, end of the last
base-rate period taken and of the latest clipped ones, its filter chain and the one before still completing samples, the slots not yet delivered, what
waits for them, output-boundary changes due, gap, the gaps and the first slot that wait while PD2 is off (R34), what waits
behind a two-pass result (R189), reductions, spans, coarse path, resets to splice, those of the chain before (R152), ring, the
grids of the slots delivered so far (number and instant of the first slot of each, and its period, newest first; R224) and
latched reads.
DESIGN CHOICE, log entries 8, 120. -/
structure Chan where
  gain : Nat := 0
  gainWas : Nat := 0
  gainAt : Nat := 0
  recEnd : Option Nat := none
  recover : Nat × Nat := (0, 0)
  autoRec : Bool := false
  corr : Rat × Rat := (0, 1)
  fedAt : Nat := 0
  chain : Chain := {}
  old : Option Chain := none
  pend : List Pend := []
  marks : List (Nat × Mark) := []
  cmarks : List (Nat × Bool) := []
  due : List (Nat × Nat) := []
  fast : List Rat := []
  resets : List Splice := []
  clipAt : Nat := 0
  clips : List Nat := []
  sensorTill : Nat := 0
  conv : Conv := .own
  settle : Nat := 0
  settleLen : Nat := 0
  settleFrom : Nat := 0
  fencedFrom : Option Nat := none
  calswapFrom : Option Nat := none
  spliceEnd : Option Nat := none
  rangeTail : Option (Nat × Nat) := none
  splice : Int := 0
  resetsOld : List Splice := []
  spliceOld : Int := 0
  lone : Bool := false
  pausedFrom : Option Nat := none
  gait : Nat := 0
  d : Nat := 2
  gaitPend : Option (Nat × Nat) := none
  coldUntil : Option Nat := none
  quietFrom : Nat := 0
  seq : Nat := 0
  slotAt : Nat := 0
  gap : Option Gap := none
  gapsWait : List Gap := []
  behind : List Wait := []
  heldFrom : Option (Nat × Nat) := none
  gridSlot : Nat := 0
  gridDue : Bool := false
  acc : Acc := {}
  mm : MinMax := {}
  accLast : Option (Acc × Nat × Nat) := none
  mmLast : Option (MinMax × Nat) := none
  accNo : Nat := 0
  mmNo : Nat := 0
  span : Option Span := none
  recSpan : Option Span := none
  coarseFrom : Nat := 0
  coarseV : Word := 0
  coarseFl : BitVec 8 := 0
  coarseFrozen : Option (BitVec 8) := none
  lastWord : RingWord := { seq := 0, t := 0, w := 0, fl := 0 }
  infoFrozen : Option Word := none
  ring : List RingWord := []
  pieces : List (Nat × Nat × Nat) := []
  deriving DecidableEq, Repr

/-- What SP of a cell is used for (R104, R105). -/
inductive SpUse where
  | idle | temp | seamless | perm | failed
  deriving DecidableEq, Repr

/-- A change of converter in progress in a cell: where a seamless range change (R97), a warm takeover or a warm handback
(R107) stands, the channel, the target gain and the boundary from which it counts. -/
inductive Seam where
  | none_
  | seamless (step ch gain b : Nat)
  | takeover (perm : Bool) (ch c : Nat) (valid : Bool)
  | handback (perm : Bool) (ch c : Nat) (valid : Bool)
  deriving DecidableEq, Repr

/-- A charge amplifier (R86, R87): the instant of its last reset and whether a due reset is deferred. -/
structure Qa where
  last : Nat := 0
  due : Bool := false
  deriving DecidableEq, Repr

/-- One cell at work: the origin of its base-rate grid, whether its configured routing is applied, its closed crosspoints as
pairs of tap and node (R43, R48), whether new ones still wait for their 250 ns, whether the guard output is driven (R50), taps
out of range, SP, the base-rate samples
of a matching overlap (outgoing, incoming; R108), amplifiers, the next channel to calibrate, the channel in a natural gap with
the boundary at which that is abandoned (R289), and the instant and channel of the latest seam (R293). -/
structure Cell where
  origin : Nat := 0
  applied : Bool := false
  points : List (Nat × Nat) := []
  closing : Option Nat := none
  guard : Bool := false
  excursions : BitVec 12 := 0
  spUse : SpUse := .idle
  spCh : Nat := 0
  spGain : Nat := 0
  spAssign : Word := 0xF
  seam : Seam := .none_
  overlap : List (Rat × Rat) := []
  retired : BitVec 9 := 0
  qa0 : Qa := {}
  qa1 : Qa := {}
  bgNext : Nat := 0
  bgCh : Option Nat := none
  bgDrop : Option Nat := none
  seamed : Option (Nat × Nat) := none
  implaus : Tbl Nat := []
  deriving DecidableEq, Repr

/-- One debounced condition of a source (R64): whether it is set and its consecutive evaluations. -/
structure Deb where
  on : Bool := false
  up : Nat := 0
  down : Nat := 0
  deriving DecidableEq, Repr

/-- The steps of a vibrating-wire reading, the first of which waits for its boundary (R73). -/
inductive VwStep where
  | idle | asked | resistance | pluckWait | pluck | listen
  deriving DecidableEq, Repr

/-- One excitation source at work: its status, the mode and the current in force (in 10 pA units, R48, R57), debounced
conditions, blanking, the evaluations since the last 1 s mean and the 1 s means of DRIFT, its phase accumulator as it stood
at an instant (R58), and its vibrating-wire reading with the sum and number of the loads of its step 1 (R73).
DESIGN CHOICE, log entry 8. -/
structure Src where
  status : Nat := 0
  mode : Nat := 0
  iSet : Nat := 0
  evalAt : Nat := 0
  driftAt : Nat := 0
  rSum : Nat := 0
  rN : Nat := 0
  vwSum : Nat := 0
  vwN : Nat := 0
  iDrv : Word := 0
  vDrv : Word := 0
  iRet : Word := 0
  rLoad : Word := 0
  openC : Deb := {}
  shortC : Deb := {}
  leakC : Deb := {}
  driftC : Deb := {}
  blankUntil : Option Nat := none
  means : List Nat := []
  phase : Nat := 0
  phaseAt : Nat := 0
  vw : VwStep := .idle
  vwSince : Nat := 0
  vwCh : Nat := 0
  coil : Nat := 0
  coilStatus : Nat := 0
  deriving DecidableEq, Repr

/-- One gait at work (R130): the active bank, a swap pending and whether it was written or scheduled. -/
structure GaitSt where
  active : Bool := false
  pendingAt : Option Nat := none
  written : Bool := false
  deriving DecidableEq, Repr

/-- States of a condition slot (R202). -/
inductive SlotState where
  | off | warming | armed | counting | met
  deriving DecidableEq, Repr

/-- One condition slot at work (R202, R203), with the results that have not yet reached the combiner, oldest first (R205). -/
structure Slot where
  st : SlotState := .off
  hold : Nat := 0
  trig : Nat := 0
  hist : List Int := []
  seen : Nat := 0
  xPrev : Option Int := none
  sta : Int := 0
  lta : Int := 0
  skipped : Bool := true
  results : List Nat := []
  deriving DecidableEq, Repr

/-- A trigger event forming in the combiner (R205, R206). -/
structure Forming where
  trig : Nat
  first : Nat
  mask : BitVec 512
  late : Bool
  deriving DecidableEq, Repr

/-- Triggers and records: slots, groups' member instants, forming events, the record slots, numbering and the origin
triples of R222, and the instants whose trigger event has been evaluated. -/
structure Trig where
  slots : Tbl Slot := []
  members : Tbl (Tbl Nat) := []
  forming : List Forming := []
  recs : Tbl Record := []
  nextNum : Nat := 0
  epoch : Nat := 0
  triples : List (Nat × Nat × Nat) := []
  evaluated : List Nat := []
  deriving DecidableEq, Repr

/-- A block in the hold store (R226, R229, R413): type, channel (0x1FF for open and trailer blocks), header fields,
items, the record it belongs to, the ports it still has to leave by, whether the archive wants it, its entry order and
the fence epoch in which it was produced. -/
structure Blk where
  typ : Nat
  ch : Nat
  fmt : Nat
  flags : Bool
  org : Nat := 0
  part : Nat := 0
  ts : Nat
  island : Nat
  d : Nat
  t0 : Nat
  seq0 : Nat
  items : List Item
  size : Nat
  opened : Nat
  slot : Option Nat
  profile : Nat
  routes : BitVec 8
  arch : Bool
  order : Nat
  epoch : Nat
  spilled : Bool
  spillPort : Nat := 0
  staged : Bool := false
  deriving DecidableEq, Repr

/-- A network trigger message of this hub that waits in the block region: its frame, the ports it still has to leave by, and the
fence epoch in which it was produced (R367, R411). -/
structure NetMsg where
  frame : Frame
  ports : BitVec 6
  epoch : Nat
  deriving DecidableEq, Repr

/-- The hold store (R411 to R417): open blocks, complete blocks in order of entry, network trigger messages, and the block (by order)
and route each port is sending. -/
structure Hold where
  openBlks : List Blk := []
  blks : List Blk := []
  order : Nat := 0
  nets : List NetMsg := []
  sending : Tbl (Nat × Nat) := []
  deriving DecidableEq, Repr

/-- One storage port (R418 to R423, R433): attach says that ATTACH or UNFENCE asked for the device, resFrom when its resilvering
began, and used that PD14 went off while the port was in use and the hold store still waits for it (R23). -/
structure St where
  st : Nat := 0
  cap : Nat := 0
  lifeA : Nat := 0
  lifeB : Nat := 0
  eol : Nat := 0
  lifeAt : Option Nat := none
  resilver : Nat := 0
  label : Option Nat := none
  attach : Bool := false
  resFrom : Nat := 0
  used : Bool := false
  cfg0 : Option (Nat × List Word) := none
  cfg1 : Option (Nat × List Word) := none
  deriving DecidableEq, Repr

/-- An archive block (R425, R428): its position, pass, whether it is a directory block, channel, content, method, the 4096
bytes written, whether the write is complete, whether its channel was clear in ARC_COMP, and whether only the survivor of a
mirror held it when the replacement's resilvering began (R422, R430). -/
structure ArcBlk where
  index : Nat
  pass : Nat
  dir : Bool
  ch : Nat
  blks : List Blk
  method : Nat
  bytes : List Byte
  durable : Bool
  plain : Bool := false
  alone : Bool := false
  deriving DecidableEq, Repr

/-- The archive (R424 to R431): mounted, ring position and pass, what waits in the open archive block of each channel and
since when, blocks written, the job (true: an export) and its outcome, the export, and mode and sizes in use. -/
structure Archive where
  mounted : Bool := false
  wrapped : Bool := false
  pass : Nat := 0
  head : Nat := 0
  openBlks : Tbl (List Blk) := []
  openSince : Tbl Nat := []
  written : List ArcBlk := []
  jobSt : Nat := 0
  jobStatus : Nat := 0
  jobSkipped : Nat := 0
  job : Option (Bool × ArcSel) := none
  exported : List Byte := []
  mode : Bool := false
  spillGib : Nat := 8
  exportGib : Nat := 4
  deriving DecidableEq, Repr

/-- Lane states (R443). -/
inductive LaneState where
  | down | idle | seek | change | adapt | up | test | failed
  deriving DecidableEq, Repr

/-- One lane at work (R443 to R464); the pattern generator runs since genAt, and flips are the bits that SINGLE inverted (R456 to
R458). DESIGN CHOICE, log entry 8. -/
structure Lane where
  st : LaneState := .down
  gen : Nat := 0
  excl : BitVec 3 := 0
  pll : Bool := false
  pllAt : Option Nat := none
  signal : Bool := false
  eth : Bool := false
  target : Nat := 0
  countdown : Option Nat := none
  switchAt : Option Nat := none
  seenPartner : Bool := false
  ffe : Word := 0
  trainReq : BitVec 8 := 0
  trainStat : BitVec 8 := 0
  rxReady : Bool := false
  readyFrames : Nat := 0
  dataOn : Bool := false
  markers : Nat := 0
  missed : Nat := 0
  lock : Bool := false
  lostAt : Option Nat := none
  fecOver : Nat := 0
  fecAt : Option Nat := none
  anDone : Bool := false
  lastTrain : Nat := 0
  chkLock : Bool := false
  chkSince : Nat := 0
  bits : Nat := 0
  errs : Nat := 0
  genAt : Option Nat := none
  flips : List Nat := []
  deriving DecidableEq, Repr

/-- One link (R471 to R476, R482): partner, refusal, when its last hello came and the hub's own went and what that one
announced; credit counts (granted to and by the partner, sent) and the slots waiting to be reported; the lead the partner
announces; the frames queued with the port each came from (6: this hub), whose turn each class had, and the frame last
put on the line with its bytes (R468). DESIGN CHOICE, log entry 8. -/
structure Link where
  kind : Nat := 0
  eui : Nat := 0
  id : Option Nat := none
  refused : Bool := false
  lastHello : Nat := 0
  helloAt : Option Nat := none
  helloAnn : List Nat := []
  grant2 : Nat := 24
  grant3 : Nat := 24
  pGrant2 : Nat := 0
  pGrant3 : Nat := 0
  sent2 : Nat := 0
  sent3 : Nat := 0
  wait2 : Nat := 0
  wait3 : Nat := 0
  waitAt : Nat := 0
  lead : Nat := 0xFFFF
  prio : Nat := 0
  cls : Nat := 0
  island : Nat := 0
  hops : Nat := 0
  out : List (Nat × Frame) := []
  turns : Tbl Nat := []
  wire : Option Frame := none
  line : List Byte := []
  deriving DecidableEq, Repr

/-- An entry of the hub database (R479): its LSA, when it was taken or last reachable, and whether it is held. -/
structure DbEntry where
  lsa : Lsa
  t : Nat
  seenAt : Nat
  held : Bool
  deriving DecidableEq, Repr

/-- A proxied command (R487): its original tag, its port, its last reply and whether an ACCEPTED has passed. -/
structure Proxy where
  tag : Nat
  port : Nat
  lastReply : Option Nat
  accepted : Bool
  deriving DecidableEq, Repr

/-- Discovery and routing (R478 to R491), and the launch queues of the ports: port, handle and frame (R266). DESIGN CHOICE, log
entries 8, 55. -/
structure Net where
  id : Option Nat := none
  idState : Nat := 0
  candidate : Nat := 0
  claimAt : Nat := 0
  lsaSeq : Nat := 0
  lsaAt : Nat := 0
  lostClaim : Bool := false
  db : Tbl DbEntry := []
  dirty : Bool := false
  routes : Tbl (Nat × Nat) := []
  mask0Since : Tbl Nat := []
  bcastSeq : Nat := 0
  seen : Tbl (Nat × List Nat) := []
  proxies : Tbl Proxy := []
  openRoutes : BitVec 8 := 0
  launch : List (Nat × Nat × Frame) := []
  deriving DecidableEq, Repr

/-- One fault source in the collector (R503, R525). -/
structure FSrc where
  active : Bool := false
  latched : Bool := false
  severe : Bool := false
  detail : Word := 0
  last : Nat := 0
  ts : Nat := 0
  occ : List Nat := []
  deriving DecidableEq, Repr

/-- The Locket record (R507, R523). -/
structure Locket where
  valid : Bool := false
  src : Nat := 0
  severe : Bool := false
  detail : Word := 0
  ntime : Nat := 0
  runtime : Nat := 0
  ts : Nat := 0
  island : Nat := 0
  overflow : Bool := false
  later : Nat := 0
  deriving DecidableEq, Repr

/-- Why a unit is fenced (R518 to R521): by a fault source, by command, by its domain or switch, while it is being brought back, or
while a quadrant that came back calibrates itself. -/
inductive Cause where
  | src (n : Nat) | command | domain | reload | calibrate
  deriving DecidableEq, Repr

/-- The fault collector (R496 to R525), the Locket, the previous start's copy and the copy in the boot flash (R511), and
the fences it holds, keyed by unit number in each kind. -/
structure Faults where
  srcs : Tbl FSrc := []
  locket : Locket := {}
  prevLocket : Locket := {}
  stored : Locket := {}
  copied : Bool := false
  alive : Bool := false
  aliveLevel : Bool := false
  aliveAt : Option Nat := none
  faultN : Bool := false
  lastLatch : Nat := 0
  clearAsked : Bool := false
  safe : Bool := false
  safeBy : List Nat := []
  window : Option Nat := none
  served : Bool := false
  aliveCause : Option Nat := none
  tested : Bool := false
  wires : List Nat := []
  cells : Tbl (List Cause) := []
  ports : Tbl (List Cause) := []
  quads : Tbl (List Cause) := []
  stores : Tbl (List Cause) := []
  deriving DecidableEq, Repr

/-- Clasp's states (R529). -/
inductive ClaspState where
  | running | resync | halted | restarting | outOfService
  deriving DecidableEq, Repr

/-- The voted core (R529, R548) and what runs on it. -/
structure Core where
  st : ClaspState := .running
  duplex : Bool := false
  heldOut : Nat := 0
  minority : Nat := 0
  fails : List (Nat × Nat) := []
  haltsAt : List Nat := []
  scrubAt : Nat := 0
  deriving DecidableEq, Repr

/-- The hub pair (R539 to R548). -/
structure Pair where
  st : Nat := 0
  txSeq : Nat := 0
  rxSeq : Option Nat := none
  lastRx : Nat := 0
  run : Nat := 0
  partnerLeads : Bool := false
  yielding : Bool := false
  yieldAt : Nat := 0
  retryAt : Option Nat := none
  deriving DecidableEq, Repr

/-- Output states (R568). -/
inductive SoState where
  | off | starting | on | testing | fault
  deriving DecidableEq, Repr

/-- One alarm output (R568 to R571, R575). -/
structure So where
  st : SoState := .off
  hs : Bool := false
  ls : Bool := false
  hrb : Bool := false
  lrb : Bool := false
  latch : Bool := false
  side : Nat := 0
  tpEnded : Bool := false
  sawLow : Bool := false
  lastTest : Nat := 0
  nextSide : Nat := 0
  repeatSide : Option Nat := none
  since : Nat := 0
  deriving DecidableEq, Repr

/-- One safety input (R555): its two channels and the instant each last changed. -/
structure Si where
  a : Bool := false
  b : Bool := false
  demand : Bool := false
  disc : Bool := false
  sinceA : Nat := 0
  sinceB : Nat := 0
  deriving DecidableEq, Repr

/-- One member of an alarm pair (R553). -/
structure PairMember where
  demand : Bool := false
  run : Nat := 0
  invalid : Nat := 0
  deriving DecidableEq, Repr

/-- One alarm pair (R553, R554). -/
structure AlarmPair where
  a : PairMember := {}
  b : PairMember := {}
  disc : Bool := false
  differSince : Option Nat := none
  deriving DecidableEq, Repr

/-- One NSL connection (R560 to R562): state (0 closed, 1 connected, 2 timed out), sequences, PERMIT bits of its latest
DATA frame, whether one has come, and the last acceptance. -/
structure Nsl where
  st : Nat := 0
  rx : Nat := 0
  tx : Nat := 0
  permit : BitVec 2 := 0
  seenData : Bool := false
  last : Nat := 0
  deriving DecidableEq, Repr

/-- The safety unit (R550 to R576). -/
structure Safety where
  so0 : So := {}
  so1 : So := {}
  si : Tbl Si := []
  pairs : Tbl AlarmPair := []
  conns : Tbl Nsl := []
  confirmed : Bool := false
  startTest : Bool := false
  testLow : Bool := false
  signet : Word := 0
  deriving DecidableEq, Repr

/-- Trims of one converter (R280): offset and gain code per gain range, those that wait for their boundary, and the last accepted
result with the drift of the quadrant's reference and its die temperature then (R295). -/
structure Trims where
  ofs : List Int := [0, 0, 0, 0, 0, 0, 0, 0]
  gain : List Int := [0, 0, 0, 0, 0, 0, 0, 0]
  age : Nat := 0
  overdue : Bool := false
  result : Nat := 0
  pending : Option (List Int × List Int) := none
  acc : Option (List Int × List Int × Int × Int) := none
  deriving DecidableEq, Repr

/-- Trims of a source or an amplifier (R280, R310), and those accepted last with the boundary from which they are in force
(R292). -/
structure Trim1 where
  codes : List Int := [0, 0, 0, 0]
  next : Option (Nat × List Int) := none
  result : Nat := 0
  deriving DecidableEq, Repr

/-- A drift-log entry (R304). -/
structure LogEntry where
  bits : BitVec 7
  island : Nat
  num : Nat
  t : Nat
  drift : List Int
  corr : List Int
  temps : List Int
  closure : Nat
  deriving DecidableEq, Repr

/-- Calibration (R280 to R312): objects are keyed 9 × cell + k for converters, 512 + n for sources and 1024 + n for amplifiers.
Beside the trims: when each was last calibrated in the background, the requests, REFIN, drift and corrections, a run under way with
its start, the instant since which a requested one waits and the quadrants it skips, the ratios of the baseline (0 to 5 between
quadrants, 6 to 9 to REFIN), the drift log, and the offline tests with the channels they fenced. DESIGN CHOICE, log entry 8. -/
structure Cal where
  puDone : Bool := false
  puFallback : Bool := false
  convs : Tbl Trims := []
  srcs : Tbl Trim1 := []
  amps : Tbl Trim1 := []
  bgAt : Tbl Nat := []
  queue : List (Nat × Nat) := []
  refSuspect : Bool := false
  suspectRuns : Nat := 0
  lastMedian : Option Int := none
  baseAsked : Bool := false
  bases : Tbl Rat := []
  vsRef : List Int := [0, 0, 0, 0]
  drift : List Int := [0, 0, 0, 0]
  corr : List Int := [0, 0, 0, 0]
  temps : List Int := [0, 0, 0, 0]
  trimDue : Tbl Int := []
  trimFrom : Nat := 0
  running : Bool := false
  triAt : Option Nat := none
  triDue : Option Nat := none
  triSkip : List Nat := []
  refin : Nat := 0
  closure : Nat := 0
  log : List LogEntry := []
  logNum : Nat := 0
  logFull : Bool := false
  unwritten : Option LogEntry := none
  unwrittenAt : Nat := 0
  logDay : Nat := 0
  ageAt : Option Nat := none
  tests : List (Nat × Nat × List Nat) := []
  deriving DecidableEq, Repr

/-- What one optical source does from a boundary on: its active set and the global scale with it, the current i_top and the level of
R316 in units of 0.1 uA, whether a limit clamped it, and since when it is dark (R315 to R323, R328). -/
structure OsSet where
  mode : Nat := 0
  cls : Nat := 0
  set : Nat := 0
  dim : Nat := 0
  freq : Nat := 0
  phase0 : Nat := 0
  scale : Nat := 255
  top : Rat := 0
  level : Nat := 0
  limit : Bool := false
  darkSince : Nat := 0
  deriving DecidableEq, Repr

/-- One optical source (R315 to R331): what it does, what it does from later boundaries on, OPEN with the instant of its entry, and
its neighbour-short latch. -/
structure Os extends OsSet where
  steps : List (Nat × OsSet) := []
  openC : Bool := false
  openAt : Nat := 0
  short : Bool := false
  deriving DecidableEq, Repr

/-- The optical drivers (R316, R326 to R331): the driver's temperature and the instant of the latest update, derating, the last
attempt and the last completed test of each neighbour pair and the pairs found shorted, and EXT_TEMP. -/
structure Optical where
  srcs : Tbl Os := []
  tdrv : Int := 2500
  updAt : Option Nat := none
  derated : Bool := false
  pairAt : Tbl Nat := []
  testedAt : Tbl Nat := []
  shorted : List Nat := []
  extAt : Nat := 0
  extStale : Bool := false
  deriving DecidableEq, Repr

/-- The staging area, with the committed generation at its opening, the shadow registers of a commit under way, the committed
image, and the one being stored with its generation (R380 to R390). -/
structure Image where
  owner : Option (Nat × Nat) := none
  gen : Nat := 0
  len : Nat := 0
  words : Tbl Word := []
  verifying : Bool := false
  verified : Bool := false
  code : Nat := 0
  failing : Nat := 0
  base : Nat := 0
  commitAt : Option Nat := none
  commitBy : Option Hdr := none
  byAction : Option Nat := none
  store : Bool := false
  loading : Bool := false
  shadow : List Word := []
  shadowGen : Nat := 0
  shadowBase : Nat := 0
  running : Bool := false
  fromStorage : Bool := false
  storing : Bool := false
  toStore : Nat × List Word := (0, [])
  committedGen : Nat := 0
  committed : List Word := []
  deriving DecidableEq, Repr

/-- States of a firmware slot (R583). -/
inductive SlotSt where
  | empty | opened | written | verified | trial | good | bad
  deriving DecidableEq, Repr

/-- A firmware slot in the boot flash (R580, R583): its state, the version and SV of its header, its last check code, and
while it is written its length, its bytes and the source that opened it. DESIGN CHOICE, log entry 7. -/
structure FwSlot where
  st : SlotSt := .empty
  version : Word := 0
  sv : Nat := 0
  code : Nat := 0
  len : Nat := 0
  bytes : Tbl Byte := []
  owner : Option (Nat × Nat) := none
  deriving DecidableEq, Repr

/-- How far the start has come (R584). -/
inductive Phase where
  | off | rom | recovery | firmware | ready | reset | testHold
  deriving DecidableEq, Repr

/-- A CORE_RESTART in progress (R595, R596): the slot named, the slot that ran before, its firing instant, whether the
fallback window is open, and the commands and deferred work of the handover record. -/
structure Restart where
  slot : Nat
  prev : Nat
  t : Nat
  fallback : Bool
  notDone : List Pkt
  deriving DecidableEq, Repr

/-- Start-up, slots and the boot flash records (R577 to R601); toPower holds the domains the start still has to switch on,
missing those that wait for a rail (R584, R605); pd2Wait says that PD2 is good and its island still closed (R34); loadTried says that the stored copies have been read, and waitId since when
a hub ID is waited for to load one (R395). DESIGN CHOICE, log entries 5, 7. -/
structure Boot where
  phase : Phase := .off
  running : Nat := 3
  active : Nat := 0
  nonActive : Bool := false
  slotA : FwSlot := { st := .good }
  slotB : FwSlot := {}
  fuses : Nat := 0
  bootsel : Bool := false
  cause : Nat := 0
  bootNum : Nat := 0
  stuck : Bool := false
  resetLow : Option Nat := none
  restart : Option Restart := none
  lastRestart : Nat := 0
  lastSwapped : Nat := 0
  hubId : Option Nat := none
  seqMark : Option Nat := none
  recMark : Option (Nat × Nat) := none
  retired : Tbl (BitVec 9) := []
  signetConf : Option Word := none
  calRecord : Option (Tbl Trims × Tbl Trim1 × Tbl Trim1) := none
  pd2Wait : Bool := false
  toPower : List Nat := []
  missing : List Nat := []
  rails : List Rail := [.vddaon, .vioaon, .vddc, .vddl, .vddla, .vio18, .avdd 0, .avdd 1, .avdd 2, .avdd 3]
  waitId : Option Nat := none
  loadTried : Bool := false
  tempNow : Int := 2500
  tempSensor : Nat := 0
  tempPeak : Int := 2500
  hours : Tbl Nat := []
  hourAt : Option Nat := none
  railWait : Option Nat := none
  deriving DecidableEq, Repr

/-- Identity and fuses of the part (R1, R258, R349, R623, R629). DEDUCED, log entry 108; DESIGN CHOICE, log entry 7. -/
structure Ident where
  screenS : Bool := false
  stepping : Nat := 1
  eui : Nat := 0
  field : Bool := true
  mbist : Nat := 2
  mbistFailing : Nat := 0
  modbist : Nat := 2
  modMap : BitVec 432 := 0
  deriving DecidableEq, Repr

/-- The test access port (R622 to R629): instruction register, boundary cells, selected data register, what a BIST run
reported, and the unlock window. DESIGN CHOICE, log entry 109. -/
structure Tap where
  ir : BitVec 8 := 2
  preload : List Bool := []
  unlockUntil : Option Nat := none
  soForced : Bool := false
  atBus : Bool := false
  acDrive : Bool := false
  hiz : Bool := false
  dr : BitVec 64 := 0
  result : Option (BitVec 64) := none
  deriving DecidableEq, Repr

/-- The hub. cfg holds the configured value of every item that differs from its default (R350, R378), status the
hardware-written words that an item shows as they were last written, and counts every counter, keyed by parameter ID
and the lowest bit of its field; gaitSets the staged items of GAIT actions by handle (R266), gaitLate those of the GAIT actions
fired within the latest base-rate period with their T (R271); free is the model's own count of the free values taken. DESIGN CHOICE, log entries 9, 55. -/
structure State where
  time : Time := {}
  rein : Tbl ReinLine := []
  acts : Tbl Act := []
  gaitSets : Tbl (List (Word × Word)) := []
  gaitLate : List (Nat × List (Word × Word)) := []
  cfg : Tbl Word := []
  status : Tbl Word := []
  counts : Tbl Nat := []
  evq : EvQueue := {}
  cmds : Cmds := {}
  pdOn : BitVec 16 := 1
  pdGood : BitVec 16 := 1
  switches : BitVec 6 := 0
  closed : List (Crossing × Nat) := []
  chans : Tbl Chan := []
  cells : Tbl Cell := []
  srcs : Tbl Src := []
  gaits : Tbl GaitSt := []
  trig : Trig := {}
  hold : Hold := {}
  stores : Tbl St := []
  arc : Archive := {}
  lanes : Tbl Lane := []
  links : Tbl Link := []
  net : Net := {}
  faults : Faults := {}
  core : Core := {}
  pair : Pair := {}
  safety : Safety := {}
  cal : Cal := {}
  opt : Optical := {}
  image : Image := {}
  boot : Boot := {}
  ident : Ident := {}
  tap : Tap := {}
  free : Nat := 0
  pending : List Instr := []
  deriving DecidableEq, Repr

/-- The hub at the instant the PD0 supervisor first reports good (step 1 of R584): PD0 alone is on, no core runs, the
queues are empty and every item holds its default. DESIGN CHOICE, log entries 5, 6, 7, 8, 105. -/
def State.reset : State := {}

end Sys2Proof.Machine
end

