-- ==== Sys2Proof/Machine/Ops.lean ====
section
/-! DEFINITION. The shared operations: the clock, numbered units, configured values, counters, the event queue with its
watermarks, and replies. -/

namespace Sys2Proof.Machine

/-- Advances RUNTIME to instant t (R238); it never goes back. DESIGN CHOICE, log entry 1. -/
def State.setClock (t : Nat) (s : State) : State :=
  { s with time := { s.time with runtime := max s.time.runtime (wrap 64 t) } }

/-- RUNTIME now. DESIGN CHOICE, log entry 17. -/
def State.now (s : State) : Nat := s.time.runtime

/-- x brought towards zero by at most n. -/
def shrink (x : Int) (n : Nat) : Int := if 0 ≤ x then max 0 (x - n) else min 0 (x + n)

/-- The slew done by RUNTIME r since it last stood in its two parts, in ns: 100 ns a second (R252). -/
def Time.slewDone (m : Time) (r : Nat) : Nat :=
  match m.slewFrom with
  | some f => (r - f) / 10000000
  | none => 0

/-- The grid part of the slew left at RUNTIME r; the phase part is removed first. -/
def Time.gridLeft (m : Time) (r : Nat) : Int := shrink m.gridRem (m.slewDone r - m.slewRem.natAbs)

/-- How far a slew of the grid has moved NTIME against the Bridle clock by RUNTIME r, in a stretch before the one in force where r
lies in one (R241, R246). -/
def Time.gridMoved (m : Time) (r : Nat) : Int :=
  match (m.gridPast.filter (fun g => decide (r < g.till))).getLast? with
  | some g => g.moved + g.grid - shrink g.grid ((r - g.start) / 10000000 - g.phase.natAbs)
  | none => m.gridAdj + m.gridRem - m.gridLeft r

/-- NTIME at RUNTIME r: with the rate of the map before its r0, and at the rate of the Bridle clock, which follows the lead, from
r0 on; a slew of the grid moves it at 100 ns a second (R236, R238, R245, R246). DEDUCED, log entry 18. -/
def ntimeAt (tm : Time) (r : Nat) : Nat :=
  if tm.mapSet then
    let d : Int := (r : Int) - tm.r0
    code 64 (if d < 0 then tm.n0 + d + d * tm.y / 1000000000000 else tm.n0 + d + tm.gridMoved r)
  else 0

/-- The RUNTIME at which NTIME reads n (R245). DEDUCED, log entry 18. -/
def runtimeAt (tm : Time) (n : Nat) : Nat :=
  let d : Int := (n : Int) - tm.n0
  if d < 0 then ((tm.r0 : Int) + d * 1000000000000 / (1000000000000 + tm.y)).toNat
  else
    let r := ((tm.r0 : Int) + d - tm.gridAdj).toNat
    ((tm.r0 : Int) + d - tm.gridMoved r).toNat

/-- NTIME now (R237). -/
def State.ntime (s : State) : Nat := ntimeAt s.time s.now

/-- The code of a time state (R242). -/
def TimeState.num : TimeState → Nat
  | .unlocked => 0
  | .locked => 1
  | .holdover => 2

/-- The code of the time state now. -/
def State.tstate (s : State) : Nat := s.time.state.num

/-- The stamp of an instant of RUNTIME: NTIME, or RUNTIME while UNLOCKED (R242). -/
def State.stampOf (s : State) (r : Nat) : Nat :=
  if s.time.state = .unlocked then wrap 64 r else ntimeAt s.time r

/-- The stamp of now. DESIGN CHOICE, log entry 17. -/
def State.stamp (s : State) : Nat := s.stampOf s.now

/-- The island number written into headers, 0 while UNLOCKED (R242). -/
def State.islandNo (s : State) : Nat := if s.time.state = .unlocked then 0 else s.time.island

/-- Takes the next free value. DESIGN CHOICE, log entry 9. -/
def State.takeFree (s : State) : Word × State := (Config.freeWord s.free, { s with free := s.free + 1 })

/-! Numbered units. -/

/-- Channel n at work. -/
def State.chan (s : State) (n : Nat) : Chan := tget {} s.chans n
/-- Channel n replaced. -/
def State.setChan (s : State) (n : Nat) (c : Chan) : State := { s with chans := tset {} s.chans n c }
/-- Channel n changed. -/
def State.modChan (s : State) (n : Nat) (f : Chan → Chan) : State := s.setChan n (f (s.chan n))
/-- Cell n at work. -/
def State.cell (s : State) (n : Nat) : Cell := tget {} s.cells n
/-- Cell n changed. -/
def State.modCell (s : State) (n : Nat) (f : Cell → Cell) : State := { s with cells := tmod {} s.cells n f }
/-- Excitation source n at work. -/
def State.src (s : State) (n : Nat) : Src := tget {} s.srcs n
/-- Excitation source n changed. -/
def State.modSrc (s : State) (n : Nat) (f : Src → Src) : State := { s with srcs := tmod {} s.srcs n f }
/-- Gait n at work. -/
def State.gait (s : State) (n : Nat) : GaitSt := tget {} s.gaits n
/-- Gait n changed. -/
def State.modGait (s : State) (n : Nat) (f : GaitSt → GaitSt) : State := { s with gaits := tmod {} s.gaits n f }
/-- Storage port n. -/
def State.store (s : State) (n : Nat) : St := tget {} s.stores n
/-- Storage port n changed. -/
def State.modStore (s : State) (n : Nat) (f : St → St) : State := { s with stores := tmod {} s.stores n f }
/-- Lane n. -/
def State.lane (s : State) (n : Nat) : Lane := tget {} s.lanes n
/-- Lane n changed. -/
def State.modLane (s : State) (n : Nat) (f : Lane → Lane) : State := { s with lanes := tmod {} s.lanes n f }
/-- Link n. -/
def State.link (s : State) (n : Nat) : Link := tget {} s.links n
/-- Link n changed. -/
def State.modLink (s : State) (n : Nat) (f : Link → Link) : State := { s with links := tmod {} s.links n f }
/-- Fault source n. -/
def State.fsrc (s : State) (n : Nat) : FSrc := tget {} s.faults.srcs n
/-- Fault source n changed. -/
def State.modFsrc (s : State) (n : Nat) (f : FSrc → FSrc) : State :=
  { s with faults := { s.faults with srcs := tmod {} s.faults.srcs n f } }
/-- Action entry n. -/
def State.act (s : State) (n : Nat) : Act := tget {} s.acts n
/-- Action entry n changed. -/
def State.modAct (s : State) (n : Nat) (f : Act → Act) : State := { s with acts := tmod {} s.acts n f }

/-- TYPE of an entry. -/
def Act.kind (a : Act) : Nat := fld a.typ.toNat 0 4

/-- SCALE: whether T counts RUNTIME (R267). -/
def Act.onRuntime (a : Act) : Bool := bit a.typ.toNat 4

/-- The counter of an entry's scale now. -/
def State.counterOf (s : State) (a : Act) : Nat := if a.onRuntime then s.now else s.ntime

/-- Whether entry n has reached its T: it is armed and the signed difference of the low words is at or below 0 (R270). -/
def State.actDue (s : State) (n : Nat) : Bool :=
  (s.act n).st == .armed && decide (sdiff 32 (s.act n).target (s.counterOf (s.act n)) ≤ 0)

/-- Whether some entry fires at this instant: the effects of entries come before those of boundaries (R271). -/
def State.firesNow (s : State) : Bool := (List.range 64).any s.actDue

/-- Rein line n. -/
def State.line (s : State) (n : Nat) : ReinLine := tget {} s.rein n
/-- Rein line n changed. -/
def State.modLine (s : State) (n : Nat) (f : ReinLine → ReinLine) : State := { s with rein := tmod {} s.rein n f }
/-- Condition slot n at work. -/
def State.slot (s : State) (n : Nat) : Slot := tget {} s.trig.slots n
/-- Condition slot n changed. -/
def State.modSlot (s : State) (n : Nat) (f : Slot → Slot) : State :=
  { s with trig := { s.trig with slots := tmod {} s.trig.slots n f } }
/-- An optical source as it works at instant t. -/
def Os.at (o : Os) (t : Nat) : Os :=
  { o with toOsSet := (((o.steps.filter (fun x => x.1 ≤ t)).getLast?).map Prod.snd).getD o.toOsSet }
/-- Optical source n as it works at instant t. -/
def State.osAt (s : State) (n t : Nat) : Os := (tget {} s.opt.srcs n).at t
/-- Optical source n at work. -/
def State.os (s : State) (n : Nat) : Os := s.osAt n s.now
/-- What optical source n does after every change that waits for its boundary. -/
def State.osLast (s : State) (n : Nat) : OsSet :=
  let o := tget {} s.opt.srcs n
  ((o.steps.getLast?).map Prod.snd).getD o.toOsSet
/-- Optical source n changed in what no boundary governs. -/
def State.modOs (s : State) (n : Nat) (f : Os → Os) : State :=
  { s with opt := { s.opt with srcs := tmod {} s.opt.srcs n f } }
/-- What optical source n does becomes x from boundary e on; what it did is kept for 2 s. DESIGN CHOICE, log entry 122. -/
def State.stepOs (s : State) (n e : Nat) (x : OsSet) : State :=
  if x = s.osLast n then s
  else
    let old := s.now - 2000000000
    s.modOs n (fun o => { o with
      toOsSet := (o.at old).toOsSet
      steps := o.steps.filter (fun y => old < y.1 && y.1 < e) ++ [(e, x)] })

/-! Configured values. -/

/-- The configured value of an item: as last accepted, or its default (R350, R378). -/
def State.cfgAt (s : State) (id : Nat) : Nat :=
  match tfind s.cfg id with
  | some w => w.toNat
  | none => dfltOf id

/-- The configured value of block.instance.item. -/
def State.cfgN (s : State) (b i k : Nat) : Nat := s.cfgAt (pid b i k)

/-- A field of a configured value. -/
def State.cfgF (s : State) (b i k lo n : Nat) : Nat := fld (s.cfgN b i k) lo n

/-- A bit of a configured value. -/
def State.cfgB (s : State) (b i k n : Nat) : Bool := bit (s.cfgN b i k) n

/-- The value of an item in force: an issued write counts once it has taken effect (R28). -/
def State.effAt (s : State) (id : Nat) : Nat :=
  match s.cmds.issued.find? (fun w => w.id.toNat == id) with
  | some w => w.old.toNat
  | none => s.cfgAt id

/-- A field of a value in force. -/
def State.effF (s : State) (b i k lo n : Nat) : Nat := fld (s.effAt (pid b i k)) lo n

/-- Accepts value v for an item. -/
def State.setCfg (s : State) (id v : Nat) : State :=
  { s with cfg := tset (BitVec.ofNat 32 (dfltOf id)) s.cfg id (BitVec.ofNat 32 v) }

/-- The word an item last showed, for items the hardware writes. -/
def State.stat (s : State) (id : Nat) : Nat := ((tfind s.status id).map BitVec.toNat).getD (dfltOf id)

/-- Writes the word an item shows. -/
def State.setStat (s : State) (id v : Nat) : State :=
  { s with status := tset (BitVec.ofNat 32 (dfltOf id)) s.status id (BitVec.ofNat 32 v) }

/-! Power domains. -/

/-- Whether domain PDn is on and reported good, and PD2's island reopened (R31, R34). -/
def State.pd (s : State) (n : Nat) : Bool := bit (s.pdOn &&& s.pdGood).toNat n && !(n == 2 && s.boot.pd2Wait)

/-- The quadrant of a cell (R4). -/
def quadOf (cell : Nat) : Nat := cell / 12

/-- Whether a unit is fenced in table t. -/
def isFenced (t : Tbl (List Cause)) (n : Nat) : Bool := !(tget [] t n).isEmpty

/-- Whether a cell is fenced, by itself, with its quadrant, or by its domains (R31, R518). -/
def State.cellFenced (s : State) (c : Nat) : Bool :=
  isFenced s.faults.cells c || isFenced s.faults.quads (quadOf c) || !s.pd (3 + quadOf c) || !s.pd (7 + quadOf c)

/-- Whether a configuration image has been committed, that is, the hub is not HELD (R394, R397). -/
def State.running (s : State) : Bool := s.image.running

/-- Whether a cell produces: the hub runs and the cell is not fenced (R50). DEDUCED, log entry 24. -/
def State.cellRuns (s : State) (c : Nat) : Bool := s.running && !s.cellFenced c

/-- Whether the control core executes commands: PD1 on, firmware or the ROM's recovery mode running, and the cores
neither halted nor restarting (R31, R371). -/
def State.coreUp (s : State) : Bool :=
  s.pd 1 && (s.boot.phase == .firmware || s.boot.phase == .ready || s.boot.phase == .recovery)
    && (s.core.st == .running || s.core.st == .resync)

/-- The hub's own ID, 1023 while it has none (R494). DEDUCED, log entry 93. -/
def State.hubId (s : State) : Nat := s.net.id.getD 1023

/-! Hold-store sizes. -/

/-- The bytes of a reply packet: header, status and detail, data and trailer (R347). -/
def Reply.size (r : Reply) : Nat := 24 + r.data.length

/-- The bytes of a network trigger message in the hold store: its frame's payload. DESIGN CHOICE, log entry 125. -/
def NetMsg.size (m : NetMsg) : Nat := m.frame.payload.length

/-- The bytes the block region holds (R411): open and complete blocks that are not spilled, link replies and network trigger
messages. DEDUCED, log entry 39. -/
def State.fill (s : State) : Nat :=
  (s.hold.openBlks.map Blk.size).sum + ((s.hold.blks.filter (fun b => !b.spilled)).map Blk.size).sum
    + (s.cmds.linkReplies.map Reply.size).sum + (s.hold.nets.map NetMsg.size).sum

/-- The block region in bytes (R411). -/
def blockRegion : Nat := 15208 * 1024

/-- Whether an item is a gap entry. -/
def isGap : Item → Bool
  | .gap .. => true
  | _ => false

/-- The gap entries in the hold store. -/
def State.gapItems (s : State) : Nat :=
  ((s.hold.openBlks ++ s.hold.blks).map (fun b => (b.items.filter isGap).length)).sum

/-- The bytes of the gap reserve (R194, R411). -/
def gapReserve : Nat := 24 * 1024

/-- Free bytes of the block region; gap entries lie in their reserve while it holds them (R194, R411). -/
def State.freeRegion (s : State) : Nat := blockRegion - (s.fill - min gapReserve (32 * s.gapItems))

/-- The fill in 4 KiB units, saturating (R407, R432). -/
def State.fillUnits (s : State) : Nat := min 4095 (s.fill / 4096)

/-- The bytes of the host reply queue in use. -/
def State.replyBytes (s : State) : Nat := (s.cmds.replies.map Reply.size).sum

/-! Watermarks. -/

/-- The entries in the event queue, the rest of the event being read included. -/
def State.evCount (s : State) : Nat := (s.evq.q.map (fun e => e.words.length)).sum + s.evq.reading.length

/-- The level a watermark follows (R407). -/
def State.wmLevel (s : State) (src : Nat) : Nat :=
  match src with
  | 0 => s.evCount
  | 1 => s.replyBytes / 64
  | _ => s.fillUnits

/-- One watermark after its level was looked at (R407, R408). -/
def wmNext (cfg level : Nat) (w : Watermark) : Watermark :=
  if !w.live && fld cfg 0 12 ≤ level then { w with live := true, up := true }
  else if w.live && level ≤ fld cfg 16 12 then { w with live := false, down := true }
  else w

/-- Both watermarks follow their levels. -/
def State.updWm (s : State) : State :=
  let c0 := s.cfgN 0x08 0 1
  let c1 := s.cfgN 0x08 0 2
  { s with evq := { s.evq with
      wm0 := wmNext c0 (s.wmLevel (fld c0 28 2)) s.evq.wm0
      wm1 := wmNext c1 (s.wmLevel (fld c1 28 2)) s.evq.wm1 } }

/-! Counters and events. -/

/-- A counter: the field of an item from bit lo. -/
def State.count (s : State) (id lo : Nat) : Nat := tget 0 s.counts (id * 32 + lo)

/-- A counter changed. -/
def State.setCount (s : State) (id lo v : Nat) : State := { s with counts := tset 0 s.counts (id * 32 + lo) v }

/-- The entries of an event: its fields packed from the most significant payload bit, and the stamp when asked for
(R399, R400). -/
def evWords (evCode : Nat) (fields : List (Nat × Nat)) (stamp : Option Nat) : List (BitVec 64) :=
  let w := widthOf fields
  let k := max 1 (cdiv w 53)
  let p := packMsb fields <<< (53 * k - w)
  let body := (List.range k).map (fun i => fld p (53 * (k - 1 - i)) 53)
  let pay := match stamp with
    | some x => body ++ [x]
    | none => body
  pay.zipIdx.map (fun (x, i) =>
    if i = 0 then BitVec.ofNat 64 (evCode <<< 56 ||| (pay.length - 1) <<< 53 ||| x)
    else BitVec.ofNat 64 (0xFF <<< 56 ||| i <<< 53 ||| x))

/-- The stamp payload: time state and the low 51 bits of the stamp (R400). -/
def State.evStamp (s : State) : Nat := s.tstate <<< 51 ||| wrap 51 s.stamp

/-- Discards whole events below priority p from the end until k entries are free; gives the queue and how many events
went (R404). The queue is in reading order, so its end holds the lowest priority, newest first. -/
def discardBelow (p k : Nat) : List Ev → Nat → Nat → List Ev × Nat
  | [], _, n => ([], n)
  | e :: r, free, n =>
    if free < k ∧ e.prio < p then discardBelow p k r (free + e.words.length) (n + 1) else ((e :: r), n)

/-- The queue's answer to a new event: the events kept and the number lost (R403, R404). -/
def admitEv (e : Ev) (used : Nat) (q : List Ev) : List Ev × Nat :=
  let k := e.words.length
  let ins := fun l => insertBy (fun (x y : Ev) => y.prio < x.prio) e l
  if used + k ≤ 4096 then (ins q, 0)
  else
    let low := ((q.filter (fun x => x.prio < e.prio)).map (fun x => x.words.length)).sum
    if used + k ≤ 4096 + low then
      let d := discardBelow e.prio k q.reverse (4096 - used) 0
      (ins d.1.reverse, d.2)
    else (q, 1)

/-- Puts an event into the queue, with no regard to what it loses. DEDUCED, log entry 91. -/
def State.putEv (s : State) (evCode : Nat) (fields : List (Nat × Nat)) : State × Nat :=
  let c := s.cfgN 0x08 0 (0x100 + evCode)
  if !s.pd 2 || bit c 3 then (s, 0)
  else
    let e : Ev := ⟨evCode, fld c 0 3, evWords evCode fields (if s.cfgB 0x08 0 0 0 then some s.evStamp else none)⟩
    let a := admitEv e s.evCount s.evq.q
    ({ s with evq := { s.evq with q := a.1, lost := s.evq.lost || a.2 != 0 } }, a.2)

/-- The event that a counter reached its maximum (R401). DESIGN CHOICE, log entry 92. -/
def satFields (id lo : Nat) : List (Nat × Nat) := [(id, 32), (lo, 5)]

/-- Counts n lost events in QLOST; reaching the maximum raises the counter's own event, whose losses find QLOST full. -/
def State.countLost (s : State) (n : Nat) : State :=
  let q := pid 0x08 0 6
  let old := s.count q 0
  let new := min 0x7FFFFFFF (old + n)
  let s := s.setCount q 0 new
  if old < 0x7FFFFFFF ∧ new = 0x7FFFFFFF then (s.putEv 0x10 (satFields q 0)).1 else s

/-- Raises an event (R399 to R404). -/
def State.raise (s : State) (evCode : Nat) (fields : List (Nat × Nat)) : State :=
  let r := s.putEv evCode fields
  (r.1.countLost r.2).updWm

/-- Counts n in the w-bit saturating counter at bit lo of item id; the count that reaches the maximum raises event 0x10
(R14, R401). -/
def State.bumpBy (s : State) (id lo w n : Nat) : State :=
  let old := s.count id lo
  let new := min (2 ^ w - 1) (old + n)
  let t := s.setCount id lo new
  if old < 2 ^ w - 1 ∧ new = 2 ^ w - 1 then t.raise 0x10 (satFields id lo) else t

/-- Counts one. -/
def State.bump (s : State) (id lo w : Nat) : State := s.bumpBy id lo w 1

/-- Whether a counter stands at its maximum, which its SAT bit shows (R14). -/
def State.sat (s : State) (id lo w : Nat) : Bool := s.count id lo == 2 ^ w - 1

/-- The common layout of a count in [31:16] with SAT in [15]. -/
def State.cnt16 (s : State) (id : Nat) : Nat := s.count id 16 <<< 16 ||| b2n (s.sat id 16 16) <<< 15

/-- A 31-bit count with SAT in [31]. -/
def State.cnt31 (s : State) (id : Nat) : Nat := s.count id 0 ||| b2n (s.sat id 0 31) <<< 31

/-- A 16-bit count in [15:0] with SAT in [16]. -/
def State.cnt16lo (s : State) (id : Nat) : Nat := s.count id 0 ||| b2n (s.sat id 0 16) <<< 16

/-- Two 15-bit counts with SAT in [15] and [31]. -/
def State.cnt15x2 (s : State) (id : Nat) : Nat :=
  s.count id 0 ||| b2n (s.sat id 0 15) <<< 15 ||| s.count id 16 <<< 16 ||| b2n (s.sat id 16 15) <<< 31

/-- Each corrected error among the words read, by their outcomes in order, counts in a 16-bit item (R406, R417). DESIGN CHOICE, log
entry 13. -/
def State.countCorr (s : State) (id : Nat) (ecc : List Ecc) : State :=
  (ecc.filter (· == .corrected)).foldl (fun s _ => s.bump id 0 16) s

/-- Words of the hold store have been read (R417). -/
def State.holdRead (s : State) (ecc : List Ecc) : State := s.countCorr (pid 0x08 0 9) ecc

/-- The next event to read, every entry of which has been checked: corrected errors are counted, and an event with a bad entry is
discarded and counted as lost (R406). The result also says how many were discarded. The fuel is the number of events. -/
def State.headEv : Nat → State → List Ecc → State × Nat × List Ecc
  | 0, s, ecc => (s, 0, ecc)
  | n + 1, s, ecc =>
    match s.evq.q with
    | [] => (s, 0, ecc)
    | e :: q =>
      let k := e.words.length
      let s := s.countCorr (pid 0x08 0 5) (ecc.take k)
      if (ecc.take k).contains .bad then
        let r := State.headEv n ({ s with evq := { s.evq with q := q, lost := true } }.countLost 1) (ecc.drop k)
        (r.1, r.2.1 + 1, r.2.2)
      else (s, 0, ecc.drop k)

/-- Reads one entry: the continuation of the event being read, else the first entry of the next event (R403). None when
the queue is empty. -/
def State.popEntry (s : State) (ecc : List Ecc) : State × Option (BitVec 64) × Nat × List Ecc :=
  match s.evq.reading with
  | x :: r => ({ s with evq := { s.evq with reading := r, last := x } }, some x, 0, ecc)
  | [] =>
    if s.evq.q.isEmpty then (s, none, 0, ecc)
    else
      let a := State.headEv s.evq.q.length s ecc
      match a.1.evq.q with
      | [] => (a.1, none, a.2.1, a.2.2)
      | e :: q =>
        let x := e.words.headD 0
        ({ a.1 with evq := { a.1.evq with q := q, reading := e.words.tail, last := x } }, some x, a.2.1, a.2.2)

/-- Reads one entry as READ_EVENTS does: an empty queue answers the last entry read and sets UNDERRUN (R405). -/
def State.readEntry (s : State) (ecc : List Ecc) : State × BitVec 64 × Nat × List Ecc :=
  match s.popEntry ecc with
  | (t, some x, n, e) => (t, x, n, e)
  | (t, none, n, e) => ({ t with evq := { t.evq with underrun := true } }, t.evq.last, n, e)

/-! Replies. -/

/-- Status codes (R355). -/
def stOk : Nat := 0x0000
/-- ACCEPTED. -/
def stAccepted : Nat := 0x0001
/-- BAD_OPCODE. -/
def stBadOpcode : Nat := 0x0100
/-- BAD_LENGTH. -/
def stBadLength : Nat := 0x0101
/-- PARAM_RANGE. -/
def stParamRange : Nat := 0x0102
/-- BAD_CRC. -/
def stBadCrc : Nat := 0x0103
/-- BAD_VERSION. -/
def stBadVersion : Nat := 0x0104
/-- BUSY_LIVE. -/
def stBusyLive : Nat := 0x0200
/-- RETRY. -/
def stRetry : Nat := 0x0201
/-- NOT_COMMITTED. -/
def stNotCommitted : Nat := 0x0300
/-- SIGNET_MISMATCH. -/
def stSignetMismatch : Nat := 0x0301
/-- DENIED. -/
def stDenied : Nat := 0x0400
/-- NO_SPACE. -/
def stNoSpace : Nat := 0x0500

/-- Whether a reply is sent: with ACKREQ every reply, without it only one with data or a failure (R357). -/
def replySent (h : Hdr) (status : Nat) (data : List Byte) : Bool :=
  h.ackreq || !data.isEmpty || (status != stOk && status != stAccepted)

/-- Counts the failures of R372 among answers. -/
def State.countAnswer (s : State) (status : Nat) : State :=
  if stBadOpcode ≤ status ∧ status ≤ stBadVersion then s.bump (pid 0x01 0 0x301) 16 15
  else if status = stRetry then s.bump (pid 0x01 0 0x302) 0 15
  else s

/-- The port a reply to a link source leaves by: for a tag that stands for a collector's command its collector port, else
the port towards the source; none while the source cannot be reached (R357, R483, R487). DEDUCED, log entry 91. -/
def State.replyPort (s : State) (h : Hdr) : Option Nat :=
  if some h.source = s.net.id || 1023 ≤ h.source then
    if 0xF000 ≤ h.tag then (tfind s.net.proxies h.tag).map Proxy.port else none
  else (tfind s.net.routes h.source).map Prod.fst

/-- The bytes of the reply queues that are not the host's: where link replies wait for the block region (R411). -/
def linkRoom : Nat := 64 * 1024

/-- A link reply joins the block region while space remains, behind those that wait for it, else it waits; one that finds no room
there either is lost (R410 to R412). DESIGN CHOICE, log entry 125. -/
def State.joinRegion (s : State) (r : Reply) : State :=
  let c := s.cmds
  if c.linkWait.isEmpty && decide (r.size ≤ s.freeRegion) then
    ({ s with cmds := { c with linkReplies := c.linkReplies ++ [r] } }).updWm
  else if (c.linkWait.map Reply.size).sum + r.size ≤ linkRoom then { s with cmds := { c with linkWait := c.linkWait ++ [r] } }
  else s

/-- The link replies that waited for the block region join it, in order, as far as there is space (R411, R412). -/
def State.admitWaiting (s : State) : State :=
  s.cmds.linkWait.foldl State.joinRegion { s with cmds := { s.cmds with linkWait := [] } }

/-- Queues a reply: for the host in order of barrier and PRIO (R364, R409), for a link with its port's traffic (R410); one
whose destination cannot be reached is discarded (R357). DEDUCED, log entry 91. -/
def State.queueReply (s : State) (r : Reply) : State :=
  if !(s.pd 2 || s.boot.phase == .recovery) then s
  else if r.h.port = 6 then
    let before := fun (x y : Reply) => x.epoch < y.epoch || (x.epoch == y.epoch && y.h.prio < x.h.prio)
    ({ s with cmds := { s.cmds with replies := insertBy before r s.cmds.replies } }).updWm
  else if (s.replyPort r.h).isNone then s
  else s.joinRegion r

/-- Answers a request (R347, R357). -/
def State.answer (s : State) (h : Hdr) (opcode status detail : Nat) (data : List Byte) (safety : Bool := false) : State :=
  let s := s.countAnswer status
  if replySent h status data then s.queueReply ⟨h, opcode, status, detail, data, safety, s.cmds.epoch⟩ else s

/-- Whether deferred work satisfies p. -/
def State.hasWork (s : State) (p : Work → Bool) : Bool := s.cmds.deferred.any (fun d => p d.work)

/-- The opcode of WRITE_PARAM, in which a write of a single item is answered (R350). -/
def opWriteParam : Nat := 0x0201

/-- Runs f for each of a list, in order. -/
def forAll {α : Type} (l : List α) (f : State → α → State) (s : State) : State := l.foldl f s

/-- Runs f when c holds. -/
def whenB (c : Bool) (f : State → State) (s : State) : State := if c then f s else s

/-- Whether p ns have passed since an instant, where there is one. DESIGN CHOICE, log entry 3. -/
def State.elapsed (s : State) (last : Option Nat) (p : Nat) : Bool := (last.map (fun a => decide (a + p ≤ s.now))).getD true

/-- A command the core must run: without a running core nothing happens (R31, R371). DESIGN CHOICE, log entry 3. -/
def whenCore (f : State → State) (s : State) : State := whenB s.coreUp f s

/-- Whether base-rate boundary b of a grid with origin o has period p: (b − o) is a multiple of p. -/
def onGrid (o p t : Nat) : Bool := p != 0 && o ≤ t && (t - o) % p == 0

/-- One base-rate period in ns. DESIGN CHOICE, log entry 16. -/
def basePeriod : Nat := 62500

/-- The first boundary of the grid with origin o at or after t. -/
def gridUp (o p t : Nat) : Nat := if t ≤ o then o else o + cdiv (t - o) p * p

end Sys2Proof.Machine
end

