-- ==== Sys2Proof/Machine/Flags.lean ====
section
/-! DEFINITION. The sample-flag byte (R121), the coarse-flag byte (R148) and the computation of a sample's flags. -/

namespace Sys2Proof.Machine

/-- SETTLE (R121). -/
def flSettle : BitVec 8 := 0x01
/-- RANGE. -/
def flRange : BitVec 8 := 0x02
/-- CALSWAP. -/
def flCalswap : BitVec 8 := 0x04
/-- SPLICE. -/
def flSplice : BitVec 8 := 0x08
/-- CLIP. -/
def flClip : BitVec 8 := 0x10
/-- HOLDOVER. -/
def flHoldover : BitVec 8 := 0x20
/-- SENSOR. -/
def flSensor : BitVec 8 := 0x40
/-- FENCED. -/
def flFenced : BitVec 8 := 0x80

/-- A flag when its condition holds. -/
def flIf (b : Bool) (f : BitVec 8) : BitVec 8 := if b then f else 0

/-- Whether flag byte fl carries any flag of m. -/
def hasFl (fl m : BitVec 8) : Bool := fl &&& m != 0

end Sys2Proof.Machine
end

