-- ==== Sys2Proof/Machine/Hold.lean ====
section
/-! DEFINITION. The hold store: blocks, their items, admission and gap entries (R191 to R195, R225 to R228, R411, R412). -/

namespace Sys2Proof.Machine

/-- The bytes of an item in a block whose FLAGS bit is fl and whose format is fmt (R227). -/
def itemSize (fmt : Nat) (fl : Bool) : Item → Nat
  | .run _ xs => cdiv (8 + 4 * xs.length + (if fl && fmt != 1 then xs.length else 0)) 8 * 8
  | .acc .. => 48
  | .mm .. => 48
  | .meas _ => 96
  | .gap .. => 32
  | .tag .. => 8
  | .openBlk _ => 192
  | .trailer r => 32 + 24 * r.members.length + 96 * r.results.length

/-- The bytes of a block: a 32-byte header and its items; open and trailer blocks are the item alone (R226, R229, R230). -/
def blkSize (b : Blk) : Nat :=
  (if b.typ = 0x10 ∨ b.typ = 0x11 then 32 else 0) + (b.items.map (itemSize b.fmt b.flags)).sum

/-- Whether stream samples and stream entries are admitted (R412). -/
def State.admitStream (s : State) : Bool := s.pd 2 && (s.cfgF 0x08 0 7 24 8) * 4096 < s.freeRegion

/-- Whether record samples are admitted (R412). -/
def State.admitRecord (s : State) : Bool := s.pd 2 && 4096 ≤ s.freeRegion

/-- Whether replies, open blocks, trailers and network messages are admitted (R412). -/
def State.admitOther (s : State) (n : Nat) : Bool := s.pd 2 && n ≤ s.freeRegion

/-- The open block of a channel's stream (slot none) or of its part of an open record. -/
def State.openOf (s : State) (ch : Nat) (slot : Option Nat) : Option Blk :=
  s.hold.openBlks.find? (fun b => b.ch == ch && b.slot == slot)

/-- The open block of ch and slot taken out. -/
def State.dropOpen (s : State) (ch : Nat) (slot : Option Nat) : State :=
  { s with hold := { s.hold with openBlks := s.hold.openBlks.eraseP (fun b => b.ch == ch && b.slot == slot) } }

/-- The open block of b's channel and slot replaced by b. -/
def State.putOpen (s : State) (b : Blk) : State :=
  let s := s.dropOpen b.ch b.slot
  ({ s with hold := { s.hold with openBlks := s.hold.openBlks ++ [{ b with size := blkSize b }] } }).updWm

/-- A block joins the open archive block of its channel; the first one starts ARC_FLUSH (R424). -/
def State.arcTake (s : State) (b : Blk) : State :=
  let now := s.now
  { s with arc := { s.arc with
      openBlks := tput s.arc.openBlks b.ch (tget [] s.arc.openBlks b.ch ++ [b])
      openSince := if (tfind s.arc.openSince b.ch).isSome then s.arc.openSince else tput s.arc.openSince b.ch now } }

/-- Puts a complete block into the block region, in order of entry; one that no route names and the archive does not
want leaves at once (R413). -/
def State.enterBlk (s : State) (b : Blk) : State :=
  if b.routes = 0 ∧ b.arch = false then s.updWm
  else
    let b := { b with order := s.hold.order, epoch := s.cmds.epoch, size := blkSize b }
    let s := { s with hold := { s.hold with blks := s.hold.blks ++ [b], order := s.hold.order + 1 } }
    (if b.arch then s.arcTake b else s).updWm

/-- Closes the open block of ch and slot (R228). -/
def State.closeOpen (s : State) (ch : Nat) (slot : Option Nat) : State :=
  match s.openOf ch slot with
  | none => s
  | some b => if b.items.isEmpty then s.dropOpen ch slot else (s.dropOpen ch slot).enterBlk b

/-- Closes every open block (R367). -/
def State.closeAllOpen (s : State) : State := forAll s.hold.openBlks (fun s b => s.closeOpen b.ch b.slot) s

/-- Closes every open block of a channel (R152, R217). -/
def State.closeChan (s : State) (ch : Nat) : State :=
  forAll (s.hold.openBlks.filter (fun b => b.ch == ch)) (fun s b => s.closeOpen b.ch b.slot) s

/-- Whether the archive takes blocks of a channel's stream (R424). -/
def State.arcChan (s : State) (ch : Nat) : Bool :=
  s.cfgB 0x04 0 0 0 && maskBit (fun k => s.cfgN 0x04 0 (0x010 + k)) ch

/-- Whether the archive takes blocks of a profile (R424). -/
def State.arcProf (s : State) (p : Nat) : Bool := s.cfgB 0x04 0 0 0 && s.cfgB 0x04 0 2 p

/-- The decimation factor in force on a channel (R130, R134, R156). -/
def State.decim (s : State) (ch : Nat) : Nat := (s.chan ch).d

/-- What a slot of a chain restates of it (R226, R228). -/
def Chain.head (c : Chain) : Head := { d := c.d, org := c.org, part := c.part }

/-- A slot's header with the channel's word format and FLAGS now (R118). -/
def State.formed (s : State) (ch : Nat) (h : Head) : Head :=
  { h with fmt := s.effF 0x11 ch 0x042 0 2, flags := bit (s.effAt (pid 0x11 ch 0x042)) 4 }

/-- What the block of an entry that covers no slot restates: what that of the channel's latest slot does (R226, R228). -/
def State.headNow (s : State) (ch : Nat) : Head :=
  ((s.chan ch).ring.getLast?.map RingWord.head).getD (s.formed ch (s.chan ch).chain.head)

/-- A new block of ch for slot with header data h, whose first slot has sequence number seq and represented instant t of
RUNTIME (R226). -/
def State.newBlk (s : State) (ch : Nat) (slot : Option Nat) (h : Head) (seq t : Nat) : Blk :=
  let p := ((slot.bind (tfind s.trig.recs)).map Record.profile).getD 0
  let tag := match slot.bind (tfind s.trig.recs) with
    | some r => [Item.tag r.epoch r.num]
    | none => []
  { typ := if slot.isSome then 0x11 else 0x10
    ch := ch
    fmt := h.fmt
    flags := h.flags
    org := h.org
    part := h.part
    ts := s.tstate
    island := s.islandNo
    d := h.d
    t0 := s.stampOf t
    seq0 := seq
    items := tag
    size := 32 + 8 * tag.length
    opened := s.now
    slot := slot
    profile := p
    routes := BitVec.ofNat 8 (((slot.bind (tfind s.trig.recs)).map Record.routes).getD (s.cfgN 0x11 ch 0x0B1))
    arch := if slot.isSome then s.arcProf p else s.arcChan ch
    order := 0
    epoch := 0
    spilled := false }

/-- Whether a slot with header data h can go on in an open block: same D, word format and FLAGS, no RESYNC between, and in a
record block no gait change (R152, R217, R228). -/
def Blk.fits (b : Blk) (h : Head) : Bool :=
  b.d == h.d && b.fmt == h.fmt && b.flags == h.flags && b.org == h.org && (b.typ == 0x10 || b.part == h.part)

/-- Whether an open block carries the present time state and island (R228). -/
def State.blkNow (s : State) (b : Blk) : Bool := b.ts == s.tstate && b.island == s.islandNo

/-- The items of a block with one more; a sample joins the sample run whose next slot it is (R227). -/
def addItem (items : List Item) (i : Item) : List Item :=
  match items.getLast?, i with
  | some (.run f xs), .run g ys => if g = f + xs.length then items.dropLast ++ [.run f (xs ++ ys)] else items ++ [i]
  | _, _ => items ++ [i]

/-- Puts an item with header data h into the open block of ch and slot, whose next slot has number seq and instant t; a block
that it would carry beyond 4096 bytes or that h does not fit closes first (R228). -/
def State.putItem (s : State) (ch : Nat) (slot : Option Nat) (h : Head) (seq t : Nat) (i : Item) : State :=
  let fresh := fun (s : State) =>
    let b := s.newBlk ch slot h seq t
    s.putOpen { b with items := addItem b.items i }
  match s.openOf ch slot with
  | none => fresh s
  | some b =>
    let b' := { b with items := addItem b.items i }
    if b.fits h && s.blkNow b && blkSize b' ≤ 4096 then s.putOpen b' else fresh (s.closeOpen ch slot)

/-- Merges a CONT entry of n slots from first into the CONT entry of the same cause that it continues, when there is one
(R194). -/
def mergeCont (cause first n : Nat) : List Item → Option (List Item)
  | [] => none
  | .gap c f k t true :: r =>
    if c = cause ∧ f + k = first then some (.gap c f (k + n) t true :: r)
    else (mergeCont cause first n r).map (.gap c f k t true :: ·)
  | i :: r => (mergeCont cause first n r).map (i :: ·)

/-- Merges a CONT entry of ch and slot into the first block of a list that holds the entry it continues. -/
def mergeIn (ch : Nat) (slot : Option Nat) (g : Gap) : List Blk → Option (List Blk)
  | [] => none
  | b :: r =>
    match (if b.ch = ch ∧ b.slot = slot ∧ b.spilled = false then mergeCont g.cause g.first g.count b.items else none) with
    | some is => some ({ b with items := is } :: r)
    | none => (mergeIn ch slot g r).map (b :: ·)

/-- The hold store after a CONT entry has merged into an unsent one, in an open block or in a complete one that is not on its
way (R194). -/
def State.mergeGap (s : State) (ch : Nat) (slot : Option Nat) (g : Gap) : Option State :=
  match mergeIn ch slot g s.hold.openBlks with
  | some l => some { s with hold := { s.hold with openBlks := l } }
  | none =>
    let busy := fun (b : Blk) => s.hold.sending.any (fun x => x.2.1 == b.order)
    let parts := s.hold.blks.partition busy
    (mergeIn ch slot g parts.2).map (fun l =>
      { s with hold := { s.hold with blks := s.hold.blks.map (fun b => (l.find? (fun c => c.order == b.order && !busy b)).getD b) } })

/-- Counts a gap entry of a channel (R195). -/
def State.countGap (s : State) (ch : Nat) : State := s.bump (pid 0x11 ch 0x0A8) 0 31

/-- Writes a gap entry into a channel's stream or record (R191, R193, R194). -/
def State.putGap (s : State) (ch : Nat) (slot : Option Nat) (g : Gap) (cont : Bool) : State :=
  let item := Item.gap g.cause g.first g.count (s.stampOf g.t0) cont
  let merged := if cont && gapReserve ≤ 32 * s.gapItems then s.mergeGap ch slot g else none
  let s := match merged with
    | some s => s
    | none => s.putItem ch slot g.head g.first g.t0 item
  s.countGap ch

/-- A gap after n more missing slots of the given cause, the first being seq at t with header data h: the gap now open, and the
one that ended by a change of cause (R193). -/
def gapStep (g : Option Gap) (cause seq n t now : Nat) (h : Head) : Gap × Option Gap :=
  match g with
  | none => (⟨cause, seq, n, t, now, h⟩, none)
  | some g => if g.cause = cause then ({ g with count := g.count + n }, none) else (⟨cause, seq, n, t, now, h⟩, some g)

/-- Whether a channel has a stream (R228). -/
def State.streams (s : State) (ch : Nat) : Bool := s.cfgB 0x11 ch 0x0B0 0

/-- n missing slots in a channel's stream, the first being seq at t with header data h. -/
def State.gapStream (s : State) (ch cause seq n t : Nat) (h : Head) : State :=
  let r := gapStep (s.chan ch).gap cause seq n t s.now h
  let s := match r.2 with
    | some g => s.putGap ch none g false
    | none => s
  s.modChan ch (fun c => { c with gap := some r.1 })

/-- Ends a channel's gap: its entry enters the stream (R193). -/
def State.endGap (s : State) (ch : Nat) : State :=
  match (s.chan ch).gap with
  | none => s
  | some g => (s.putGap ch none g false).modChan ch (fun c => { c with gap := none })

/-- Record slot k changed. -/
def State.modRec (s : State) (k : Nat) (f : Record → Record) : State :=
  match tfind s.trig.recs k with
  | none => s
  | some r => { s with trig := { s.trig with recs := tput s.trig.recs k (f r) } }

/-- A member of a record changed. -/
def modMember (ch : Nat) (f : Member → Member) (r : Record) : Record :=
  { r with members := r.members.map (fun m => if m.ch = ch then f m else m) }

/-- Ends the gap of a member of record slot k: its entry enters the record block. -/
def State.endMemberGap (s : State) (k : Nat) (m : Member) : State :=
  match m.gap with
  | none => s
  | some g =>
    (s.putGap m.ch (some k) g false).modRec k
      (modMember m.ch (fun m => { m with gap := none, gapSlots := m.gapSlots + g.count }))

/-- n missing slots of a member of record slot k, the first being seq at t with header data h. -/
def State.gapMember (s : State) (k : Nat) (m : Member) (cause seq n t : Nat) (h : Head) : State :=
  let r := gapStep m.gap cause seq n t s.now h
  let s := match r.2 with
    | some g => (s.putGap m.ch (some k) g false).modRec k
        (modMember m.ch (fun m => { m with gapSlots := m.gapSlots + g.count }))
    | none => s
  s.modRec k (modMember m.ch (fun m => { m with gap := some r.1 }))

/-! The stream of a channel (R34, R189, R192, R193, R412). -/

/-- Whether a measurement that is made from the ring after its span's end is due on a channel: later slots wait behind its
result (R185, R189). -/
def Chan.resultDue (c : Chan) : Bool :=
  let due := fun (p : Span) => p.left == some 0 && decide (p.n ≤ 4096)
  c.span.any due || c.recSpan.any due

/-- The stream takes a slot while PD2 is off: a slot of the open gap's cause joins it, and from any other on the slots stay in
the ring (R31, R34). DEDUCED, log entry 116. -/
def State.holdSlot (s : State) (ch : Nat) (w : RingWord) : State :=
  s.modChan ch (fun c =>
    match c.heldFrom, c.gap with
    | some _, _ => c
    | none, some g =>
      if w.cause = g.cause then { c with gap := some { g with count := g.count + w.n } } else { c with heldFrom := some (w.seq, w.t) }
    | none, none => { c with heldFrom := some (w.seq, w.t) })

/-- The stream of a channel takes a slot, or a run of slots that were not produced: a sample that is not admitted is missing
for want of room, which the flag tells (R192, R193, R412). -/
def State.streamNow (s : State) (ch : Nat) (w : RingWord) : State × Bool :=
  if !s.streams ch then (s, false)
  else if !s.pd 2 then (s.holdSlot ch w, false)
  else if w.cause ≠ 0 then (s.gapStream ch w.cause w.seq w.n w.t w.head, true)
  else if !s.admitStream then (s.gapStream ch 4 w.seq 1 w.t w.head, true)
  else ((s.endGap ch).putItem ch none w.head w.seq w.t (.run w.seq [(w.w, w.fl)]), false)

/-- A stream entry that covers no slot enters the stream when admitted, else it is dropped with an event (R412). It enters at
once, before the entry of a gap in progress, and without PD2 it is lost. DESIGN CHOICE, log entry 118. -/
def State.entryNow (s : State) (ch : Nat) (i : Item) : State :=
  if !s.streams ch || !s.pd 2 then s
  else if s.admitStream then s.putItem ch none (s.headNow ch) (((s.chan ch).pend.head?.map Pend.seq).getD (s.chan ch).seq) s.now i
  else s.raise 0x10 (satFields (pid 0x11 ch 0x0A8) 0)

/-- The stream takes a slot, behind a two-pass result that is due; the flag tells that it lies in a gap (R189). -/
def State.streamSlot (s : State) (ch : Nat) (w : RingWord) : State × Bool :=
  let c := s.chan ch
  if c.resultDue || !c.behind.isEmpty then
    (s.modChan ch (fun c => { c with behind := c.behind ++ [.slot w] }), w.cause != 0)
  else s.streamNow ch w

/-- An entry enters the stream, behind a two-pass result that is due (R189). -/
def State.streamEntry (s : State) (ch : Nat) (i : Item) : State :=
  let c := s.chan ch
  if c.resultDue || !c.behind.isEmpty then s.modChan ch (fun c => { c with behind := c.behind ++ [.entry i] })
  else s.entryNow ch i

/-- Slots of a channel before an instant turn out to lie in a gap: intervals and spans in progress that began before it know so
(R177, R187). -/
def State.lateGap (s : State) (ch before : Nat) : State :=
  s.modChan ch (fun c => { c with
    acc := if c.acc.slots ≠ 0 ∧ c.acc.t0 < before then { c.acc with partSet := true } else c.acc
    mm := if c.mm.slots ≠ 0 ∧ c.mm.t0 < before then { c.mm with partSet := true } else c.mm
    span := c.span.map (fun p => if p.n ≠ 0 ∧ p.t0 < before then { p with gap := true } else p) })

/-- What waited behind a two-pass result enters the stream, unless another result is due (R189). -/
def State.releaseBehind (s : State) (ch : Nat) : State :=
  if (s.chan ch).resultDue then s
  else
    forAll (s.chan ch).behind (fun s x => match x with
      | .slot w =>
        let r := s.streamNow ch w
        if r.2 then r.1.lateGap ch (w.t + 1) else r.1
      | .entry i => s.entryNow ch i) (s.modChan ch (fun c => { c with behind := [] }))

/-- The number of the next slot of a channel that its stream has not taken, or holds in the ring. -/
def Chan.nextOut (c : Chan) : Nat :=
  let waiting := c.behind.findSome? (fun x => match x with
    | .slot w => some w.seq
    | .entry _ => none)
  waiting.getD ((c.pend.head?.map Pend.seq).getD c.seq)

/-- PD2 goes off: the slots of a channel's stream blocks still held are lost, which a gap with cause DOMAIN_OFF will cover;
they make its running reductions PARTIAL and its spans invalid, and what waited behind a result stays in the ring (R31, R34,
R177, R187). DEDUCED, log entry 116. -/
def State.loseStream (s : State) (ch : Nat) : State :=
  let c := s.chan ch
  let lost := (s.hold.blks ++ s.hold.openBlks).filter (fun b => b.typ == 0x10 && b.ch == ch)
  let held := c.behind.findSome? (fun x => match x with
    | .slot w => some (w.seq, w.t)
    | .entry _ => none)
  let now := s.now
  let s := s.modChan ch (fun c => { c with behind := [], heldFrom := if held.isSome then held else c.heldFrom })
  match lost with
  | [] => s
  | b :: _ =>
    let stop := (c.gap.map Gap.first).getD c.nextOut
    if stop ≤ b.seq0 then s
    else
      let t := if b.ts = 0 then b.t0 else runtimeAt s.time b.t0
      s.modChan ch (fun c => { c with
        gapsWait := c.gapsWait ++ [⟨5, b.seq0, stop - b.seq0, t, now, ⟨b.d, b.fmt, b.flags, b.org, b.part⟩⟩]
        acc := if c.acc.slots ≠ 0 ∧ c.acc.seq0 < stop then { c.acc with partSet := true } else c.acc
        mm := if c.mm.slots ≠ 0 then { c.mm with partSet := true } else c.mm
        span := c.span.map (fun p => if p.n ≠ 0 then { p with gap := true } else p) })

/-- A run or sample of the ring from slot q on, where it holds any. -/
def RingWord.since (q : Nat) (w : RingWord) : Option RingWord :=
  if q ≤ w.seq then some w
  else if w.seq + w.n ≤ q then none
  else some { w with seq := q, t := w.t + (q - w.seq) * (w.head.d * basePeriod), n := w.seq + w.n - q }

/-- Gaps with one more that starts at slot q: the last gap goes on where the new slots follow it (R34). -/
def joinGap (l : List Gap) (cause q n t now : Nat) (h : Head) : List Gap :=
  match l.getLast? with
  | some g => if g.first + g.count = q then l.dropLast ++ [{ g with count := g.count + n }] else l ++ [⟨cause, q, n, t, now, h⟩]
  | none => [⟨cause, q, n, t, now, h⟩]

/-- A channel is delivered again after PD2 was off: one gap covers what PD2 lost and the slots overwritten in the ring meanwhile;
where PD2 lost nothing of the channel and the crossing's patience had run out its cause is DELIVERY. The slots still held follow
(R23, R34, R177, R187, R192). DEDUCED, log entry 116. -/
def State.catchUp (s : State) (ch : Nat) : State :=
  let c := s.chan ch
  let now := s.now
  let s := s.modChan ch (fun c => { c with gapsWait := [], heldFrom := none })
  let put := fun (s : State) (l : List Gap) => forAll l (fun s g => s.putGap ch none g false) s
  match c.heldFrom with
  | none => put s c.gapsWait
  | some (q, t) =>
    let l := c.ring.filterMap (RingWord.since q)
    let first := (l.head?.map RingWord.seq).getD c.nextOut
    let cause := if s.closed.contains (.cellHold, ch / 8) then 6 else 5
    let s := if q < first then
        (put s (joinGap c.gapsWait cause q (first - q) t now (s.headNow ch))).lateGap ch ((l.head?.map RingWord.t).getD now)
      else put s c.gapsWait
    forAll l (fun s w => (s.streamNow ch w).1) s

end Sys2Proof.Machine
end

