-- ==== Sys2Proof/Machine/Cmd.lean ====
section
/-! DEFINITION. Commands in progress: completion, fences and deferred work (R358 to R367). -/

namespace Sys2Proof.Machine

/-- Whether a packet carries a safety opcode, which ORD and FENCE neither hold nor count (R370). -/
def Pkt.safety (p : Pkt) : Bool := p.opcode >>> 8 == 0x0B

/-- Whether every packet of a source that arrived before arr has completed (R361, R363). -/
def State.earlierDone (s : State) (source arr : Nat) : Bool :=
  (s.cmds.waiting ++ s.cmds.started).all (fun p => p.safety || p.h.source != source || arr ≤ p.arrival)

/-- The command of a header and opcode leaves the commands in progress: of those of a reused tag the one with that opcode, the earliest
of several (R360, R363). -/
def State.endCmd (s : State) (h : Hdr) (opcode : Nat) : State :=
  let same := fun (p : Pkt) => p.h == h && p.opcode == opcode
  let l := s.cmds.started
  { s with cmds := { s.cmds with started := if l.any same then l.eraseP same else l.eraseP (fun p => p.h == h) } }

/-- Removes a fence. -/
def State.dropFence (s : State) (f : Fence) : State :=
  { s with cmds := { s.cmds with fences := s.cmds.fences.erase f } }

/-- A fence goes into another step with its mark. -/
def State.setFence (s : State) (f : Fence) (st : FenceStep) (mark : Nat) : State :=
  { s with cmds := { s.cmds with
      fences := s.cmds.fences.map (fun g => if g = f then { g with step := st, mark := mark } else g) } }

/-- The fence is met: its reply is queued and it completes (R367). -/
def State.fenceDone (s : State) (f : Fence) : State :=
  ((s.dropFence f).answer f.h 0x0102 stOk 0 []).endCmd f.h 0x0102

/-- The OUT step: every open block closes, and the fence point places a barrier (R367, R409). -/
def State.fenceOutStep (s : State) (f : Fence) : State :=
  if f.out then
    let s := s.closeAllOpen
    let m := s.cmds.epoch
    let s := s.setFence f .out m
    { s with cmds := { s.cmds with epoch := m + 1 } }
  else s.fenceDone f

/-- The step after CMD (R365). -/
def State.fenceCfgStep (s : State) (f : Fence) : State :=
  if f.cfg then s.setFence f .cfg s.cmds.writes else s.fenceOutStep f

/-- Moves on every fence whose CMD step is met; each pass moves one (R365). -/
def State.runFences : Nat → State → State
  | 0, s => s
  | n + 1, s =>
    match s.cmds.fences.find? (fun f => f.step == .cmd && s.earlierDone f.h.source f.arrival) with
    | none => s
    | some f => State.runFences n (s.fenceCfgStep f)

/-- A command has completed (R362). -/
def State.complete (s : State) (h : Hdr) (opcode : Nat) : State :=
  let s := s.endCmd h opcode
  State.runFences s.cmds.fences.length s

/-- Answers a command and completes it (R362). -/
def State.finish (s : State) (h : Hdr) (opcode status : Nat) (detail : Nat := 0) (data : List Byte := []) : State :=
  (s.answer h opcode status detail data).complete h opcode

/-- A command that completes later waits for that: it stays among the started ones (R349, R362). -/
def State.finishLate (s : State) (h : Hdr) (opcode : Nat) (on : LateOn) : State :=
  { s with cmds := { s.cmds with late := s.cmds.late ++ [⟨h, opcode, on⟩] } }

/-- The commands that have waited for what f names are answered and complete (R362). -/
def State.lateDone (s : State) (f : LateOn → Bool) : State :=
  let l := s.cmds.late.filter (fun x => f x.on)
  forAll l (fun s x => s.finish x.h x.opcode stOk) { s with cmds := { s.cmds with late := s.cmds.late.filter (fun x => !f x.on) } }

/-- Whether an instant that commands wait for has come. -/
def LateOn.due (now : Nat) : LateOn → Bool
  | .instant e => e ≤ now
  | .domain _ => false

/-- The clock advances to instant t, and what has waited for an instant up to then completes. DESIGN CHOICE, log entry 1. -/
def State.tick (t : Nat) (s : State) : State :=
  let s := s.setClock t
  if s.cmds.late.any (fun x => x.on.due s.now) then s.lateDone (fun on => on.due s.now) else s

/-- Takes a deferred command: ACCEPTED now, its final reply later (R358). -/
def State.accept (s : State) (h : Hdr) (opcode : Nat) (w : Work) : State :=
  let s := s.finish h opcode stAccepted
  { s with cmds := { s.cmds with deferred := s.cmds.deferred ++ [⟨h, opcode, w⟩] } }

/-- Ends one request for deferred work w with its final reply (R358). -/
def State.finalReply (s : State) (w : Work) (status : Nat) (detail : Nat := 0) (data : List Byte := []) : State :=
  match s.cmds.deferred.find? (fun d => d.work == w) with
  | none => s
  | some d =>
    let s := { s with cmds := { s.cmds with deferred := s.cmds.deferred.erase d } }
    s.answer d.h d.opcode status detail data

/-- Whether a write that is on its way still waits for an effect: one of a gait (cells 48 to 55 stand for the gaits) does
until the base-rate boundary of R28 of every running cell with a channel on the gait, and an IMG_COMMIT (cell 56) until C
(R366, R386). DEDUCED, log entry 82. -/
def State.stillIssued (s : State) (w : Issued) : Bool :=
  w.cell < 48 || w.cell == 56 || s.chans.any (fun c =>
    c.2.gait == w.cell - 48 && s.cellRuns (c.1 / 8) && decide (s.now < gridUp (s.cell (c.1 / 8)).origin basePeriod (w.t + 1)))

/-- An IMG_COMMIT or a verification in progress ends with the command that asked for it (R371); a CONFIG_COMMIT that shares
its boundary goes on. DEDUCED, log entry 83. -/
def State.dropCommit (s : State) : State :=
  let m := s.image
  { s with
    image := { m with
      verifying := false
      commitBy := none
      store := false
      commitAt := if m.commitBy.isSome && m.byAction.isNone then none else m.commitAt }
    cmds := { s.cmds with issued := s.cmds.issued.filter (fun w => w.cell != 56) } }

/-- Whether a fence's CFG step is met: every write completed before it began has taken effect (R366). -/
def State.cfgMet (s : State) (f : Fence) : Bool := s.cmds.issued.all (fun w => f.mark ≤ w.seq || !s.stillIssued w)

/-- Whether port n is up: its lane carries frames (R443). -/
def State.up (s : State) (n : Nat) : Bool := (s.lane n).st == .up && s.pd 13

/-- Whether a lane runs Ethernet (R461). -/
def State.ethMode (s : State) (n : Nat) : Bool := s.cfgF 0x03 n 0 1 2 != 0

/-- Whether a collector is up on port n of this hub: hellos of kind 3, or Ethernet mode with COLLECTOR set (R486). -/
def State.collectorUp (s : State) (n : Nat) : Bool :=
  s.up n && ((s.link n).kind == 3 || (s.ethMode n && s.cfgB 0x03 n 0x100 1))

/-- The database entry of a hub ID that is not held (R479). -/
def State.dbOfId (s : State) (id : Nat) : Option DbEntry :=
  ((s.net.db.map Prod.snd).find? (fun e => e.lsa.id == id && !e.held && !e.lsa.claim))

/-- Whether the partner of this hub is lost (R541). -/
def State.partnerLost (s : State) : Bool := s.pair.st == 2

/-- The partner's hub ID of PAIR_CFG, 1023 for none (R548). -/
def State.partner (s : State) : Nat := s.cfgF 0x01 0 0x510 0 10

/-- The port an open stream route leaves by: its own port when this hub is its border hub, else the port towards the border
hub; none while the route is closed, while the hub has no ID, or, in an UPLINK pair, while the border hub is the lost
partner (R481, R483, R486, R547). -/
def State.routeVia (s : State) (r : Nat) : Option Nat :=
  let v := s.cfgN 0x01 0 (0x41F + r)
  let b := fld v 0 10
  let p := fld v 12 3
  if !bit v 15 || 6 ≤ p || s.net.id.isNone then none
  else if s.cfgB 0x01 0 0x510 13 && s.partnerLost && b == s.partner then none
  else if some b = s.net.id then if s.collectorUp p then some p else none
  else if ((s.dbOfId b).map (fun e => bit e.lsa.coll.toNat p)).getD false then (tfind s.net.routes b).map Prod.fst
  else none

/-- The failover route that FAILOVER names for route r of an UPLINK pair, 0 for none (R547). -/
def State.failover (s : State) (r : Nat) : Nat :=
  if s.cfgB 0x01 0 0x510 13 then s.cfgF 0x01 0 0x511 (4 * (r - 1)) 4 else 0

/-- The route that a block of route r leaves on now: r itself while it is open, else its failover route (R547). -/
def State.usedRoute (s : State) (r : Nat) : Nat :=
  if (s.routeVia r).isSome then r
  else if 1 ≤ s.failover r ∧ s.failover r ≤ 8 ∧ (s.routeVia (s.failover r)).isSome then s.failover r
  else r

/-- The port that a block of route r leaves by now. -/
def State.routePort (s : State) (r : Nat) : Option Nat := s.routeVia (s.usedRoute r)

/-- The routes, 1 to 8, that a block still has to be sent on. -/
def Blk.left (b : Blk) : List Nat := (bitsOf 8 b.routes.toNat).map (· + 1)

/-- Whether everything produced before a fence point has left every port that is up (R367). -/
def State.outMet (s : State) (f : Fence) : Bool :=
  (List.range 6).all (fun p =>
    !s.up p || isFenced s.faults.ports p ||
      (s.hold.blks.all (fun b => f.mark < b.epoch || b.left.all (fun r => s.routePort r != some p))
        && (s.cmds.linkReplies ++ s.cmds.linkWait).all (fun r => f.mark < r.epoch || s.replyPort r.h != some p)
        && s.hold.nets.all (fun m => f.mark < m.epoch || !m.ports.getLsbD p)))

end Sys2Proof.Machine
end

