-- ==== Sys2Proof/Machine/Packet.lean ====
section
/-! DEFINITION. WCP packets: the opcodes, the header, the checks in their order and the bytes of a reply (R342 to R349,
R355, R356). -/

namespace Sys2Proof.Machine

/-- An opcode: whether version 0x01 may carry it, whether the ROM answers it in recovery mode, and whether a parameter
list has the length it requires. -/
structure OpInfo where
  v1 : Bool
  rom : Bool
  len : Nat → List Byte → Bool

/-- An opcode with parameters of exactly n bytes. -/
def opFix (v1 rom : Bool) (n : Nat) : Option OpInfo := some ⟨v1, rom, fun k _ => k == n⟩

/-- An opcode with a list of n items of w bytes after a head of h bytes, n being at byte off of the head.
DEDUCED, log entry 89. -/
def opList (v1 : Bool) (h off w : Nat) : Option OpInfo := some ⟨v1, false, fun k p => h ≤ k && k == h + w * fbe p off 2⟩

/-- The opcodes of R349, R380, R430, R491, R522, R559, R592 and R630. DEDUCED, log entry 89. -/
def opInfo (o : Nat) : Option OpInfo :=
  match o with
  | 0x0100 => opFix true true 0
  | 0x0101 => opFix true true 0
  | 0x0102 => opFix false false 4
  | 0x0103 => opFix false false 4
  | 0x0200 => opList true 4 0 4
  | 0x0201 => opList true 4 0 8
  | 0x0202 => opFix true false 8
  | 0x0203 => opList true 8 4 4
  | 0x0210 => opFix false false 8
  | 0x0211 => some ⟨false, false, fun k _ => 8 ≤ k && k ≤ 4076 && k % 4 == 0⟩
  | 0x0212 => opFix false false 0
  | 0x0213 => opFix false false 4
  | 0x0214 => opFix false false 0
  | 0x0301 => opFix false false 4
  | 0x0400 => opFix false false 4
  | 0x0401 => opFix false false 4
  | 0x0500 => opFix false false 28
  | 0x0501 => opFix false false 4
  | 0x0502 => opFix false false 0
  | 0x0600 => opFix false false 4
  | 0x0601 => opFix false false 4
  | 0x0700 => opFix false false 4
  | 0x0800 => opFix true false 4
  | 0x0801 => opFix false false 66
  | 0x0802 => opFix false false 66
  | 0x0803 => opFix false false 10
  | 0x0804 => opFix false false 0
  | 0x0900 => opFix false false 4
  | 0x0901 => opFix false false 2
  | 0x0902 => opFix false false 2
  | 0x0A00 => opFix false false 4
  | 0x0A01 => opFix false false 20
  | 0x0A02 => opFix false false 4
  | 0x0A03 => opFix false false 4
  | 0x0B00 => some ⟨false, false, fun _ _ => true⟩
  | 0x0B01 => some ⟨false, false, fun _ _ => true⟩
  | 0x0B02 => some ⟨false, false, fun _ _ => true⟩
  | 0x0B03 => some ⟨false, false, fun _ _ => true⟩
  | 0x0C00 => opFix false true 0
  | 0x0C01 => opFix false true 8
  | 0x0C02 => some ⟨false, true, fun k _ => 8 ≤ k && k ≤ 4076 && k % 4 == 0⟩
  | 0x0C03 => opFix false true 4
  | 0x0C04 => opFix false false 4
  | 0x0C05 => opFix false true 4
  | 0x0D00 => opFix false true 4
  | 0x0D01 => opFix false true 0
  | _ => none

/-- The header fields of a packet that came in on a port (R343). -/
def hdrOf (port : Nat) (b : List Byte) : Hdr :=
  let flags := fbe b 1 1
  ⟨port, fld (fbe b 10 2) 0 10, fbe b 4 2, fbe b 12 2, fld flags 0 3, bit flags 6, fbe b 0 1⟩

/-- The SAFETY flag of a packet. -/
def pktSafety (b : List Byte) : Bool := bit (fbe b 1 1) 5

/-- The packet in a byte string, once its checks have passed. -/
def pktOf (port arrival : Nat) (b : List Byte) : Pkt :=
  ⟨hdrOf port b, fbe b 2 2, bit (fbe b 1 1) 7, fld (fbe b 8 2) 0 10, arrival, (b.drop 16).dropLast.dropLast.dropLast.dropLast⟩

/-- Whether the trailer matches (R346). -/
def crcGood (b : List Byte) : Bool := fbe b (b.length - 4) 4 == crc32c (b.take (b.length - 4))

/-- Whether a packet from a link with source 1023 gets past the checks before that of its source, which refuses it; in recovery mode
the hub has no ID, and a collector's packet carries 1023 (R345, R356, R597). DEDUCED, log entry 93. -/
def State.linkHost (s : State) (port : Nat) (b : List Byte) : Bool :=
  let h := hdrOf port b
  port != 6 && h.source == 1023 && s.boot.phase != .recovery && (h.ver == 2 || h.ver == 1) && b.length == 20 + fbe b 6 2

/-- Checks 2 to 5 of R356: the status of the first that fails, or OK. -/
def State.packetStatus (s : State) (port : Nat) (b : List Byte) : Nat :=
  let h := hdrOf port b
  let rom := s.boot.phase == .recovery
  let op := fbe b 2 2
  let dest := fld (fbe b 8 2) 0 10
  if h.ver ≠ 2 ∧ (h.ver ≠ 1 ∨ rom) then stBadVersion
  else if b.length ≠ 20 + fbe b 6 2 then stBadLength
  else if port = 6 ∧ (h.source ≠ 1023 ∨ (dest ≠ 1023 ∧ some dest ≠ s.net.id)) then stDenied
  else if pktSafety b ≠ (op >>> 8 == 0x0B) then stDenied
  else match opInfo op with
    | none => stBadOpcode
    | some i =>
      if (h.ver = 1 ∧ !i.v1) ∨ (rom ∧ !i.rom) then stBadOpcode
      else if i.len (fbe b 6 2) (slice b 16 (fbe b 6 2)) then stOk
      else stBadLength

/-- The commands in progress, safety packets aside (R360). -/
def State.inProgress (s : State) : List Pkt := (s.cmds.waiting ++ s.cmds.started).filter (fun p => !p.safety)

/-- The link sources with commands in progress (R360). -/
def State.linkSources (s : State) : List Nat :=
  ((s.inProgress.filter (fun p => p.h.port != 6)).map (fun p => p.h.source)).dedup

/-- Whether one more command of a source fits the limits of R360. -/
def State.roomFor (s : State) (h : Hdr) : Bool :=
  (s.inProgress.filter (fun p => p.h.source == h.source)).length < 32 && s.inProgress.length < 256
    && (h.port == 6 || s.linkSources.contains h.source || s.linkSources.length < 64)

/-- Takes a packet whose trailer is good: it is checked, answered at the first failure, and otherwise waits; a safety
packet goes straight to the safety unit (R356, R360, R370). DEDUCED, log entry 29. -/
def State.takePacket (s : State) (port : Nat) (b : List Byte) : State :=
  let h := hdrOf port b
  let s := s.bump (pid 0x01 0 0x300) 0 31
  let st := s.packetStatus port b
  if st ≠ stOk then s.answer h (fbe b 2 2) st 0 [] (pktSafety b)
  else
    let p := pktOf port s.cmds.arrivals b
    if p.safety then { s with cmds := { s.cmds with started := s.cmds.started ++ [p], arrivals := s.cmds.arrivals + 1 } }
    else if s.roomFor h then
      { s with cmds := { s.cmds with waiting := s.cmds.waiting ++ [p], arrivals := s.cmds.arrivals + 1 } }
    else s.answer h p.opcode stRetry 0 []

/-- The bytes of a reply packet (R347). DEDUCED, log entry 93. -/
def State.replyBytesOf (s : State) (r : Reply) : List Byte :=
  let body := be 1 r.h.ver ++ be 1 ((if r.safety then 0x20 else 0) + r.h.prio % 8) ++ be 2 (r.opcode ||| 0x8000)
    ++ be 2 r.h.tag ++ be 2 (4 + r.data.length) ++ be 2 r.h.source ++ be 2 s.hubId ++ be 2 r.h.stream ++ be 2 0
    ++ be 2 r.status ++ be 2 r.detail ++ r.data
  body ++ be 4 (crc32c body)

/-- Whether a packet is a FENCE with CMD or CFG, which holds back later packets of its source (R365). -/
def Pkt.holds (p : Pkt) : Bool := p.opcode == 0x0102 && (p.params.headD 0 &&& 0xB) != 0

/-- Whether a fence of this source that holds it back arrived before: one taken and not yet open, or one in its first steps (R364,
R365). -/
def State.heldByFence (s : State) (p : Pkt) : Bool :=
  s.cmds.fences.any (fun f => f.h.source == p.h.source && f.arrival < p.arrival && f.step != .out)
    || (s.cmds.waiting ++ s.cmds.started).any (fun q => q.holds && q.h.source == p.h.source && q.arrival < p.arrival
      && !s.cmds.fences.any (fun f => f.arrival == q.arrival))

/-- Whether a waiting packet's order is met (R363, R365). -/
def State.ready (s : State) (p : Pkt) : Bool :=
  (!p.ord || s.earlierDone p.h.source p.arrival) && !s.heldByFence p

/-- The packet to start next: highest PRIO, then earliest arrival (R364). -/
def pickPkt : List Pkt → Option Pkt
  | [] => none
  | p :: r =>
    match pickPkt r with
    | none => some p
    | some q => if p.h.prio < q.h.prio ∨ (p.h.prio = q.h.prio ∧ q.arrival < p.arrival) then some q else some p

end Sys2Proof.Machine
end

