-- ==== Sys2Proof/Decode.lean ====
section
/-! DEFINITION. What spells a command. The table gives no row any bits, because a block's commands are not fetched; a host-port
transaction is spelt by its bytes, and the row that a packet stands for by its opcode and parameters. -/

namespace Sys2Proof

open Sys2Proof.Machine

/-- The command that a word of nbits bits spells: no row of the table has bits, so none. -/
def decodeTableWord (_nbits _w : Nat) : Option Instr := none

/-- The host-port transaction whose bytes from the host are mosi: the code in byte 0 and the data length in bytes 2 and 3 of the
header, and as many bytes clocked as follow it; ecc is what the memory checks of its reads find (R334, R335). None when not even
the header was clocked. -/
def hostRow (t : Nat) (mosi : List Byte) (ecc : List Ecc) : Option Instr :=
  let data := mosi.drop 4
  if mosi.length < 4 then none
  else some (match fbe mosi 0 1 with
    | 1 => .write t (fbe mosi 2 2) data
    | 2 => .readReply t data.length ecc
    | 3 => .readEvents t data.length ecc
    | 4 => .status t
    | c => .badTransactionCode t c)

/-- The big-endian words of n parameters from byte off on. -/
def paramWords (b : List Byte) (off n : Nat) : List Word := (List.range n).map (fun k => BitVec.ofNat 32 (fbe b (off + 4 * k) 4))

/-- A mask of n bytes at byte off, whose byte i, bit j stands for element 8 i + j (R225). -/
def paramMask (b : List Byte) (off n : Nat) : Nat := fle b off n

/-- The selection of an archive job (R430). -/
def paramSel (b : List Byte) : ArcSel :=
  ⟨BitVec.ofNat 384 (paramMask b 0 48), fbe b 48 8, fbe b 56 8, BitVec.ofNat 16 (paramMask b 64 2)⟩

/-- Whether a row of the table is what a packet stands for, with its operands from the parameters (R349, R380, R430, R491, R522, R559,
R592, R630). The instant is the row's own, and so are the memory checks of an EVENT_READ and the check code that UPD_BOOT meets. -/
def packetRow (p : Pkt) (i : Instr) : Prop :=
  let b := p.params
  match i with
  | .nop _ h => h = p.h ∧ p.opcode = 0x0100
  | .identify _ h => h = p.h ∧ p.opcode = 0x0101
  | .fence _ h scope => h = p.h ∧ p.opcode = 0x0102 ∧ scope = fbe b 0 1
  | .pdCtl _ h domain action lanes => h = p.h ∧ p.opcode = 0x0103 ∧ domain = fbe b 0 1 ∧ action = fbe b 1 1 ∧ lanes = fbe b 2 1
  | .readParam _ h ids => h = p.h ∧ p.opcode = 0x0200 ∧ ids = paramWords b 4 (fbe b 0 2)
  | .writeParam _ h items => h = p.h ∧ p.opcode = 0x0201 ∧
      items = (List.range (fbe b 0 2)).map (fun k => (BitVec.ofNat 32 (fbe b (4 + 8 * k) 4), BitVec.ofNat 32 (fbe b (8 + 8 * k) 4)))
  | .readRange _ h first count => h = p.h ∧ p.opcode = 0x0202 ∧ first = BitVec.ofNat 32 (fbe b 0 4) ∧ count = fbe b 4 2
  | .writeRange _ h first vals => h = p.h ∧ p.opcode = 0x0203 ∧ first = BitVec.ofNat 32 (fbe b 0 4) ∧
      vals = paramWords b 8 (fbe b 4 2)
  | .imgOpen _ h gen len => h = p.h ∧ p.opcode = 0x0210 ∧ gen = fbe b 0 4 ∧ len = fbe b 4 4
  | .imgWrite _ h off data => h = p.h ∧ p.opcode = 0x0211 ∧ off = fbe b 0 4 ∧ data = paramWords b 4 (b.length / 4 - 1)
  | .imgVerify _ h => h = p.h ∧ p.opcode = 0x0212
  | .imgCommit _ h w => h = p.h ∧ p.opcode = 0x0213 ∧ w = bit (fbe b 0 1) 0
  | .imgAbort _ h => h = p.h ∧ p.opcode = 0x0214
  | .vwRead _ h src => h = p.h ∧ p.opcode = 0x0301 ∧ src = fbe b 0 2
  | .recordManual _ h profile net => h = p.h ∧ p.opcode = 0x0400 ∧ profile = fld (fbe b 0 1) 0 4 ∧ net = bit (fbe b 0 1) 4
  | .recordClose _ h slot => h = p.h ∧ p.opcode = 0x0401 ∧ slot = fbe b 0 1
  | .schedule _ h typ target args => h = p.h ∧ p.opcode = 0x0500 ∧ typ = BitVec.ofNat 32 (fbe b 0 4) ∧ target = fbe b 4 8 ∧
      args = paramWords b 12 4
  | .cancel _ h entry => h = p.h ∧ p.opcode = 0x0501 ∧ entry = fbe b 0 1
  | .timeRead _ h => h = p.h ∧ p.opcode = 0x0502
  | .calRequest _ h kind target => h = p.h ∧ p.opcode = 0x0600 ∧ kind = fld (fbe b 0 4) 0 4 ∧ target = fld (fbe b 0 4) 4 12
  | .selfTest _ h test target => h = p.h ∧ p.opcode = 0x0601 ∧ test = fld (fbe b 0 4) 0 4 ∧ target = fld (fbe b 0 4) 4 12
  | .osApply _ h m => h = p.h ∧ p.opcode = 0x0700 ∧ m = fbe b 0 2
  | .eventRead _ h count _ => h = p.h ∧ p.opcode = 0x0800 ∧ count = fbe b 0 2
  | .arcExport _ h sel => h = p.h ∧ p.opcode = 0x0801 ∧ sel = paramSel b
  | .arcCompress _ h sel => h = p.h ∧ p.opcode = 0x0802 ∧ sel = paramSel b
  | .arcRead _ h off len => h = p.h ∧ p.opcode = 0x0803 ∧ off = fbe b 0 8 ∧ len = fbe b 8 2
  | .jobCancel _ h => h = p.h ∧ p.opcode = 0x0804
  | .streamAttach _ h detach => h = p.h ∧ p.opcode = 0x0900 ∧ detach = bit (fbe b 0 1) 0
  | .topologyRead _ h id => h = p.h ∧ p.opcode = 0x0901 ∧ id = fbe b 0 2
  | .idRelease _ h id => h = p.h ∧ p.opcode = 0x0902 ∧ id = fbe b 0 2
  | .locketRead _ h prev => h = p.h ∧ p.opcode = 0x0A00 ∧ prev = bit (fbe b 0 1) 0
  | .faultClear _ h m locket faultN => h = p.h ∧ p.opcode = 0x0A01 ∧ m = BitVec.ofNat 128 (paramMask b 0 16) ∧
      locket = bit (fbe b 16 1) 0 ∧ faultN = bit (fbe b 16 1) 1
  | .unfence _ h kind num => h = p.h ∧ p.opcode = 0x0A02 ∧ kind = fbe b 0 1 ∧ num = fbe b 1 1
  | .fenceUnit _ h kind num => h = p.h ∧ p.opcode = 0x0A03 ∧ kind = fbe b 0 1 ∧ num = fbe b 1 1
  | .nslCycle _ h bytes => h = p.h ∧ p.opcode = 0x0B00 ∧ bytes = b
  | .confirmSignet _ h bytes => h = p.h ∧ p.opcode = 0x0B01 ∧ bytes = b
  | .safetyReset _ h bytes => h = p.h ∧ p.opcode = 0x0B02 ∧ bytes = b
  | .nslOpen _ h bytes => h = p.h ∧ p.opcode = 0x0B03 ∧ bytes = b
  | .updStatus _ h => h = p.h ∧ p.opcode = 0x0C00
  | .updOpen _ h slot len => h = p.h ∧ p.opcode = 0x0C01 ∧ slot = fbe b 0 1 ∧ len = fbe b 4 4
  | .updWrite _ h off bytes => h = p.h ∧ p.opcode = 0x0C02 ∧ off = fbe b 0 4 ∧ bytes = b.drop 4
  | .updVerify _ h slot => h = p.h ∧ p.opcode = 0x0C03 ∧ slot = fbe b 0 1
  | .updConfirm _ h r => h = p.h ∧ p.opcode = 0x0C04 ∧ r = bit (fbe b 0 1) 0
  | .updBoot _ h slot _ => h = p.h ∧ p.opcode = 0x0C05 ∧ slot = fbe b 0 1
  | .tapUnlock _ h magic => h = p.h ∧ p.opcode = 0x0D00 ∧ magic = BitVec.ofNat 32 (fbe b 0 4)
  | .bistReport _ h => h = p.h ∧ p.opcode = 0x0D01
  | _ => False

end Sys2Proof
end

