-- ==== Sys2Proof/Machine/Dsp.lean ====
section
/-! DEFINITION. The arithmetic of a filter chain: the fixed CIC, compensator and cascade, the FIR, the phase delay, the
high-pass stage, the references of the lock-in mixer, the splice of a charge-amplifier reset and the fit of a seam (R88, R95,
R108, R124 to R129, R136, R143, R144, R159 to R163, R631). Values are exact rationals in U, 2^-38 of 4.096 V. -/

namespace Sys2Proof.Machine

/-- x rounded to the nearest integer, halves to even. -/
def rneQ (x : Rat) : Int := rne x.num x.den

/-- The sum of c[k] × x[k], x being newest first (R136). -/
def dot : List Int → List Rat → Rat
  | c :: cs, x :: xs => c * x + dot cs xs
  | _, _ => 0

/-- The impulse response xs followed by a moving sum of n terms with unit weights. -/
def movingSum (n : Nat) (xs : List Int) : List Int :=
  (List.range (xs.length + n - 1)).map (fun k => ((xs.drop (k + 1 - n)).take (min (k + 1) n)).sum)

/-- The CIC5 ÷256: the fifth power of a moving sum of 256 terms (R631). -/
def cicTaps : List Int := movingSum 256 (movingSum 256 (movingSum 256 (movingSum 256 (movingSum 256 [1]))))

/-- The sinc⁴ of 512 modulator periods of the coarse path (R147). -/
def sincTaps : List Int := movingSum 512 (movingSum 512 (movingSum 512 (movingSum 512 [1])))

/-- A coefficient word as an integer, 2^30 standing for 1.0 (R136). -/
def coefInt (w : Word) : Int := signed 32 w.toNat

/-- n coefficients of instance 0x0FF from an item on (R631). DESIGN CHOICE, log entry 10. -/
def fixedCoefs (first n : Nat) : List Int := (List.range n).map (fun k => coefInt (Config.fixedCoef (first + k)))

/-- The droop compensator (R631). -/
def cmpCoefs : List Int := fixedCoefs 0x100 Config.cmpTaps.val

/-- The taps of a stage of the cascade with factor f (R125). -/
def stageTaps (f : Nat) (last : Bool) : Nat := if f = 5 then (if last then 239 else 59) else (if last then 95 else 31)

/-- The coefficients of a stage at decimation factor d; those of the final stage are interpolated for the fine phase delay (R125,
R144, R631).
DESIGN CHOICE, log entry 10. -/
def stageCoefs (d f : Nat) (last : Bool) (fine : Nat) : List Int :=
  if last && fine != 0 then (List.range (stageTaps f last)).map (fun k => coefInt (Config.fineCoef (f == 5) d fine k))
  else fixedCoefs (if f = 5 then (if last then 0x300 else 0x200) else (if last then 0x280 else 0x240)) (stageTaps f last)

/-- A sum with coefficients in the format of R136. -/
def firSum (c : List Int) (x : List Rat) : Rat := dot c x / 2 ^ 30

/-- A decimator takes the modulator-rate values of one base-rate period, oldest first, and gives the value of the base-rate
stream (R124, stages 3 and 4). -/
def Path.feed (p : Path) (xs : List Rat) : Path × Rat :=
  let mods := (xs.reverse ++ p.mods).take 1276
  let cic := (dot cicTaps mods / 2 ^ 40 :: p.cic).take Config.cmpTaps.val
  ({ mods := mods, cic := cic }, firSum cmpCoefs cic)

/-- One value through the stages left of the cascade, f being the product of the factors before them and i the number of the
period less the group delay: the delay lines, and the cascade's output when there is one (R125, R128). A stage gives an
output in the periods from which an output at a represented instant follows. DEDUCED, log entry 116. -/
def cascade (d fine : Nat) (i : Int) : Nat → List Nat → List (List Rat) → Rat → List (List Rat) × Option Rat
  | _, [], _, x => ([], some x)
  | f, p :: r, ls, x =>
    let line := (x :: ls.headD []).take (stageTaps p r.isEmpty)
    if i % ((f * p : Nat) : Int) = 0 then
      let t := cascade d fine i (f * p) r ls.tail (firSum (stageCoefs d p r.isEmpty fine) line)
      (line :: t.1, t.2)
    else (line :: ls.tail, none)

/-- What acts on the sample that represents instant t (R139). -/
def Chain.filtAt (c : Chain) (t : Nat) : Filt := ((c.past.find? (fun p => t ≤ p.1)).map Prod.snd).getD c.filt

/-- x rounded as the FIR's output is (R124). DESIGN CHOICE, log entry 117. -/
def firRound (x : Rat) : Rat := (rneQ (x * 2 ^ Config.firBits) : Rat) / 2 ^ Config.firBits

/-- One value through the high-pass stage: its first input loads the stage (R159, R160). -/
def hpStep (f : Filt) (st : Option (Rat × Rat)) (x : Rat) : Option (Rat × Rat) × Rat :=
  if f.hpOn then
    let z := st.getD (x, 0)
    let y := (f.hpA : Rat) / 2 ^ 32 * (z.2 + x - z.1)
    (some (x, y), y)
  else (none, x)

/-- A chain takes one value of the base-rate stream: the sample that emerges, if any, with its represented instant (R124 to
R129, R136, R144, R159 to R163). Before its first sample a chain restarted gives none and the high-pass stage takes none.
DEDUCED, log entry 116. -/
def Chain.take (stages : List Nat) (c : Chain) (x : Rat) : Chain × Option (Nat × Rat) :=
  let n := c.idx + 1
  let r := cascade c.d c.fine ((n : Int) - c.gd) 1 stages c.lines x
  let c := { c with idx := n, lines := r.1 }
  match r.2 with
  | none => (c, none)
  | some y =>
    let coarse := (y :: c.coarse).take 256
    let fir := (coarse.getD c.delay 0 :: c.fir).take 512
    let c := { c with coarse := coarse, fir := fir }
    let t := c.org + (n - c.gd) * basePeriod
    if n ≤ c.gd ∨ t ≤ c.start then (c, none)
    else
      let f := c.filtAt t
      let h := hpStep f c.hp (firRound (firSum f.coefs fir))
      ({ c with hp := h.1, past := c.past.filter (fun p => t < p.1) }, some (t, if c.lock then 2 * h.2 else h.2))

/-- A chain takes values one after another, oldest first. -/
def Chain.takeAll (stages : List Nat) : Chain → List Rat → Chain × List (Nat × Rat)
  | c, [] => (c, [])
  | c, x :: r =>
    let a := c.take stages x
    let b := Chain.takeAll stages a.1 r
    (b.1, a.2.toList ++ b.2)

/-- The n values between a and b on the line from one to the other (R95). -/
def between (a b : Rat) (n : Nat) : List Rat := (List.range n).map (fun m => a + (b - a) * (m + 1 : Nat) / (n + 1 : Nat))

/-- The base-rate stream at the cascade: a value in a recovery is held back, and the first one after it is preceded by the
interpolation of those held back (R95, R129). -/
def Chain.pass (stages : List Nat) (hold : Bool) (c : Chain) (x : Rat) : Chain × List (Nat × Rat) :=
  if hold then ({ c with held := c.held + 1 }, [])
  else Chain.takeAll stages { c with held := 0, last := x } (between c.last x c.held ++ [x])

/-! Sines and exponentials in fixed point with 200 fractional bits. -/

/-- One. -/
def fixOne : Int := 2 ^ 200

/-- π. -/
def fixPi : Int := 5048344754617993871973410141242436836214643421488662971535368

/-- The product of two fixed-point numbers. -/
def fixMul (a b : Int) : Int := a * b / fixOne

/-- exp(−x) for x from 0 to 1, by its series. -/
def fixExpNeg (x : Int) : Int :=
  (List.range 60).foldr (fun n a => fixOne - fixMul x a / ((n : Int) + 1)) fixOne

/-- sin x for x from 0 to π/2, by its series. -/
def fixSin (x : Int) : Int :=
  let q := fixMul x x
  fixMul x ((List.range 30).foldr (fun n a => fixOne - fixMul q a / ((2 * (n : Int) + 2) * (2 * n + 3))) fixOne)

/-- The coefficient A of the high-pass stage for CORNER in mHz and decimation factor d (R159). -/
def hpCoef (corner d : Nat) : Nat :=
  (rneQ (((fixExpNeg (2 * fixPi * (corner * d : Nat) / 16000000) * 2 ^ 32 : Int) : Rat) / (fixOne : Rat))).toNat

/-- The unit sine at a phase in 2^-32 turn (R162). DESIGN CHOICE, log entry 117. -/
def unitSine (ph : Nat) : Rat :=
  let p := ph % 2 ^ 32
  let q := p % 2 ^ 31
  let z := if q ≤ 2 ^ 30 then q else 2 ^ 31 - q
  let v := (rneQ (((fixSin (fixPi * (z : Nat) / 2 ^ 31) * 2 ^ Config.sineBits.val : Int) : Rat) / (fixOne : Rat)) : Rat)
    / 2 ^ Config.sineBits.val
  if p < 2 ^ 31 then v else -v

/-- The unit square at a phase in 2^-32 turn: 1 over the first half turn (R162). DESIGN CHOICE, log entry 117. -/
def unitSquare (ph : Nat) : Rat := if ph % 2 ^ 32 < 2 ^ 31 then 1 else -1

/-- A unit waveform (R57, R162, R318). -/
def unitWave (square : Bool) (ph : Nat) : Rat := if square then unitSquare ph else unitSine ph

/-- A phase accumulator at instant t that stood at ph at instant t0 and moves by freq each modulator period (R58, R318).
DEDUCED, log entry 116. -/
def phaseAt (ph t0 freq t : Nat) : Nat := (ph + freq * ((t - t0) * 256 / basePeriod)) % 2 ^ 32

/-- The values of one base-rate period times a reference, whose accumulator stands at ph at its beginning (R162). -/
def mixWith (square : Bool) (ph freq : Nat) (xs : List Rat) : List Rat :=
  xs.zipIdx.map (fun x => x.1 * unitWave square (ph + freq * (x.2 + 1)))

/-! The splice of charge-amplifier resets (R88, R90). -/

/-- An accumulator with 64 bits. -/
def clamp64 (x : Int) : Int := clampI (-(2 ^ 63)) (2 ^ 63 - 1) x

/-- The accumulator after a reset. -/
def Splice.after (r : Splice) (acc : Int) : Int := clamp64 (acc + r.pre - r.post)

/-- One modulator sample taken at an instant in 1/256 ns, the accumulator standing at acc before the resets given: inside a
reset window the line between the levels, elsewhere the sample and the accumulator (R88). DEDUCED, log entry 116. -/
def spliceOne : List Splice → Int → Nat → Rat → Rat
  | [], acc, _, x => x + (acc : Rat) / 8
  | r :: rs, acc, t, x =>
    if t ≤ 256 * r.t then x + (acc : Rat) / 8
    else if t ≤ 256 * r.t + r.n * basePeriod then
      let a := ((r.pre + acc : Int) : Rat) / 8
      let b := ((r.post + r.after acc : Int) : Rat) / 8
      a + (b - a) * (cdiv (t - 256 * r.t) basePeriod : Nat) / (r.n + 1 : Nat)
    else spliceOne rs (r.after acc) t x

/-- The modulator samples of the base-rate period that ends at u, oldest first, spliced. -/
def spliceAll (rs : List Splice) (acc : Int) (u : Nat) (xs : List Int) : List Rat :=
  let t0 := 256 * (u - basePeriod)
  xs.zipIdx.map (fun x => spliceOne rs acc (t0 + (x.2 + 1) * basePeriod) (x.1 : Rat))

/-- Whether a reset's window lies, wholly or in part, in the base-rate period that ends at u. -/
def Splice.inPeriod (u : Nat) (r : Splice) : Bool :=
  decide (r.t < u) && decide (256 * (u - basePeriod) < 256 * r.t + r.n * basePeriod)

/-- Whether a reset's window has passed by instant u. -/
def Splice.past (u : Nat) (r : Splice) : Bool := decide (256 * r.t + r.n * basePeriod ≤ 256 * u)

/-- The accumulator after the resets whose windows have passed by instant u, and the resets left. -/
def foldSplices (u : Nat) : List Splice → Int → List Splice × Int
  | [], acc => ([], acc)
  | r :: rs, acc => if r.past u then foldSplices u rs (r.after acc) else (r :: rs, acc)

/-! Seam matching (R108). -/

/-- The sum of f over a list. -/
def sumQ (f : Rat × Rat → Rat) (l : List (Rat × Rat)) : Rat := (l.map f).sum

/-- Full scale in U at a gain code (R77). -/
def fullScale (g : Nat) : Rat := 2 ^ (38 - g)

/-- Offset and gain of the least-squares fit of the incoming values (second) to the outgoing ones (first); where these vary by
less than 10^-4 of the full scale fs in rms, or the incoming ones do not vary, the offset alone for the gain given (R108).
DEDUCED, log entry 116. -/
def seamFit (fs ratio : Rat) (l : List (Rat × Rat)) : Rat × Rat :=
  let n : Rat := (l.length : Nat)
  let sy := sumQ Prod.fst l
  let sx := sumQ Prod.snd l
  let vy := n * sumQ (fun p => p.1 * p.1) l - sy * sy
  let vx := n * sumQ (fun p => p.2 * p.2) l - sx * sx
  let cxy := n * sumQ (fun p => p.1 * p.2) l - sx * sy
  let g := if vy * 10 ^ 8 < n * n * fs * fs ∨ vx = 0 then ratio else cxy / vx
  (if l.isEmpty then 0 else (sy - g * sx) / n, g)

/-- A value of a converter corrected with offset and gain. -/
def corrected (c : Rat × Rat) (x : Rat) : Rat := c.1 + c.2 * x

end Sys2Proof.Machine
end

