-- ==== Sys2Proof/Machine/HostPort.lean ====
section
/-! DEFINITION. The host port: its transactions, the status word and the pins (R333 to R340). -/

namespace Sys2Proof.Machine

/-- Whether the host reply queue can take what a WRITE may bring (R336, R409). -/
def State.rxReady (s : State) : Bool :=
  (s.pd 2 || s.boot.phase == .recovery) &&
    8192 + s.replyBytes + 128 * (s.cmds.deferred.filter (fun d => d.h.port == 6)).length ≤ 65536

/-- The status word (R336). -/
def State.statusWord (s : State) : List Byte :=
  let b0 := b2n s.rxReady <<< 7 ||| s.cmds.last <<< 5 ||| b2n (!s.coreUp) <<< 4
    ||| b2n (!s.cmds.replies.isEmpty) <<< 3 ||| b2n (s.evCount != 0) <<< 2
  be 1 b0 ++ be 2 ((s.cmds.replies.head?.map Reply.size).getD 0) ++ be 1 (min 255 s.evCount)

/-- HP_IRQ_N: low while a reply or an event waits; high-impedance while PD15 is off (R333, R340). -/
def State.irqN (s : State) : Option Bool :=
  if s.pd 15 then some (s.cmds.replies.isEmpty && s.evCount == 0) else none

/-- FC0_N: low while watermark 0 is live (R333, R407). -/
def State.fc0N (s : State) : Option Bool := if s.pd 15 then some (!s.evq.wm0.live) else none

/-- FC1_N: low while watermark 1 is live (R333, R407). -/
def State.fc1N (s : State) : Option Bool := if s.pd 15 then some (!s.evq.wm1.live) else none

/-- The bytes the transaction shifts out. -/
def State.shift (s : State) (b : List Byte) : State := { s with cmds := { s.cmds with miso := b } }

/-- The outcome of the WRITE. -/
def State.setLast (s : State) (n : Nat) : State := { s with cmds := { s.cmds with last := n } }

/-- A WRITE of the given bytes under the stated length (R337): BAD_FRAME, RETRY, or the packet is passed on.
DEDUCED, log entry 90. -/
def State.hostWrite (s : State) (stated : Nat) (b : List Byte) : State :=
  if b.length ≠ stated ∨ stated < 20 ∨ 4096 < stated then (s.setLast 2).bump (pid 0x01 0 0x302) 16 15
  else if !s.rxReady || (!s.coreUp && !pktSafety b) || s.closed.contains (.hostCore, 0) then
    ({ s with closed := s.closed.erase (.hostCore, 0) }.setLast 1).bump (pid 0x01 0 0x302) 0 15
  else
    let s := s.setLast 0
    if crcGood b then s.takePacket 6 b
    else (s.bump (pid 0x01 0 0x300) 0 31).answer (hdrOf 6 b) (fbe b 2 2) stBadCrc 0 [] (pktSafety b)

/-- A transaction on a port that is powered; a port without PD15 is silent (R31, R333). DESIGN CHOICE, log entry 3. -/
def whenPort (f : State → State) (s : State) : State := whenB (s.pd 15) f s

/-- READ_REPLY with n data bytes clocked (R338, R409); a head reply with an uncorrectable error is discarded, and zeros
are shifted out in its place (R417). DEDUCED, log entry 38. -/
def State.hostReadReply (s : State) (n : Nat) (ecc : List Ecc) : State :=
  match s.cmds.replies with
  | [] =>
    let s := { s with cmds := { s.cmds with replyUnderrun := true } }
    s.shift (s.statusWord ++ zeros n)
  | r :: rest =>
    let s := s.holdRead ecc
    if ecc.contains .bad then
      let w := s.statusWord
      ({ s with cmds := { s.cmds with replies := rest } }.updWm).shift (w ++ zeros n)
    else
    let b := s.replyBytesOf r
    let out := s.statusWord ++ b.take n ++ zeros (n - b.length)
    let s := if b.length ≤ n then { s with cmds := { s.cmds with replies := rest } }.updWm else s
    s.shift out

/-- Reads k whole entries: the state, their bytes and how many events were found bad (R339, R405, R406). -/
def State.readEntries : Nat → State → List Ecc → State × List Byte × Nat
  | 0, s, _ => (s, [], 0)
  | k + 1, s, e =>
    let a := s.readEntry e
    let r := State.readEntries k a.1 a.2.2.2
    (r.1, be 8 a.2.1.toNat ++ r.2.1, a.2.2.1 + r.2.2)

end Sys2Proof.Machine
end

