-- ==== Sys2Proof/Machine/TimeBase.lean ====
section
/-! DEFINITION. Bridle's slews, grid, bounds and segments (R246, R249, R252, R254), and the loss of a PTP master. -/

namespace Sys2Proof.Machine

/-- Bridle changed. -/
def State.modTime (s : State) (f : Time → Time) : State := { s with time := f s.time }

/-- The time functions of port p. -/
def State.ptime (s : State) (p : Nat) : PortTime := tget {} s.time.ports p

/-- The time functions of port p changed. -/
def State.modPtime (s : State) (p : Nat) (f : PortTime → PortTime) : State :=
  s.modTime (fun m => { m with ports := tmod {} m.ports p f })

/-- LOCK_NS in ps (R256). -/
def State.lockPs (s : State) : Nat := s.cfgF 0x02 0 1 8 8 * 1000

/-- LOCK_N (R256). -/
def State.lockN (s : State) : Nat := s.cfgF 0x02 0 1 16 8

/-- Whether LEAD_EN is set (R256). -/
def State.leadEn (s : State) : Bool := s.cfgB 0x02 0 0 8

/-! Slews (R252): a phase part and the part that moves the base-rate grid (R246), in ns, the first removed first. -/

/-- The phase part left now. -/
def State.slewLeft (s : State) : Int := shrink s.time.slewRem (s.time.slewDone s.now)

/-- The grid part left now. -/
def State.gridLeft (s : State) : Int := s.time.gridLeft s.now

/-- SLEW_REM (R256). -/
def State.slewTotal (s : State) : Int := s.slewLeft + s.gridLeft

/-- Brings the two parts up to date; on says whether slewing goes on from now. DEDUCED, log entry 18. -/
def State.slewFold (s : State) (on : Bool) : State :=
  let a := s.slewLeft
  let b := s.gridLeft
  let r := s.now
  s.modTime (fun m => { m with
    slewRem := a
    gridAdj := m.gridMoved r
    gridPast := match m.slewFrom with
      | some f => if m.gridRem = b then m.gridPast else ⟨r, f, m.gridAdj, m.slewRem, m.gridRem⟩ :: m.gridPast
      | none => m.gridPast
    gridRem := b
    slewFrom := if on && (a != 0 || b != 0) then some r else none })

/-- Slews to remove a phase error of e ps (R252). DEDUCED, log entry 18. -/
def State.slewTo (s : State) (e : Int) : State :=
  let s := s.slewFold true
  let r := s.now
  s.modTime (fun m => { m with slewRem := -(rne e 1000), slewFrom := some r })

/-- The base-rate grid of every cell moves by x ns. -/
def State.moveGrid (s : State) (x : Int) : State :=
  forAll (List.range 48) (fun s c => s.modCell c (fun d =>
    let o := (d.origin : Int) + x
    { d with origin := (if o < 0 then o + basePeriod else o).toNat })) s

/-- The move that brings the next boundary of the base-rate grid onto the nearest NTIME multiple of 62,500 ns (R246). -/
def State.gridError (s : State) : Int :=
  let r := ntimeAt s.time (gridUp (s.cell 0).origin basePeriod s.now) % basePeriod
  if r ≤ 31250 then -(r : Int) else (basePeriod : Int) - r

/-- Aligns the grid: one step when no outputs have started since power-up, else a slew, in which NTIME moves against the
Bridle clock (R246, R251, R252). DEDUCED, log entry 18. -/
def State.alignGrid (s : State) : State :=
  let x := s.gridError
  if s.time.outputs || s.time.gridDone then
    let r := s.now
    (s.slewFold true).modTime (fun m => { m with
      gridRem := x
      gridDone := true
      slewFrom := if x = 0 then m.slewFrom else some r })
  else (s.moveGrid x).modTime (fun m => { m with gridDone := true })

/-! The bound (R249, R254). -/

/-- Y0 and D of the oscillator, with REFCLK present or lost (R254). -/
def State.oscTerms (s : State) : Nat × Nat :=
  if !s.time.refclkOk then (1000000, 10000000000)
  else match s.cfgF 0x02 0 0 0 2 with
    | 0 => (10000, 10000000)
    | 1 => (200, 1157)
    | _ => (s.cfgN 0x02 0 2, s.cfgN 0x02 0 3)

/-- E0 + Y0 t + D t² / 2 of the segment in force at RUNTIME r, in ns, rounded up (R254). -/
def segBound (m : Time) (r : Nat) : Nat :=
  let t := r - m.segStart
  m.segE0 + cdiv (m.segY0 * t * (2 * 10 ^ 15) + m.segD * t * t) (2 * 10 ^ 27)

/-- Whether the hub is a lead slaved to a PTP master (R263). -/
def State.ptpSlaved (s : State) : Bool := s.time.ptpClass.isSome && !s.time.ptpLost

/-- BOUND (R249). -/
def State.bound (s : State) : Nat :=
  let m := s.time
  let e := m.phaseErr.natAbs
  let v :=
    match m.state with
    | .unlocked => 0xFFFFFFFF
    | .locked =>
      if m.isLead then
        if s.ptpSlaved then cdiv (e + 200) 1000 else if m.ptpLost then segBound m s.now else 0
      else m.parentBound + cdiv (e + 200) 1000
    | .holdover =>
      if m.parent = 7 then segBound m s.now
      else m.parentBound + s.slewTotal.natAbs + cdiv e 1000
  min 0xFFFFFFFF v

/-- HOLD_LIMIT in ns. DEDUCED, log entry 21. -/
def State.holdLimit (s : State) : Nat := s.cfgN 0x02 0 4 * 1000

/-- The hub's own clock class (R263). -/
def State.ownClass (s : State) : Nat :=
  if !s.leadEn then 255
  else match s.time.ptpClass with
    | some c =>
      if c ≠ 6 ∧ c ≠ 7 then 248
      else if !s.time.ptpLost then 6
      else if s.bound ≤ s.holdLimit then 7 else 187
    | none => 248

/-- A holdover segment starts now with bound e0; event 0x0C announces it (R243, R254). -/
def State.startSegment (s : State) (e0 : Nat) : State :=
  let o := s.oscTerms
  let r := s.now
  let n := s.ntime
  let s := s.modTime (fun m => { m with segStart := r, segE0 := e0, segY0 := o.1, segD := o.2, holdEntry := n })
  s.raise 0x0C [(n, 64), (e0, 32), (o.1, 32), (o.2, 64)]

/-- Event TIME_STATE (R401). DEDUCED, log entry 19. -/
def State.evTime (s : State) (kind : Nat) : State :=
  s.raise 0x0A [(kind, 2), (s.time.lead, 10), (s.time.island, 8), (s.time.hops, 8)]

/-- Whether the hub is in holdover without a parent. -/
def State.alone (s : State) : Bool := s.time.state == .holdover && s.time.parent == 7

/-! The PTP master (R258, R263). -/

/-- Whether PTP runs on a port: P0 or P1 in Ethernet mode with PTP set (R258, R260). -/
def State.ptpOn (s : State) (p : Nat) : Bool := decide (p < 2) && s.up p && s.ethMode p && s.cfgB 0x02 (0x010 + p) 0 2

/-- Whether a PTP message belongs to a port: its domain and its transport are the port's (R258, R260). -/
def State.ptpMine (s : State) (p : Nat) (m : PtpMsg) : Bool :=
  s.ptpOn p && m.domain == s.cfgF 0x02 (0x010 + p) 0 8 8 && m.udp == s.cfgB 0x02 (0x010 + p) 0 5

/-- A data set in the order in which IEEE 1588 compares data sets (R263). PRESUMED, log entry 119. -/
def dataSet (m : PtpMsg) : List Nat := [m.prio1, m.cls, m.accuracy, m.variance, m.prio2, m.ident, m.steps, m.sender]

/-- Whether data set a is better than b: lower at the first place where they differ. -/
def betterSet : List Nat → List Nat → Bool
  | a :: as, b :: bs => decide (a < b) || (a == b && betterSet as bs)
  | _, _ => false

/-- Whether the master of an Announce is better than another's. -/
def betterMaster (a b : PtpMsg) : Bool := betterSet (dataSet a) (dataSet b)

/-- The hub's port identity on port p: its clockIdentity and the port number from 1 (R258). PRESUMED, log entry 119. -/
def State.portIdent (s : State) (p : Nat) : Nat := s.ident.eui <<< 16 ||| (p + 1)

/-- The hub's own data set as a PTP master without a PTP source (R263). PRESUMED, log entry 119. -/
def State.ownSet (s : State) : PtpMsg :=
  { kind := 11, seq := 0, origin := 0, rx := 0, cls := if s.leadEn then 248 else 255, prio1 := s.cfgF 0x02 0 0 16 8
    ident := s.ident.eui, sender := s.portIdent 0 }

/-- The port whose master the hub follows: the better data set of the two, if better than its own; a port with MASTER_ONLY has
none (R258, R260, R263). -/
def State.ptpSlave (s : State) : Option Nat :=
  let m := fun p => (s.ptime p).master.filter (fun a =>
    s.ptpMine p a && !s.cfgB 0x02 (0x010 + p) 0 6 && betterMaster a s.ownSet)
  match m 0, m 1 with
  | none, none => none
  | some _, none => some 0
  | none, some _ => some 1
  | some a, some b => if betterMaster b a then some 1 else some 0

/-- The hub's PTP master is gone: its clock class follows its bound from now on (R263). -/
def State.ptpLose (s : State) : State :=
  if s.ptpSlaved then
    let e0 := s.bound
    let o := s.oscTerms
    let r := s.now
    s.modTime (fun m => { m with ptpLost := true, segStart := r, segE0 := e0, segY0 := o.1, segD := o.2 })
  else s

/-- The best master has been chosen again: its class counts, and where there is none the hub has lost its own (R263). -/
def State.ptpCheck (s : State) : State :=
  match s.ptpSlave with
  | some p => s.modTime (fun x => { x with ptpClass := ((tget {} x.ports p).master.map PtpMsg.cls).orElse (fun _ => x.ptpClass) })
  | none => s.ptpLose

/-- A port no longer carries a PTP master (R263). -/
def State.ptpDown (s : State) (p : Nat) : State :=
  if (s.ptime p).master.isNone then s else (s.modPtime p (fun q => { q with master := none })).ptpCheck

/-- The PTP functions of a port are configured anew: a master that no longer belongs to it is forgotten (R260, R263). -/
def State.ptpReconf (s : State) (p : Nat) : State :=
  match (s.ptime p).master with
  | none => s
  | some m => if s.ptpMine p m && !s.cfgB 0x02 (0x010 + p) 0 6 then s else s.ptpDown p

end Sys2Proof.Machine
end

