-- ==== Sys2Proof/Machine/NetOps.lean ====
section
/-! DEFINITION. Frames and flooding: the output queues of the ports, the hub's own link-state advertisement, broadcasts,
and a lane's departure from UP (R443, R462, R468, R469, R478, R479, R485). -/

namespace Sys2Proof.Machine

/-- Puts a frame into a port's output queue; o is the port it came from, 6 for this hub (R471). -/
def State.enqueue (s : State) (port o : Nat) (f : Frame) : State :=
  s.modLink port (fun l => { l with out := l.out ++ [(o, f)] })

/-- Transmit latency, receive latency and resolution of a lane by its generation, in 0.01 ps (R257). -/
def stampTerms (gen : Nat) : Nat × Nat × Nat :=
  match gen with
  | 2 => (291000, 970000, 152)
  | 3 => (256000, 632000, 118)
  | _ => (320000, 1280000, 1250)

/-- x in 0.01 ps brought down to a resolution q, in units of 2^-16 ns. -/
def fineUnits (q x : Nat) : Nat := x / q * q * 65536 / 100000

/-- The stamp of a frame whose start leaves port p now, at the ball, in 2^-16 ns units, to the resolution of its mode (R257).
DESIGN CHOICE, log entry 17. -/
def State.txStamp (s : State) (p : Nat) : Nat :=
  let c := stampTerms (s.lane p).gen
  fineUnits c.2.2 (s.stamp * 100000 + Config.finePhase p s.now + c.1)

/-- The stamp of a frame whose start arrives at port p now, at the ball, in 2^-16 ns units, to the resolution of its mode (R257).
DESIGN CHOICE, log entry 17. -/
def State.rxStamp (s : State) (p : Nat) : Nat :=
  let c := stampTerms (s.lane p).gen
  fineUnits c.2.2 (s.stamp * 100000 + Config.finePhase p s.now - c.2.1)

/-- A stamp in 2^-16 ns units as a TIME frame carries it (R489). -/
def stampField (x : Nat) : List Byte := be 8 (x / 65536) ++ be 2 (x % 65536)

/-- A SYNC or DELAY_REQ takes its transmit stamp as it is sent, as t1 or t3; other frames are unchanged (R489). -/
def State.stampFrame (s : State) (port : Nat) (f : Frame) : State × Frame :=
  let x := s.txStamp port
  let kind := (f.payload.headD 0).toNat
  let put := fun (k : Nat) => { f with payload := f.payload.take k ++ stampField x ++ f.payload.drop (k + 10) }
  if f.typ = 3 ∧ kind = 1 then (s.modPtime port (fun q => { q with t1 := x }), put 8)
  else if f.typ = 3 ∧ kind = 2 then (s.modPtime port (fun q => { q with t3 := x }), put 28)
  else (s, f)

/-- The bytes of a Borku frame: its header, its payload and the CRC-32C over both (R11, R468). -/
def frameBytes (f : Frame) : List Byte :=
  let b := be 1 f.typ ++ be 1 (f.cls ||| b2n f.bcast <<< 3) ++ be 2 f.payload.length ++ be 2 f.dest ++ be 2 f.src ++ be 2 f.seq
    ++ be 2 f.hops ++ f.payload
  b ++ be 4 (crc32c b)

/-- COLL_MAC of a port (R493). -/
def State.collMac (s : State) (p : Nat) : Nat := s.cfgN 0x03 p 0x102 + s.cfgN 0x03 p 0x103 * 2 ^ 32

/-- The bytes of a frame on the line of a port: in Ethernet mode it is the payload of an Ethernet frame, padded to the least
length and closed by the FCS of IEEE 802.3 (R468, R488). -/
def State.lineBytes (s : State) (p : Nat) (f : Frame) : List Byte :=
  if s.ethMode p then
    let b := frameBytes f
    let e := be 6 (s.collMac p) ++ be 6 (Config.portMac p).toNat ++ be 2 (s.cfgF 0x03 p 0x101 0 16) ++ b ++ zeros (46 - b.length)
    e ++ le 4 (crc32 e)
  else frameBytes f

/-- A frame is put on the line of a port, with its bytes (R468). -/
def State.onLine (s : State) (p : Nat) (f : Frame) : State :=
  let b := s.lineBytes p f
  s.modLink p (fun l => { l with wire := some f, line := b })

/-- The frame in progress on a port is ended with an invalid CRC, so that its receiver discards it (R417). -/
def State.spoilLine (s : State) (p : Nat) : State :=
  s.modLink p (fun l => { l with
    wire := l.wire.map (fun f => { f with crcOk := false })
    line := l.line.take (l.line.length - 1) ++ (l.line.drop (l.line.length - 1)).map (~~~ ·) })

/-- A frame leaves on the line of a port and is counted (R468, R489, R495). -/
def State.putLine (s : State) (port : Nat) (f : Frame) : State :=
  let r := s.stampFrame port f
  (r.1.onLine port r.2).bump (pid 0x03 port 0x115) 0 31

/-- Puts a link-local frame into a port's output queue (R469). -/
def State.sendLocal (s : State) (port typ : Nat) (payload : List Byte) : State :=
  s.enqueue port 6 ⟨typ, 7, false, 1023, s.hubId, 0, 0, payload, true⟩

/-- Whether a port carries frames: UP and not fenced. -/
def State.carries (s : State) (p : Nat) : Bool := s.up p && !isFenced s.faults.ports p

/-- Floods a frame on every port that carries frames but the arrival port; the ROM in recovery mode forwards nothing (R485, R597). -/
def State.flood (s : State) (o : Nat) (f : Frame) : State :=
  forAll ((List.range 6).filter (fun p => s.carries p && p != o && s.boot.phase != .recovery)) (fun s p => s.enqueue p o f) s

/-- Broadcasts a frame of this hub, numbered from 1; one that a collector sent does not go back to its port o (R469, R485).
DEDUCED, log entry 45. -/
def State.broadcast (s : State) (o typ cls : Nat) (payload : List Byte) : State :=
  let q := (s.net.bcastSeq + 1) % 2 ^ 16
  let s := { s with net := { s.net with bcastSeq := q } }
  s.flood o ⟨typ, cls, true, 1023, s.hubId, q, 0, payload, true⟩

/-- Broadcasts a network trigger message of this hub: it waits in the block region for each port that carries frames; without space
there it is lost (R221, R411, R412, R485). DESIGN CHOICE, log entry 125. -/
def State.netBroadcast (s : State) (payload : List Byte) : State :=
  let q := (s.net.bcastSeq + 1) % 2 ^ 16
  let s := { s with net := { s.net with bcastSeq := q } }
  let f : Frame := ⟨0x22, 5, true, 1023, s.hubId, q, 0, payload, true⟩
  let m : NetMsg := { frame := f, ports := BitVec.ofNat 6 (maskOf ((List.range 6).filter s.carries)), epoch := s.cmds.epoch }
  if s.admitOther m.size && m.ports != 0 then ({ s with hold := { s.hold with nets := s.hold.nets ++ [m] } }).updWm else s

/-- The window of a source: the highest sequence seen and those seen up to 63 behind it (R485). -/
def seqIsNew (w : Option (Nat × List Nat)) (q : Nat) : Bool :=
  match w with
  | none => true
  | some (top, l) =>
    let d := sdiff 16 q top
    decide (0 < d) || (decide (-64 < d) && !l.contains q)

/-- The window after sequence q has been seen. -/
def seqTake (w : Option (Nat × List Nat)) (q : Nat) : Nat × List Nat :=
  match w with
  | none => (q, [q])
  | some (top, l) =>
    let t := if 0 < sdiff 16 q top then q else top
    (t, (q :: l).filter (fun x => decide (-64 < sdiff 16 x t)))

/-- Whether broadcast q of a hub is new here; it is then counted as seen (R485). A hub's own broadcast is not new. -/
def State.bcastNew (s : State) (src q : Nat) : Bool := some src != s.net.id && seqIsNew (tfind s.net.seen src) q

/-- Broadcast q of a hub has been seen. -/
def State.bcastSeen (s : State) (src q : Nat) : State :=
  { s with net := { s.net with seen := tput s.net.seen src (seqTake (tfind s.net.seen src) q) } }

/-- Counts a discarded frame of a port (R469, R495). -/
def State.rxDrop (s : State) (port : Nat) : State := s.bump (pid 0x03 port 0x114) 0 31

/-! Link-state advertisements (R478, R479). -/

/-- The database changed: the routes are computed again (R483). -/
def State.netDirty (s : State) : State := { s with net := { s.net with dirty := true } }

/-- A neighbour entry of six (R478). -/
def nbrBytes (n : Option (Nat × Nat × Nat)) : List Byte :=
  match n with
  | some (id, port, gen) => be 2 id ++ be 1 (port ||| gen <<< 4) ++ zeros 1
  | none => zeros 4

/-- The 44 bytes of an LSA (R478). -/
def lsaBytes (m : Lsa) : List Byte :=
  be 8 m.eui ++ be 2 m.id ++ be 2 m.boot ++ be 4 m.seq ++ be 1 (m.nbrs.length ||| b2n m.claim <<< 4) ++ be 1 m.coll.toNat
    ++ zeros 2 ++ ((List.range 6).map (fun k => nbrBytes m.nbrs[k]?)).flatten

/-- Whether a link is part of the graph: a Borku port that carries frames, ROUTE_EN set, not REFUSED, with a hub that has
an ID at its other end (R483). DEDUCED, log entry 33. -/
def State.inGraph (s : State) (p : Nat) : Bool :=
  let l := s.link p
  s.carries p && !s.ethMode p && s.cfgB 0x03 p 0x100 0 && !l.refused && (l.kind == 1 || l.kind == 2) && l.id.isSome

/-- The neighbours of this hub as (hub ID, port, generation). -/
def State.neighbours (s : State) : List (Nat × Nat × Nat) :=
  ((List.range 6).filter s.inGraph).map (fun p => ((s.link p).id.getD 1023, p, (s.lane p).gen))

/-- The LSA of this hub (R478): while it claims, the candidate with CLAIM. -/
def State.ownLsa (s : State) : Lsa :=
  { eui := s.ident.eui
    id := if s.net.idState = 1 then s.net.candidate else s.net.id.getD 1023
    boot := s.boot.bootNum
    seq := s.net.lsaSeq
    claim := s.net.idState == 1
    coll := BitVec.ofNat 6 (maskOf ((List.range 6).filter s.collectorUp))
    nbrs := s.neighbours }

/-- The frame of an LSA (R469). -/
def State.lsaFrame (s : State) (m : Lsa) : Frame := ⟨4, 7, false, 1023, s.hubId, 0, 0, lsaBytes m, true⟩

/-- Floods this hub's LSA after a change or as its refresh (R479). -/
def State.floodOwn (s : State) : State :=
  let now := s.now
  let s := { s with net := { s.net with lsaSeq := (s.net.lsaSeq + 1) % 2 ^ 32, lsaAt := now } }
  (s.flood 6 (s.lsaFrame s.ownLsa)).netDirty

/-! A lane's checker and state (R443, R459, R460). -/

/-- The line rate of a generation in 10^-4 bits per ns (R436). -/
def lineRate (gen : Nat) : Nat := if gen = 1 then 12500 else if gen = 2 then 103125 else 265625

/-- The checker's counts stop at their maximum. -/
def chkMax : Nat := 2 ^ 48 - 1

/-- The bits a locked checker has counted since it locked: the line rate is in 10^-4 bits per ns (R436, R459). -/
def State.chkBits (s : State) (p : Nat) : Nat :=
  let l := s.lane p
  if l.chkLock && l.bits != chkMax then
    min (chkMax - l.bits) ((s.now - l.chkSince) * lineRate (s.cfgF 0x03 p 3 4 2) / 10000)
  else 0

/-- A checker's counts become bits and errs; one event is raised when BITS reaches its maximum, or ERRS alone does (R14, R460). -/
def State.chkPut (s : State) (p bits errs : Nat) : State :=
  let l := s.lane p
  let s := s.modLane p (fun l => { l with bits := bits, errs := errs })
  if bits = chkMax ∧ l.bits ≠ chkMax then s.raise 0x10 (satFields (pid 0x03 p 0x018) 0)
  else if errs = chkMax ∧ l.errs ≠ chkMax then s.raise 0x10 (satFields (pid 0x03 p 0x01A) 0)
  else s

/-- The locked period of a checker ends: its bits are added, and of them a free number of errors (R459, R460).
DESIGN CHOICE, log entry 36. -/
def State.chkFold (s : State) (p : Nat) : State :=
  let l := s.lane p
  if l.chkLock then
    let n := s.chkBits p
    let f := s.takeFree
    let errs := if l.bits = chkMax then l.errs else min chkMax (l.errs + f.1.toNat % (n + 1))
    (f.2.chkPut p (l.bits + n) errs).modLane p (fun l => { l with chkLock := false })
  else s

/-- Changes a lane; a departure from UP is counted, cuts off the block on its way (R413), takes away a PTP master (R263),
and changes the hub's LSA (R443, R462, R479). -/
def State.setLane (s : State) (p : Nat) (f : Lane → Lane) : State :=
  let was : Bool := (s.lane p).st == .up
  let s := s.modLane p f
  if was && (s.lane p).st != .up then
    ((({ s with hold := { s.hold with sending := tdel s.hold.sending p } }).bump (pid 0x03 p 0x010) 16 16).ptpDown p).floodOwn
  else s

/-- A lane that stops with its transmitter squelched: its counts, excluded generations and PLL stay (R443, R446, R460). -/
def laneStop (st : LaneState) (l : Lane) : Lane :=
  { st := st, excl := l.excl, pll := l.pll, bits := l.bits, errs := l.errs }

end Sys2Proof.Machine
end

