-- ==== Sys2Proof/Machine/Chain.lean ====
section
/-! DEFINITION. The numbers of a chain (cascade, banks, group delay, settling count) and the shared operations on a
channel's front end: SETTLE windows, the coarse path, gain changes, the spare modulator and the return from a fence
(R93 to R117, R125 to R157). -/

namespace Sys2Proof.Machine

/-- How often p divides n (at most k times), and what is left. -/
def divOut (p : Nat) : Nat → Nat → Nat × Nat
  | 0, n => (0, n)
  | k + 1, n => if n % p = 0 then ((divOut p k (n / p)).1 + 1, (divOut p k (n / p)).2) else (0, n)

/-- The exponents a, b of d = 2^a × 5^b (R131). -/
def twoFive (d : Nat) : Option (Nat × Nat) :=
  let a := divOut 2 14 d
  let b := divOut 5 7 a.2
  if b.2 = 1 then some (a.1, b.1) else none

/-- Whether d may be a decimation factor (R131). -/
def decimOk (d : Nat) : Bool := 2 ≤ d && d ≤ 16000 && (twoFive d).isSome

/-- The stages of the cascade, in order (R125). -/
def stagesOf (d : Nat) : List Nat :=
  match twoFive d with
  | some (a, b) => List.replicate b 5 ++ List.replicate a 2
  | none => []

/-- The delays of the stages added to g, p being the product of the factors applied (R126). -/
def stageDelay : List Nat → Nat → Nat → Nat
  | [], _, g => g
  | [x], p, g => g + (if x = 5 then 119 else 47) * p
  | x :: y :: r, p, g => stageDelay (y :: r) (p * x) (g + (if x = 5 then 29 else 15) * p)

/-- G_dec × D: the group delay of the decimator in base-rate samples (R126). -/
def gBase (d : Nat) : Nat := stageDelay (stagesOf d) 1 12

/-- N, PHASE (minimum) and DCDELAY of a built-in set (R135). -/
def builtinHdr (b : Nat) : Nat × Bool × Nat :=
  match b with
  | 1 => (33, false, 0)
  | 2 => (129, false, 0)
  | 3 => (33, true, 3)
  | 4 => (129, true, 9)
  | 5 => (1, false, 0)
  | _ => (0, false, 0)

/-- N, PHASE and DCDELAY that a bank header stands for (R130, R137). -/
def bankOf (hdr : Nat) : Nat × Bool × Nat :=
  if fld hdr 28 3 ≠ 0 then builtinHdr (fld hdr 28 3) else (fld hdr 0 10, bit hdr 12, fld hdr 16 8)

/-- Twice the alignment delay A of a bank, in output samples (R129). -/
def alignHalf (b : Nat × Bool × Nat) : Nat := if b.2.1 then 2 * b.2.2 else b.1 - 1

/-- L of a bank at decimation factor d, 0 for an empty bank (R130, R133). -/
def lOf (d : Nat) (b : Nat × Bool × Nat) : Nat := if b.1 = 0 then 0 else b.1 + cdiv (gBase d) d

/-- The group delay in base-rate samples (R129, R130). -/
def gdelayOf (d : Nat) (b : Nat × Bool × Nat) : Nat := gBase d + d * alignHalf b / 2

/-- The bank A (false) or B (true) of gait g as configured. -/
def State.bank (s : State) (g : Nat) (b : Bool) : Nat × Bool × Nat := bankOf (s.cfgN 0x12 g (0x010 + b2n b))

/-- The bank in use of gait g. -/
def State.activeBank (s : State) (g : Nat) : Nat × Bool × Nat := s.bank g (s.gait g).active

/-- The coefficients of bank B (true) or A of gait g; UNITY is the one coefficient 1.0 (R135 to R137).
DESIGN CHOICE, log entry 10. -/
def State.bankCoefs (s : State) (g : Nat) (b : Bool) : List Int :=
  let code := fld (s.cfgN 0x12 g (0x010 + b2n b)) 28 3
  if code = 5 then [2 ^ 30]
  else (List.range (s.bank g b).1).map (fun k =>
    if code ≠ 0 then coefInt (Config.builtinCoef code k)
    else signed 32 (s.cfgN 0x12 g ((if b then 0x400 else 0x200) + k)))

/-- The settings of gait g at work on decimation factor d: the active bank and the high-pass stage (R130, R159). -/
def State.filtOf (s : State) (g d : Nat) : Filt :=
  { coefs := s.bankCoefs g (s.gait g).active
    hpOn := s.cfgB 0x12 g 1 0
    hpA := hpCoef (s.cfgF 0x12 g 1 8 16) d }

/-- A chain of a channel with cleared histories that takes inputs from instant e on (R128, R151, R156).
DEDUCED, log entry 116. -/
def State.freshChain (s : State) (ch e : Nat) : Chain :=
  let c := s.chan ch
  let o := (s.cell (ch / 8)).origin
  { start := e
    org := o
    part := c.chain.part
    d := c.d
    gd := gdelayOf c.d (s.activeBank c.gait)
    idx := (e - o) / basePeriod
    lock := s.cfgB 0x12 c.gait 2 0
    delay := s.effF 0x11 ch 0x051 0 8
    fine := s.effF 0x11 ch 0x051 16 16
    ref := s.effAt (pid 0x11 ch 0x052)
    square := s.cfgB 0x12 c.gait 2 1
    filt := s.filtOf c.gait c.d }

/-- The settling count S of a channel, with the phase delay in force (R155). -/
def State.settleOf (s : State) (ch : Nat) : Nat :=
  let c := s.chan ch
  lOf (s.decim ch) (s.activeBank c.gait) + c.chain.delay + b2n (c.chain.fine != 0)

/-- The time of one output sample of a channel in ns. DESIGN CHOICE, log entry 16. -/
def State.outPeriod (s : State) (ch : Nat) : Nat := s.decim ch * basePeriod

/-- The cell of a channel (R5). -/
def cellOfCh (ch : Nat) : Nat := ch / 8

/-- A slot waiting for delivery is produced and its instant is e or later. -/
def Pend.from (e : Nat) (p : Pend) : Bool := p.cause == 0 && decide (e ≤ p.t)

/-- The slots waiting for delivery, those from instant e on with a flag more. -/
def flagFrom (e : Nat) (fl : BitVec 8) (l : List Pend) : List Pend :=
  l.map (fun p => if p.from e then { p with fl := p.fl ||| fl } else p)

/-- Opens or restarts a channel's SETTLE window with the first slot at instant e or later (R156, R157). -/
def State.openSettle (s : State) (ch e : Nat) : State :=
  let n := s.settleOf ch
  s.modChan ch (fun c => { c with
    settle := n - (c.pend.filter (Pend.from e)).length, settleLen := n, settleFrom := e
    pend := flagFrom e flSettle c.pend })

/-- Gives a running SETTLE window the present S, counted from its start (R157). -/
def State.resizeSettle (s : State) (ch : Nat) : State :=
  let n := s.settleOf ch
  s.modChan ch (fun c =>
    if c.settle = 0 then c else { c with settle := n - (c.settleLen - c.settle), settleLen := n })

/-- The first slot from instant e on carries CALSWAP: one waiting for delivery, or else the next (R109, R111, R292). -/
def State.calswapAt (s : State) (ch e : Nat) : State :=
  s.modChan ch (fun c =>
    match c.pend.find? (Pend.from e) with
    | some p => { c with pend := c.pend.map (fun q => if q.seq = p.seq then { q with fl := q.fl ||| flCalswap } else q) }
    | none => { c with calswapFrom := some e })

/-- Slots not yet delivered that wait for a value and whose instants satisfy f are not produced, for a cause (R111, R154,
R520). -/
def State.dropPend (s : State) (ch cause : Nat) (f : Nat → Bool) : State :=
  s.modChan ch (fun c => { c with
    pend := c.pend.map (fun p => if p.cause = 0 ∧ p.v = none ∧ f p.t = true then { p with cause := cause } else p) })

/-- The condition slots that watch a channel (R198). -/
def State.slotsOn (s : State) (ch : Nat) : List Nat :=
  (List.range 512).filter (fun n => n % 48 == ch / 8 && s.cfgF 0x13 n 0 4 3 == ch % 8
    && 1 ≤ s.cfgF 0x13 n 0 0 3 && s.cfgF 0x13 n 0 0 3 ≤ 4)

/-- A slot after a restart of its channel's coarse path (R202). -/
def slotRestart (kind : Nat) (c : Slot) : Slot :=
  if c.st = .off then c
  else if 3 ≤ kind then { c with st := .warming, hold := 0, hist := [], seen := 0, xPrev := none }
  else { c with st := if c.st = .counting then .armed else c.st, hold := 0 }

/-- Restarts a channel's coarse path at boundary e: values from e + 1 ms on are valid, and the slots on the channel
restart (R149, R202). -/
def State.coarseRestart (s : State) (ch e : Nat) : State :=
  let s := s.modChan ch (fun c => { c with coarseFrom := e + 1000000 })
  forAll (s.slotsOn ch) (fun s n => s.modSlot n (slotRestart (s.cfgF 0x13 n 0 0 3))) s

/-- A change of what a channel measures, at boundary e, that keeps its splice accumulator: its SETTLE window opens and the
coarse path restarts (R49, R149, R156). -/
def State.sourceShift (s : State) (ch e : Nat) : State := (s.openSettle ch e).coarseRestart ch e

/-- A change of a channel's inputs at boundary e: routing, SRC or CF; the splice accumulator clears (R49, R90, R149, R156). -/
def State.inputChange (s : State) (ch e : Nat) : State :=
  (s.modChan ch (fun c => { c with splice := 0, resets := [], spliceOld := 0, resetsOld := [] })).sourceShift ch e

/-- A restart of a channel at instant e that clears its histories, but for the splice accumulator: the samples up to e are completed by the chain as it
stood, while those of a chain still completing from before an earlier such restart are not produced (R151 to R154, R156).
DESIGN CHOICE, log entry 118. -/
def State.clearingRestart (s : State) (ch e : Nat) : State :=
  let c := s.chan ch
  let s := if c.old.isSome then s.dropPend ch 2 (fun t => t ≤ c.chain.start) else s
  let new := { s.freshChain ch e with part := e }
  let s := s.modChan ch (fun c => { c with
    old := some c.chain, chain := new, fast := [], resetsOld := c.resets, spliceOld := c.splice })
  (s.openSettle ch (e + 1)).coarseRestart ch e

/-- What waits for a channel's slots after an instant; a restart also for its coarse values (R152, R175). -/
def State.mark (s : State) (ch t : Nat) (m : Mark) : State :=
  s.modChan ch (fun c => { c with
    marks := c.marks ++ [(t, m)]
    cmarks := match m with
      | .restart resync => c.cmarks ++ [(t, resync)]
      | .split => c.cmarks })

/-- Whether a channel produces: its cell runs and it is not fenced on its own (R93, R115, R308). -/
def State.chanRuns (s : State) (ch : Nat) : Bool :=
  s.cellRuns (cellOfCh ch) && (s.chan ch).conv != .none_ && !(s.chan ch).pausedFrom.any (fun e => e ≤ s.now)

/-- Whether SP carries a channel. -/
def carried (c : Conv) : Bool := c == .spTemp || c == .spPerm

/-- The configured GAIN of a channel. -/
def State.cfgGain (s : State) (ch : Nat) : Nat := s.cfgF 0x11 ch 0x040 0 3

/-- The gain code of a sample of instant t: up to the instant of a change still the one before it (R94, R95, R175).
DEDUCED, log entry 116. -/
def Chan.gainOn (c : Chan) (t : Nat) : Nat := if t ≤ c.gainAt then c.gainWas else c.gain

/-- The gain code that GAIN_NOW shows now (R92, R94). -/
def Chan.gainNow (c : Chan) (now : Nat) : Nat := if now < c.gainAt then c.gainWas else c.gain

/-- The base-rate periods that a recovery from instant e replaces, joined with those of a recovery in progress (R95, R96). -/
def Chan.recoverFrom (c : Chan) (e : Nat) : Nat × Nat :=
  (if e < c.recover.2 then c.recover.1 else e, e + 24 * basePeriod)

/-- Whether a change of converter concerns a channel. -/
def Seam.names (ch : Nat) : Seam → Bool
  | .none_ => false
  | .seamless _ c _ _ => c == ch
  | .takeover _ c _ _ => c == ch
  | .handback _ c _ _ => c == ch

/-- A channel's gain code becomes g for the samples after instant e; the intervals of the fine path split there (R93, R94,
R175). DEDUCED, log entries 96, 116. -/
def State.setGain (s : State) (ch g e : Nat) : State :=
  let s := s.bump (pid 0x11 ch 0x043) 16 16
  (s.mark ch e .split).modChan ch (fun c => { c with
    gain := g, gainWas := c.gainOn e, gainAt := e, quietFrom := e
    pend := c.pend.map (fun p => if e < p.t then { p with gain := g } else p) })

/-- A flagged change to gain code g at boundary e on the converter that carries a channel: a recovery of 24 base-rate samples
opens and the coarse path restarts; SP follows while it converts the channel's inputs (R95, R96, R98, R149).
DEDUCED, log entry 96. -/
def State.gainChange (s : State) (ch g e : Nat) : State :=
  let cell := cellOfCh ch
  let s := if carried (s.chan ch).conv || (s.cell cell).seam.names ch then s.modCell cell (fun c => { c with spGain := g }) else s
  ((s.setGain ch g e).modChan ch (fun c => { c with
    recEnd := some (e + 24 * basePeriod)
    recover := c.recoverFrom e
    autoRec := false
    rangeTail := some ((c.rangeTail.map Prod.fst).getD e, e + 24 * basePeriod) })).coarseRestart ch e

/-- SP stops and is idle. -/
def State.spIdle (s : State) (cell : Nat) : State :=
  s.modCell cell (fun c => { c with spUse := if c.spUse = .failed then .failed else .idle, spCh := 0, seam := .none_ })

/-- Counts a seamless request carried out flagged (R98, R117). -/
def State.countFallback (s : State) (cell : Nat) : State := s.bump (pid 0x10 cell 0x122) 0 16

/-- The path of SP (sp) or of a channel's own modulator begins afresh, and the samples for the match with it (R97, R107,
R108). -/
def State.convStart (s : State) (ch : Nat) (sp : Bool) : State :=
  (s.modCell (cellOfCh ch) (fun c => { c with overlap := [] })).modChan ch (fun c => { c with
    chain := if sp then { c.chain with sp := {} } else { c.chain with own := {} }
    old := c.old.map (fun k => if sp then { k with sp := {} } else { k with own := {} }) })

/-- Whether SP is free: idle, and no change of converter uses it (R106, R116). -/
def State.spFree (s : State) (cell : Nat) : Bool := (s.cell cell).spUse == .idle && (s.cell cell).seam == .none_

/-- Step 1 of a seamless range change at boundary b: SP takes the channel's inputs at the new gain (R97, R99). -/
def State.startSeamless (s : State) (ch g b : Nat) : State :=
  (s.modCell (cellOfCh ch) (fun c => { c with
    spUse := .seamless, spCh := ch % 8, spGain := g, seam := .seamless 1 ch g b })).convStart ch true

/-- A commanded or automatically raised gain change: seamless where it can be, else flagged (R97 to R99, R116). A channel
that produces nothing takes its configured gain when it returns (R93). DEDUCED, log entry 96. -/
def State.takeGain (s : State) (ch g : Nat) : State :=
  let cell := cellOfCh ch
  let want := s.cfgB 0x11 ch 0x040 4
  if !s.chanRuns ch then s
  else
    match (s.cell cell).seam with
    | .seamless step ch' g' b =>
      if ch' = ch ∧ step = 1 then
        if g = g' then s
        else if want then s.startSeamless ch g s.now
        else
          let s := s.spIdle cell
          if g = (s.chan ch).gain then s else s.gainChange ch g s.now
      else if g = (s.chan ch).gain then s
      else if ch' = ch then
        (whenB want (·.countFallback cell) s |>.gainChange ch g s.now).modCell cell
          (fun c => { c with seam := .seamless step ch g b })
      else (whenB want (·.countFallback cell) s).gainChange ch g s.now
    | _ =>
      if g = (s.chan ch).gain then s
      else if want && s.spFree cell then s.startSeamless ch g s.now
      else (whenB want (·.countFallback cell) s).gainChange ch g s.now

/-- A flagged gain change at once: it abandons a seamless change in its steps 1 to 3 (R99, R100). -/
def State.flaggedGain (s : State) (ch g : Nat) : State :=
  let cell := cellOfCh ch
  match (s.cell cell).seam with
  | .seamless step ch' _ b =>
    if ch' = ch ∧ step = 1 then (s.spIdle cell).gainChange ch g s.now
    else if ch' = ch then (s.gainChange ch g s.now).modCell cell (fun c => { c with seam := .seamless step ch g b })
    else s.gainChange ch g s.now
  | _ => s.gainChange ch g s.now

/-- The factor of a converter's gain trim at a gain code: 1 and the trim's share of 0.5 % (R280). -/
def State.trimGain (s : State) (cell k g : Nat) : Rat :=
  1 + ((tget {} s.cal.convs (9 * cell + k)).gain.getD g 0 : Rat) * 5 / (1000 * 2 ^ 19)

/-- The gain ratio of converter k to converter o of a cell by their stored trims (R108, R111). DESIGN CHOICE, log entry 120. -/
def State.trimRatio (s : State) (cell o k g : Nat) : Rat := s.trimGain cell k g / s.trimGain cell o g

/-- The number in its cell of the converter that carries a channel: 8 is SP. -/
def convNum (ch : Nat) (c : Conv) : Nat := if carried c then 8 else ch % 8

/-- A cold switch of a channel to another converter: it starts at the next base-rate boundary f with cleared histories, and
output resumes at the first output boundary at or after f + 64; the slots not yet delivered are not produced, those from before
an earlier clearing restart for that restart (R111, R154). The splice accumulator stays. DESIGN CHOICE, log entry 118. -/
def State.coldSwitch (s : State) (ch : Nat) (k : Conv) : State :=
  let cell := cellOfCh ch
  let c := s.chan ch
  let f := gridUp (s.cell cell).origin basePeriod (s.now + 1)
  let g := s.trimRatio cell (convNum ch c.conv) (convNum ch k) c.gain
  let s := if c.old.isSome then s.dropPend ch 2 (fun t => t ≤ c.chain.start) else s
  let s := s.dropPend ch (if c.fencedFrom.isSome then 1 else 3) (fun _ => true)
  let new := s.freshChain ch f
  (s.modChan ch (fun c => { c with
    conv := k, coldUntil := some (f + 64 * basePeriod), corr := (0, g), chain := new, old := some c.chain
    fast := [], recover := (0, 0) })).coarseRestart ch f

/-- Modulator m of a cell (8 is SP) enters the retired map, which is also written to the boot flash (R114). -/
def State.retire (s : State) (cell m : Nat) : State :=
  let s := s.modCell cell (fun c => { c with retired := c.retired ||| BitVec.ofNat 9 (2 ^ m) })
  { s with boot := { s.boot with retired := tset 0 s.boot.retired cell (s.cell cell).retired } }

/-- Modulator m of a cell leaves the retired map. -/
def State.unretire (s : State) (cell m : Nat) : State :=
  let s := s.modCell cell (fun c => { c with retired := c.retired &&& ~~~ BitVec.ofNat 9 (2 ^ m) })
  { s with boot := { s.boot with retired := tset 0 s.boot.retired cell (s.cell cell).retired } }

/-- Whether modulator m of a cell is retired. -/
def State.isRetired (s : State) (cell m : Nat) : Bool := bit (s.cell cell).retired.toNat m

/-- Event CONVERTER (R401). -/
def State.evConverter (s : State) (kind cell m : Nat) : State := s.raise 0x05 [(kind, 2), (cell, 6), (m, 4)]

/-- A source's output changes at instant e: its evaluation is suspended for the blanking time and then starts afresh, with
the status held until then (R63). -/
def State.blank (s : State) (src e : Nat) : State :=
  let till := e + 1000000 * s.cfgF 0x17 src 0x016 0 10
  s.modSrc src (fun c => { c with
    blankUntil := some till
    openC := { on := c.status == 1 }
    shortC := { on := c.status == 2 }
    leakC := { on := c.status == 3 }
    driftC := { on := c.status == 4 }
    means := []
    rSum := 0
    rN := 0 })

/-- A channel starts at boundary e, or starts again after a fence, with cleared histories and its configured gain, gait and
converter; after a fence its first sample carries FENCED, and its slots up to e lie on the grid it had. Its slots not yet delivered
are covered by the fence, and another gait or gain than before closes its intervals (R93, R115, R175, R394, R520).
DEDUCED, log entry 116. -/
def State.startChan (s : State) (fenced : Bool) (e ch : Nat) : State :=
  let cell := cellOfCh ch
  let perm := s.isRetired cell (ch % 8)
  let g := s.cfgGain ch
  let gait := s.cfgF 0x11 ch 0x050 0 3
  let d := s.cfgN 0x12 gait 0
  let c := s.chan ch
  let s := if c.gait ≠ gait ∨ c.d ≠ d then s.mark ch e (.restart false) else if c.gain ≠ g then s.mark ch e .split else s
  let s := (s.dropPend ch 1 (fun _ => true)).modChan ch (fun c => { c with
    gain := g
    gainWas := g
    conv := if !perm then .own else if s.isRetired cell 8 then .none_ else .spPerm
    gait := gait
    d := d
    gaitPend := none
    recEnd := none
    recover := (0, 0)
    autoRec := false
    rangeTail := none
    coldUntil := none
    calswapFrom := none
    spliceEnd := none
    splice := 0
    resets := []
    corr := (0, 1)
    due := []
    quietFrom := e
    lone := false
    fedAt := if fenced then c.fedAt else e
    fencedFrom := if fenced then some e else none })
  s.clearingRestart ch e

/-- The channels of a cell. -/
def chansOf (cell : Nat) : List Nat := (List.range 8).map (8 * cell + ·)

/-- The sources of a cell. -/
def srcsOf (cell : Nat) : List Nat := (List.range 4).map (4 * cell + ·)

/-! The matrix and the currents (R43 to R50). -/

/-- The crosspoints a cell's configuration in force wants closed, as pairs of tap and node: the NODE of a route word, 0x10
and 0x11 and so on for the positive and negative inputs of CH0 to CH7, and 0x20 for the BIAS resistor. A vibrating-wire
reading holds its channel's inputs open until it listens, and opens its source then (R43 to R45, R73). -/
def State.wantPoints (s : State) (cell : Nat) : List (Nat × Nat) :=
  let route := fun (tap : Nat) => s.effAt (pid 0x10 cell (0x100 + tap))
  let listens := fun (n : Nat) => 1 ≤ n && n ≤ 8 && (s.src (4 * cell + (n - 1) % 4)).vw == .listen
  let readings := (srcsOf cell).filter (fun n =>
    let v := (s.src n).vw
    v == .resistance || v == .pluckWait || v == .pluck)
  let shut := fun (ch : Nat) => readings.any (fun n => (s.src n).vwCh == ch)
  let taps := (List.range 12).flatMap (fun tap =>
    (if fld (route tap) 0 4 = 0 ∨ listens (fld (route tap) 0 4) = true then [] else [(tap, fld (route tap) 0 4)])
      ++ (if bit (route tap) 8 then [(tap, 0x20)] else []))
  let ins := (chansOf cell).flatMap (fun ch =>
    let w := s.effAt (pid 0x11 ch 0x020)
    if fld w 8 2 ≠ 0 ∨ shut ch = true then []
    else [(fld w 0 4, 0x10 + 2 * (ch % 8)), (fld w 4 4, 0x11 + 2 * (ch % 8))].filter (fun (p : Nat × Nat) => p.1 < 12))
  taps ++ ins

/-- The set current of a source in 10 pA units: SETTING times the full scale of its range over 65535 (R54). The rounding, down,
is the model's choice. DESIGN CHOICE, log entry 118. -/
def State.setCurrent (s : State) (n : Nat) : Nat :=
  s.effF 0x17 n 1 0 16 * (1200000 * 10 ^ s.effF 0x17 n 0 4 2) / 65535

/-- The mode and current a source is to deliver: that of its configuration, or of the step of its reading (R57, R73); in VW
mode it delivers nothing but in a reading. -/
def State.wantDrive (s : State) (n : Nat) : Nat × Nat :=
  let m := s.effF 0x17 n 0 0 3
  match (s.src n).vw with
  | .resistance => (1, 10000000)
  | .pluckWait => (1, 10000000)
  | .pluck => (4, s.setCurrent n)
  | .listen => (0, 0)
  | .idle => if m = 4 then (0, 0) else (m, s.setCurrent n)
  | .asked => if m = 4 then (0, 0) else (m, s.setCurrent n)

/-- A source delivers what it is to deliver; without PD11 it delivers nothing (R48, R51). -/
def State.drive (s : State) (n : Nat) : State :=
  let d := if s.pd 11 then s.wantDrive n else (0, 0)
  s.modSrc n (fun c => { c with mode := d.1, iSet := d.2 })

/-- At boundary e the crosspoints of a cell that are to open do so; the others close 250 ns later (R48). -/
def State.openPoints (s : State) (cell e : Nat) : State :=
  let w := s.wantPoints cell
  s.modCell cell (fun c => { c with points := c.points.filter (fun p => w.contains p), closing := some (e + 250) })

/-- The guard output of a cell is driven as its configuration in force says (R50, R52). -/
def State.driveGuard (s : State) (cell : Nat) : State :=
  let g := s.effF 0x10 cell 0x110 0 1 == 1
  s.modCell cell (fun c => { c with guard := g })

/-- The new crosspoints of a cell close, and the source currents change (R48). -/
def State.closePoints (s : State) (cell : Nat) : State :=
  let w := s.wantPoints cell
  let s := s.modCell cell (fun c => { c with points := w, closing := none })
  forAll (srcsOf cell) State.drive s

/-- The phase of the linear sweep of a burst of dur ns from f0 to f1 Hz after t ns, in 2^-32 turn (R59). -/
def sweepPhase (f0 f1 dur t : Nat) : Nat :=
  ((((f0 * t : Nat) : Int) * (2 * dur) + ((f1 : Int) - f0) * (t * t : Nat)) * 2 ^ 32 / (2 * dur * 1000000000)).toNat

/-- The current that a source delivers at instant t, in 10 pA units: DC, I (1 + w) / 2 with w a sine or a square from its
phase accumulator, or the square of the sweep (R57 to R59). -/
def State.delivered (s : State) (n t : Nat) : Rat :=
  let c := s.src n
  let wave := fun (square : Bool) (ph : Nat) => (c.iSet : Rat) * (1 + unitWave square ph) / 2
  let ph := phaseAt c.phase c.phaseAt (s.effF 0x17 n 2 0 24) t
  match c.mode with
  | 1 => c.iSet
  | 2 => wave false ph
  | 3 => wave true ph
  | 4 => wave true (sweepPhase (s.effF 0x17 n 3 0 13) (s.effF 0x17 n 3 16 13) (s.effF 0x17 n 4 0 7 * 1000000) (t - c.vwSince))
  | _ => 0

/-- What is left of a retirement or release whose warm change a fence interrupted: it starts again at boundary e (R106, R107).
DEDUCED, log entry 116. -/
def Seam.again (e : Nat) : Seam → Seam
  | .takeover true ch _ _ => .takeover true ch e false
  | .handback true ch _ _ => .handback true ch e false
  | _ => .none_

/-- A cell runs from boundary e on: its configured routing is applied, SP serves a retired modulator, and its channels and
the evaluation of its sources start afresh (R42, R48, R50, R93, R106). -/
def State.startCell (s : State) (fenced : Bool) (e cell : Nat) : State :=
  let c := s.cell cell
  let perm := (List.range 8).find? (fun k => s.isRetired cell k)
  let s := { s with cmds := { s.cmds with issued := s.cmds.issued.filter (fun w => w.cell != cell) } }
  let s := s.modCell cell (fun d => { d with
    applied := true
    excursions := 0
    spUse := if bit c.retired.toNat 8 then .failed else if perm.isSome then .perm else .idle
    spCh := perm.getD 0
    spGain := match perm with
      | some k => s.cfgGain (8 * cell + k)
      | none => d.spGain
    seam := d.seam.again e
    overlap := []
    qa0 := { last := e }
    qa1 := { last := e }
    bgCh := none
    bgDrop := none })
  ((forAll (srcsOf cell) (fun s n => s.blank n e) (forAll (chansOf cell) (fun s ch => s.startChan fenced e ch) s)).driveGuard
    cell).openPoints cell e

/-- A cell stops: every crosspoint opens, the guard output is let go, its sources and readings stop, the tap comparators clear, changes of converter end
or wait, and its slots not yet delivered fall to the fence (R42, R50, R520). -/
def State.stopCell (s : State) (cell : Nat) : State :=
  let s := s.modCell cell (fun c => { c with
    applied := false
    points := []
    closing := none
    guard := false
    excursions := 0
    spUse := if c.spUse = .failed ∨ c.spUse = .perm then c.spUse else .idle
    seam := c.seam.again 0
    bgCh := none
    bgDrop := none })
  let s := forAll (srcsOf cell) (fun s n => s.modSrc n (fun c => { c with
    vw := .idle, blankUntil := none, mode := 0, iSet := 0 })) s
  forAll (chansOf cell) (fun s ch => s.dropPend ch 1 (fun _ => true)) s

end Sys2Proof.Machine
end

