-- ==== Sys2Proof/Machine/SafetyOps.lean ====
section
/-! DEFINITION. The safety unit's demands, demand latches, permission and output states (R553 to R571). -/

namespace Sys2Proof.Machine

/-- The code of an output state (R568). -/
def SoState.num : SoState → Nat
  | .off => 0
  | .starting => 1
  | .on => 2
  | .testing => 3
  | .fault => 4

/-- Output x. -/
def State.so (s : State) (x : Nat) : So := if x = 0 then s.safety.so0 else s.safety.so1

/-- Output x replaced. -/
def State.setSo (s : State) (x : Nat) (o : So) : State :=
  if x = 0 then { s with safety := { s.safety with so0 := o } } else { s with safety := { s.safety with so1 := o } }

/-- Output x changed. -/
def State.modSo (s : State) (x : Nat) (f : So → So) : State := s.setSo x (f (s.so x))

/-- Input x. -/
def State.si (s : State) (x : Nat) : Si := tget {} s.safety.si x

/-- Input x changed. -/
def State.modSi (s : State) (x : Nat) (f : Si → Si) : State :=
  { s with safety := { s.safety with si := tmod {} s.safety.si x f } }

/-- Alarm pair p. -/
def State.apair (s : State) (p : Nat) : AlarmPair := tget {} s.safety.pairs p

/-- Alarm pair p changed. -/
def State.modPair (s : State) (p : Nat) (f : AlarmPair → AlarmPair) : State :=
  { s with safety := { s.safety with pairs := tmod {} s.safety.pairs p f } }

/-- NSL connection c. -/
def State.nsl (s : State) (c : Nat) : Nsl := tget {} s.safety.conns c

/-- NSL connection c changed. -/
def State.modNsl (s : State) (c : Nat) (f : Nsl → Nsl) : State :=
  { s with safety := { s.safety with conns := tmod {} s.safety.conns c f } }

/-- PAIR_CFG of pair p. -/
def State.pairCfg (s : State) (p : Nat) : Nat := s.cfgN 0x06 0 (0x100 + 8 * p)

/-- Whether pair p has EN set (R552). -/
def State.pairEn (s : State) (p : Nat) : Bool := bit (s.pairCfg p) 25

/-- The two channels of pair p. -/
def State.pairChans (s : State) (p : Nat) : Nat × Nat := (fld (s.pairCfg p) 0 9, fld (s.pairCfg p) 16 9)

/-- Whether a channel is an alarm channel (R552). -/
def State.isAlarm (s : State) (ch : Nat) : Bool :=
  (List.range 32).any (fun p => s.pairEn p && ((s.pairChans p).1 == ch || (s.pairChans p).2 == ch))

/-- Whether a cell holds an alarm channel. -/
def State.alarmCell (s : State) (cell : Nat) : Bool := (chansOf cell).any s.isAlarm

/-- Whether an excitation source serves an alarm channel (R554). -/
def State.alarmSource (s : State) (src : Nat) : Bool :=
  (chansOf (src / 4)).any (fun ch => s.isAlarm ch && bit (s.cfgF 0x11 ch 0x020 10 4) (src % 4))

/-- Whether pair p demands (R554). -/
def State.pairDemands (s : State) (p : Nat) : Bool := (s.apair p).a.demand || (s.apair p).b.demand

/-- SI_CFG of input x. -/
def State.siCfg (s : State) (x : Nat) : Nat := s.cfgN 0x06 0 (0x020 + x)

/-- Whether input x is enabled; SI1 always is (R555, R556). -/
def State.siEn (s : State) (x : Nat) : Bool := x == 1 || bit (s.siCfg x) 16

/-- NSL_CFG of connection c. -/
def State.nslCfg (s : State) (c : Nat) : Nat := s.cfgN 0x06 0 (0x200 + 8 * c)

/-- Whether connection c demands on output x (R562). -/
def State.connDemands (s : State) (c x : Nat) : Bool :=
  let k := s.nsl c
  k.st != 1 || !k.seenData || !bit k.permit.toNat x

/-- Whether any source in output x's map demands (R566). -/
def State.outDemand (s : State) (x : Nat) : Bool :=
  (List.range 32).any (fun p => s.pairEn p && bit (s.pairCfg p) (26 + x) && s.pairDemands p)
    || (List.range 4).any (fun i => s.siEn i && bit (s.siCfg i) (17 + x) && (s.si i).demand)
    || (List.range 16).any (fun c => bit (s.nslCfg c) 16 && bit (s.nslCfg c) (17 + x) && s.connDemands c x)

/-- Whether output x is permitted; without VDDC it is not (R37, R567). -/
def State.permitted (s : State) (x : Nat) : Bool :=
  s.cfgB 0x06 0 0 x && s.running && s.boot.rails.contains .vddc && s.safety.confirmed && s.safety.startTest && !s.faults.safe
    && !(s.so x).latch && (s.so x).st != .fault

/-- Output x enters a state (R568, R574). -/
def State.soState (s : State) (x : Nat) (st : SoState) : State :=
  if (s.so x).st = st then s
  else
    let now := s.now
    (s.modSo x (fun o => { o with st := st, since := now })).raise 0x50 [(x, 1), (st.num, 3)]

/-- The drive of both switches of output x. -/
def State.soDrive (s : State) (x : Nat) (hs ls : Bool) : State := s.modSo x (fun o => { o with hs := hs, ls := ls })

/-- A test of side d of output x ends with result r: 1 pass, 2 fail, 3 inconclusive, 4 not run (R568, R570, R574). -/
def State.soResult (s : State) (x d r : Nat) : State :=
  ((s.modSo x (fun o => { o with lastTest := r })).bump (pid 0x06 0 (0x010 + x)) 16 16).raise 0x54
    [(x, 1), (d, 1), (r, 3)]

/-- The lowest free action entry (R267). -/
def State.freeAct (s : State) : Option Nat :=
  (List.range 64).find? (fun n => (s.act n).st != .held && (s.act n).st != .armed)

/-- Firmware schedules an ALARM_TEST of side d of output x at RUNTIME t (R266, R269, R570). DEDUCED, log entry 59. -/
def State.schedTest (s : State) (x d t : Nat) : State :=
  match s.freeAct with
  | none => s
  | some n =>
    s.modAct n (fun _ => {
      typ := 0x16
      target := t
      args := [BitVec.ofNat 32 (x + 2 * d), 0, 0, 0]
      st := if t ≤ s.now + 2 ^ 31 then .armed else .held
      reason := 0 })

/-- Whether an ALARM_TEST of output x is held or armed. DEDUCED, log entry 59. -/
def State.testPending (s : State) (x : Nat) : Bool :=
  (List.range 64).any (fun n =>
    ((s.act n).st == .held || (s.act n).st == .armed) && fld (s.act n).typ.toNat 0 4 == 6
      && bit ((s.act n).args.headD 0).toNat 0 == (x == 1))

/-- Firmware schedules the repeat or the next test of an output that is ON (R570, R571). -/
def State.soPlan (s : State) (x : Nat) : State :=
  let o := s.so x
  let period := s.cfgF 0x06 0 0 8 8
  if !s.coreUp || o.st != .on then s
  else match o.repeatSide with
    | some d => (s.modSo x (fun o => { o with repeatSide := none })).schedTest x d (s.now + 1000000000)
    | none =>
      if period = 0 ∨ s.testPending x then s
      else (s.modSo x (fun o => { o with nextSide := 1 - o.nextSide })).schedTest x o.nextSide
        (s.now + period * 60000000000)

/-- An output reached ON: its next test is planned (R568, R570). -/
def State.soOn (s : State) (x : Nat) : State := (s.soState x .on).soPlan x

/-- Output x follows its permission (R568, R571). -/
def State.soFollow (s : State) (x : Nat) : State :=
  let o := s.so x
  if o.st = .fault then s
  else if s.permitted x then
    if o.st = .off then (s.soDrive x false true).soState x .starting else s
  else if o.st = .off then s
  else
    let s := if o.st = .testing then
        (s.soResult x o.side 3).modSo x (fun o => { o with repeatSide := some o.side }) else s
    (s.soDrive x false false).soState x .off

/-- The demand latch of output x after a look at its map (R566). -/
def State.soLatch (s : State) (x : Nat) : State :=
  let d := s.outDemand x
  let auto := s.cfgB 0x06 0 0 (2 + x)
  s.modSo x (fun o => { o with latch := d || (o.latch && !auto) })

/-- The safety unit looks at its demands, latches and permissions again (R566 to R568). -/
def State.safetyRefresh (s : State) : State := (((s.soLatch 0).soLatch 1).soFollow 0).soFollow 1

/-- Alarm pair p changes by f: a disagreement is timed, DISCREPANT clears when the members agree, a new demand is counted,
a change of demand or of DISCREPANT raises event 0x51, and the outputs follow (R553, R554, R574). -/
def State.pairUpdate (s : State) (p : Nat) (f : AlarmPair → AlarmPair) : State :=
  let old := s.apair p
  let new := f old
  let differ := new.a.demand != new.b.demand
  let disc := new.disc && differ
  let now := s.now
  let demand := new.a.demand || new.b.demand
  let was := s.pairDemands p
  let s := s.modPair p (fun _ => { new with
    disc := disc
    differSince := if !differ then none else if old.differSince.isSome then old.differSince else some now })
  let s := if demand && !was then s.bump (pid 0x06 0 (0x105 + 8 * p)) 16 16 else s
  let s := if demand != was || disc != old.disc then s.raise 0x51 [(p, 5), (b2n demand, 1), (b2n disc, 1)] else s
  s.safetyRefresh

end Sys2Proof.Machine
end

