-- ==== Sys2Proof/Machine/FaultOps.lean ====
section
/-! DEFINITION. The fault collector: occurrences, severity, the Locket, FAULT_N, SAFE and HALTER, and fences (R496 to
R521). -/

namespace Sys2Proof.Machine

/-- The unit of a source in R496, as (kind, number): 1 cell, 2 port, 3 quadrant, 4 storage port. -/
def unitOf (n : Nat) : Option (Nat × Nat) :=
  if n < 48 then some (1, n)
  else if n < 54 then some (2, n - 48)
  else if n < 58 then some (3, n - 54)
  else if 61 ≤ n ∧ n ≤ 68 then some (3, (n - 61) % 4)
  else if n = 92 ∨ n = 93 then some (4, n - 92)
  else none

/-- The domain of a pair (R501). -/
def pairDomain (n : Nat) : Nat :=
  if n < 48 then 3 + n / 12
  else if n < 54 then 13
  else if 76 ≤ n ∧ n ≤ 91 then 12
  else if 92 ≤ n ∧ n ≤ 94 then 14
  else if n = 95 ∨ n = 96 then 2
  else 0

/-- The causes of a unit's own fence. -/
def State.causes (s : State) (kind num : Nat) : List Cause :=
  match kind with
  | 1 => tget [] s.faults.cells num
  | 2 => tget [] s.faults.ports num
  | 3 => tget [] s.faults.quads num
  | _ => tget [] s.faults.stores num

/-- The causes of a unit's own fence replaced. -/
def State.setCauses (s : State) (kind num : Nat) (l : List Cause) : State :=
  match kind with
  | 1 => { s with faults := { s.faults with cells := tset [] s.faults.cells num l } }
  | 2 => { s with faults := { s.faults with ports := tset [] s.faults.ports num l } }
  | 3 => { s with faults := { s.faults with quads := tset [] s.faults.quads num l } }
  | _ => { s with faults := { s.faults with stores := tset [] s.faults.stores num l } }

/-- Whether a unit is fenced, by its own causes or held by its domain or switch (R520). -/
def State.unitFenced (s : State) (kind num : Nat) : Bool :=
  match kind with
  | 1 => s.cellFenced num
  | 2 => isFenced s.faults.ports num || !s.pd 13 || !bit s.switches.toNat num
  | 3 => isFenced s.faults.quads num || !s.pd (3 + num) || !s.pd (7 + num)
  | _ => isFenced s.faults.stores num || !s.pd 14

/-- Whether the collector ignores pair n (R501). -/
def State.pairIgnored (s : State) (n : Nat) : Bool :=
  !s.pd (pairDomain n) || (n < 48 && s.unitFenced 1 n) || (48 ≤ n && n < 54 && s.unitFenced 2 (n - 48))
    || ((n == 92 || n == 93) && s.unitFenced 4 (n - 92))

/-- SRC_CFG of a source; the fixed ones keep their default (R505). -/
def State.srcCfg (s : State) (n : Nat) : Nat :=
  if srcFixed n then srcCfgDefault n else s.cfgN 0x05 (0x100 + n) 0

/-- SRC_W of a source in ms. -/
def State.srcW (s : State) (n : Nat) : Nat := if srcFixed n then srcWDefault n else s.cfgN 0x05 (0x100 + n) 1

/-- The number of the lowest source among causes, or 0x7F (R524). -/
def lowestCause (l : List Cause) : Nat :=
  l.foldl (fun a c => match c with
    | .src n => min a n
    | _ => a) 0x7F

/-- Pair n is taken inactive (R510, R524). -/
def State.pairInactive (s : State) (n : Nat) : State :=
  let f := s.fsrc n
  let s := s.modFsrc n (fun f => { f with active := false })
  if bit (s.srcCfg n) 11 then s
  else s.raise 0x40 [(n, 7), (b2n f.severe, 1), (1, 2), (0, 1), (f.detail.toNat, 32)]

/-- Pair n goes inactive if it is active (R510). -/
def State.pairEnds (s : State) (n : Nat) : State := if (s.fsrc n).active then s.pairInactive n else s

/-- Pair n of the 115 wired ones leaves the invalid ones; with none left source 115 goes inactive (R500).
DEDUCED, log entry 114. -/
def State.wireMends (s : State) (n : Nat) : State :=
  if s.faults.wires.contains n then
    let s := { s with faults := { s.faults with wires := s.faults.wires.erase n } }
    if s.faults.wires.isEmpty then s.pairEnds 115 else s
  else s

/-- Pair n is ignored: it reads inactive without an event, and an invalid one is no wire fault any longer (R501).
DEDUCED, log entry 114. -/
def State.pairQuiet (s : State) (n : Nat) : State := (s.modFsrc n (fun f => { f with active := false })).wireMends n

/-- A vibrating-wire reading in progress on a source ends because its cell is fenced or PD11 goes off: its span is dropped, a
channel whose inputs were open closes them again, and the final reply is DENIED. DESIGN CHOICE, log entry 118. -/
def State.vwAbort (s : State) (src : Nat) : State :=
  let c := s.src src
  if c.vw = .idle then s
  else
    let e := gridUp (s.cell (src / 4)).origin basePeriod s.now
    let s := (s.modSrc src (fun c => { c with vw := .idle, mode := 0, iSet := 0 })).openPoints (src / 4) e
    let s := if c.vw = .listen then s.modChan c.vwCh (fun c => { c with span := none })
      else if c.vw = .asked then s else s.inputChange c.vwCh e
    s.finalReply (.vw src) stDenied

/-- What happens to a unit that becomes fenced (R518). -/
def State.stopUnit (s : State) (kind num : Nat) : State :=
  match kind with
  | 1 => (forAll (srcsOf num) State.vwAbort s |>.stopCell num).pairQuiet num
  | 2 =>
    ((s.chkFold num).setLane num (fun l => if l.st == .down || l.st == .failed then l else laneStop .idle l)).pairQuiet (48 + num)
  | 3 => forAll ((List.range 12).map (12 * num + ·))
      (fun s c => (forAll (srcsOf c) State.vwAbort s |>.stopCell c).pairQuiet c) s
  | _ => (s.modStore num (fun d => { d with st := 6 })).pairQuiet (92 + num)

/-- Whether a cause of fence is only that the unit is being brought back: it reloads, or calibrates itself (R285, R520). -/
def Cause.returning (c : Cause) : Bool := c == .reload || c == .calibrate

/-- Fences a unit for a cause: a unit not yet fenced, or released and still coming back, stops, with event 0x41; a further
cause is only added (R518, R519, R521, R524). DEDUCED, log entries 32, 98. -/
def State.fence (s : State) (kind num : Nat) (c : Cause) : State :=
  let old := s.causes kind num
  if old.contains c then s
  else if old.all Cause.returning then
    ((s.setCauses kind num (c :: old.filter (· == .calibrate))).stopUnit kind num).raise 0x41 [(kind, 3), (num, 6), (1, 1), (lowestCause [c], 7)]
  else s.setCauses kind num (old ++ [c])

/-- Sets the SAFE latch for a source; the outputs go off (R517). -/
def State.safeOn (s : State) (n : Nat) : State :=
  { s with faults := { s.faults with safe := true, safeBy := if s.faults.safeBy.contains n then s.faults.safeBy else n :: s.faults.safeBy } }.safetyRefresh

/-- Whether this hub belongs to a TIME pair (R539). -/
def State.timePair (s : State) : Bool := s.cfgB 0x01 0 0x510 12 && s.cfgF 0x01 0 0x510 0 10 != 1023

/-- The lead of a TIME pair yields (R542). DEDUCED, log entry 54. -/
def State.yieldLead (s : State) : State :=
  if s.timePair && s.time.isLead && !s.pair.yielding then
    { s with pair := { s.pair with yielding := true, yieldAt := s.now, retryAt := none } }
  else s

/-- The Locket's word item 0x010 as an event names its later-count. -/
def locketId : Nat := pid 0x05 0 0x010

/-- The Locket takes an occurrence (R507 to R509). The flag tells whether it latched this one. -/
def State.locketTake (s : State) (n : Nat) (sev : Bool) (detail : Word) : State × Bool :=
  let k := s.faults.locket
  let fresh : Locket := ⟨true, n, sev, detail, if s.time.state = .unlocked then 0 else s.ntime, s.now, s.tstate,
    s.islandNo, false, 0⟩
  let later := fun (s : State) (k : Locket) =>
    let c := min 0xFFFF (k.later + 1)
    let s := { s with faults := { s.faults with locket := { k with overflow := true, later := c } } }
    if k.later < 0xFFFF ∧ c = 0xFFFF then s.raise 0x10 (satFields locketId 16) else s
  if !sev && s.cfgB 0x05 0 0 0 then (s, false)
  else if !k.valid then ({ s with faults := { s.faults with locket := fresh, copied := false } }, true)
  else if k.runtime = s.now ∧ ((sev ∧ !k.severe) ∨ (sev = k.severe ∧ n < k.src)) then
    (later s { fresh with later := k.later }, true)
  else (later s k, false)

/-- The reactions of source n for its newly severe occurrence, with the fences and SAFE caused by source c (R500, R506,
R516 to R519). -/
def State.react (s : State) (n c : Nat) : State :=
  let cfg := s.srcCfg n
  let s := if bit cfg 9 then s.safeOn c else s
  match unitOf n with
  | some (k, u) => if bit cfg 8 then s.fence k u (.src c) else s
  | none => s

/-- One occurrence of source n (R503 to R507, R514). -/
def State.takeOcc (s : State) (n : Nat) (detail : Word) : State :=
  let f := s.fsrc n
  let cfg := s.srcCfg n
  let w := s.srcW n * 1000000
  let occ := s.now :: f.occ.filter (fun t => s.now < t + w)
  let sev := f.severe || fld cfg 0 8 ≤ occ.length
  let newly := sev && !f.severe
  let s := s.modFsrc n (fun f => { f with
    active := true, latched := true, severe := sev, detail := detail, last := s.stamp, ts := s.tstate, occ := occ })
  let s := s.bump (pid 0x05 (0x100 + n) 0x010) 16 16
  let k := s.locketTake n sev detail
  let s := k.1
  let s := if bit cfg 11 then s
    else s.raise 0x40 [(n, 7), (b2n sev, 1), (0, 2), (b2n k.2, 1), (detail.toNat, 32)]
  let s := if newly && bit cfg 10 then
      { s with faults := { s.faults with faultN := false, lastLatch := s.now, clearAsked := false } } else s
  let s := if n = 115 then s.react detail.toNat 115 else if newly then s.react n n else s
  if n = 58 ∨ n = 111 then s.yieldLead else s

/-- The sources whose reports are moments, such as a disagreement or an overrun: their pairs go inactive at once; the other
sources stay active until what they report ends (R496, R499, R510). DEDUCED, log entry 114. -/
def momentary (n : Nat) : Bool :=
  decide (n < 54) || n == 75 || n == 92 || n == 93 || (decide (95 ≤ n) && decide (n ≤ 98))
    || (decide (106 ≤ n) && decide (n ≤ 109)) || n == 113

/-- A block reports source n: a new activation, after the pair was inactive (R499, R501, R503). -/
def State.report (s : State) (n : Nat) (detail : Word) : State :=
  if s.pairIgnored n then s
  else
    let s := (s.pairEnds n).takeOcc n detail
    if momentary n then s.pairEnds n else s

/-- Firmware reports source n through Clasp: a fence of the unit whose own pair stands for the source does not silence it
(R23, R501). DEDUCED, log entry 75. -/
def State.reportByCore (s : State) (n : Nat) (detail : Word) : State := ((s.pairEnds n).takeOcc n detail).pairEnds n

/-- The detail word of a cell source (R497). -/
def cellDetail (kind x : Nat) : Word := BitVec.ofNat 32 (kind <<< 24 ||| x)

/-- The source of output x goes inactive once both readbacks show its switches off (R568). DEDUCED, log entry 114. -/
def State.soQuiet (s : State) (x : Nat) : State :=
  if !(s.so x).hrb && !(s.so x).lrb then s.pairEnds (100 + x) else s

/-- An output whose readback failed: off, FAULT, and its source reported (R568, R569). -/
def State.soFault (s : State) (x side kase : Nat) : State :=
  let o := s.so x
  let other := if side = 0 then o.lrb else o.hrb
  let s := (s.soDrive x false false).soState x .fault
  ((s.report (100 + x) (BitVec.ofNat 32 (side ||| kase <<< 2 ||| b2n other <<< 4))).soQuiet x).safetyRefresh

/-- The status of a source as its debounced conditions give it (R64). -/
def srcStatusOf (c : Src) : Nat :=
  if c.openC.on then 1 else if c.shortC.on then 2 else if c.leakC.on then 3 else if c.driftC.on then 4 else 0

/-- The sources a channel's SERVED field selects (R45). -/
def State.served (s : State) (ch : Nat) : List Nat :=
  (bitsOf 4 (s.effF 0x11 ch 0x020 10 4)).map (4 * cellOfCh ch + ·)

/-- A channel's status and the source that decides it: of several with that status the lowest-numbered (R65, R67).
DESIGN CHOICE, log entry 118. -/
def State.chanStatus (s : State) (ch : Nat) : Nat × Nat :=
  match (List.range 4).find? (fun k => (s.served ch).any (fun n => (s.src n).status == k + 1)) with
  | some k => (k + 1, ((s.served ch).find? (fun n => (s.src n).status == k + 1)).getD 0xFF)
  | none => (0, 0xFF)

/-- The taps that a channel takes as inputs: PTAP and NTAP with SRC 0, the amplifier's tap with SRC 1 (R42, R45). -/
def State.inputTaps (s : State) (ch : Nat) : List Nat :=
  let w := s.effAt (pid 0x11 ch 0x020)
  if fld w 8 2 = 0 then [fld w 0 4, fld w 4 4]
  else if fld w 8 2 = 1 then
    (List.range 12).filter (fun k => s.effF 0x10 (cellOfCh ch) (0x100 + k) 0 4 == 0xB + (ch % 8 - 6))
  else []

/-- Whether an input tap of a channel is out of the tap operating range (R42, R81). -/
def State.tapOut (s : State) (ch : Nat) : Bool :=
  (s.inputTaps ch).any (fun k => k < 12 && bit (s.cell (cellOfCh ch)).excursions.toNat k)

/-- Whether optical source n is forced dark: PD12 off, latched NB_SHORT, or HELD (R322, R325). -/
def State.osDark (s : State) (n : Nat) : Bool := !s.pd 12 || (s.os n).short || !s.running

/-- Whether a channel's samples carry SENSOR: an input tap out of range, a served source OPEN, SHORT or LEAK, its source
domain off, or its optical source forced dark or OPEN (R31, R42, R51, R66, R322, R328). -/
def State.sensorBad (s : State) (ch : Nat) : Bool :=
  let lock := s.cfgN 0x11 ch 0x052
  let st := (s.chanStatus ch).1
  s.tapOut ch || (1 ≤ st && st ≤ 3)
    || (!s.pd 11 && s.effF 0x11 ch 0x020 10 4 != 0)
    || (fld lock 0 2 == 2 && (s.osDark (fld lock 2 4) || (s.os (fld lock 2 4)).openC))

/-- Runs f; the channels of a list whose SENSOR condition it ends carry SENSOR up to now (R66). -/
def State.sensorEnds (s : State) (l : List Nat) (f : State → State) : State :=
  let bad := l.filter s.sensorBad
  forAll bad (fun s ch =>
    if s.sensorBad ch then s
    else
      let now := s.now
      s.modChan ch (fun c => { c with sensorTill := now })) (f s)

/-- Reports a channel whose status went from old to its present one; with no deciding source the event's R_LOAD is 0 (R67,
R68). DESIGN CHOICE, log entry 118. -/
def State.reportStatus (s : State) (ch old : Nat) : State :=
  let new := s.chanStatus ch
  if new.1 = old then s
  else
    let r := if new.2 = 0xFF then 0 else min 0xFFFFFF ((s.src new.2).rLoad.toNat / 10)
    let s := s.raise 0x01 [(ch, 9), (old, 3), (new.1, 3), (new.2, 8), (r, 24)]
    if s.isAlarm ch ∧ 1 ≤ new.1 ∧ new.1 ≤ 3 then
      s.report (cellOfCh ch) (cellDetail 3 ((ch % 8) <<< 4 ||| new.1))
    else s

/-- Runs f, then reports every channel of the cell whose status it changed (R66, R67). -/
def State.withStatus (s : State) (cell : Nat) (f : State → State) : State :=
  let old := (chansOf cell).map (fun ch => (ch, (s.chanStatus ch).1))
  forAll old (fun s o => s.reportStatus o.1 o.2) (s.sensorEnds (chansOf cell) f)

/-- A source takes the status of its conditions, counting a change and reporting the channels it serves (R61, R64 to
R68). -/
def State.setSrcStatus (s : State) (n : Nat) : State :=
  let new := if s.effF 0x17 n 0 0 3 = 0 then 0 else srcStatusOf (s.src n)
  if new = (s.src n).status then s
  else s.withStatus (n / 4) (fun s => (s.modSrc n (fun c => { c with status := new })).bump (pid 0x17 n 0x024) 16 16)

end Sys2Proof.Machine
end

