-- ==== Sys2Proof/Machine/Operands.lean ====
section
/-! DEFINITION. Operands: how many units of each kind the hub has, and the forms of a meaning: at an instant, on one
numbered unit, on two, and as a command of the control core. -/

namespace Sys2Proof.Machine

/-- How many units of a kind there are: their numbers run from 0 (R4, R5, R16, R36). DESIGN CHOICE, log entry 4. -/
def unitCount : UnitKind → Nat
  | .cell => 48
  | .channel => 384
  | .source => 192
  | .tap => 12
  | .amplifier => 2
  | .modulator => 9
  | .port => 6
  | .gait => 8
  | .slot => 512
  | .group => 32
  | .profile => 16
  | .record => 16
  | .action => 64
  | .reinLine => 4
  | .quadrant => 4
  | .optical => 16
  | .opticalPair => 15
  | .storage => 2
  | .faultSource => 128
  | .pair => 32
  | .safetyInput => 4
  | .connection => 16
  | .output => 2
  | .core => 3
  | .domain => 16
  | .firmwareSlot => 2
  | .rail => 4

/-- A meaning at instant t. DESIGN CHOICE, log entry 1. -/
def at_ (t : Nat) (s : State) (f : State → State) : Host.Outcome State Fault Refusal := .next (f (s.tick t))

/-- A meaning at instant t on unit n of a kind; a unit the hub does not have is a fault.
DESIGN CHOICE, log entries 1, 3, 4. -/
def onUnit (k : UnitKind) (n t : Nat) (s : State) (f : State → State) : Host.Outcome State Fault Refusal :=
  if n < unitCount k then .next (f (s.tick t)) else .fault (.noSuchUnit k n)

/-- A meaning at instant t on two numbered units. DESIGN CHOICE, log entry 4. -/
def onUnits (k : UnitKind) (n : Nat) (k' : UnitKind) (n' t : Nat) (s : State) (f : State → State) :
    Host.Outcome State Fault Refusal :=
  if n < unitCount k then onUnit k' n' t s f else .fault (.noSuchUnit k n)

/-- A command of the control core at instant t: without a running core it has no effect (R31, R371). -/
def command (t : Nat) (s : State) (f : State → State) : Host.Outcome State Fault Refusal := at_ t s (whenCore f)

/-- A command of the control core on unit n of a kind. DESIGN CHOICE, log entry 4. -/
def commandOn (k : UnitKind) (n t : Nat) (s : State) (f : State → State) : Host.Outcome State Fault Refusal :=
  onUnit k n t s (whenCore f)

/-- Whether the ROM answers an opcode in recovery mode (R597). -/
def romOp (op : Nat) : Bool := ((opInfo op).map OpInfo.rom).getD false

/-- Whether the packet of a header has been taken and has not started (R363, R365). -/
def State.waits (s : State) (h : Hdr) : Bool :=
  s.cmds.waiting.any (fun p => p.h == h) && !s.cmds.started.any (fun p => p.h == h)

/-- The execution of a packet's opcode: the core runs it once it has started, and the ROM in recovery mode refuses all but its own
(R363, R597). -/
def packet (op : Nat) (h : Hdr) (t : Nat) (s : State) (f : State → State) : Host.Outcome State Fault Refusal :=
  command t s (fun s =>
    if s.boot.phase == .recovery && !romOp op then s.finish h op stBadOpcode else if s.waits h then s else f s)

/-- The execution of a packet's opcode on unit n of a kind. -/
def packetOn (k : UnitKind) (n op : Nat) (h : Hdr) (t : Nat) (s : State) (f : State → State) :
    Host.Outcome State Fault Refusal :=
  if n < unitCount k then packet op h t s f else .fault (.noSuchUnit k n)

end Sys2Proof.Machine
end

