-- ==== Sys2Proof/Machine/Domains.lean ====
section
/-! DEFINITION. Power domains going off and coming back (R31 to R35, R51, R602). -/

namespace Sys2Proof.Machine

/-- Whether a rail is good. -/
def State.railGood (s : State) (r : Rail) : Bool := s.boot.rails.contains r

/-- The domains a rail feeds (R602). -/
def railFeeds (r : Rail) : List Nat :=
  match r with
  | .vddaon => [0]
  | .vioaon => [0]
  | .vddc => [1, 2, 3, 4, 5, 6, 11, 12, 14, 15]
  | .vddl => [13]
  | .vddla => [13]
  | .vio18 => [14, 15]
  | .avdd q => [7 + q]

/-- The rails a domain needs (R602). -/
def railsOf (n : Nat) : List Rail :=
  match n with
  | 0 => [.vddaon, .vioaon]
  | 7 => [.avdd 0]
  | 8 => [.avdd 1]
  | 9 => [.avdd 2]
  | 10 => [.avdd 3]
  | 13 => [.vddl, .vddla]
  | 14 => [.vddc, .vio18]
  | 15 => [.vddc, .vio18]
  | _ => [.vddc]

/-- Whether every rail of a domain is good. -/
def State.railsGood (s : State) (n : Nat) : Bool := (railsOf n).all s.railGood

/-- Every pair of a domain reads inactive (R501). -/
def State.domainPairsQuiet (s : State) (n : Nat) : State :=
  forAll ((List.range 115).filter (fun p => pairDomain p == n)) State.pairQuiet s

/-- Event DOMAIN; PD11 going off raises one from each cell (R51, R401). DEDUCED, log entry 102. -/
def State.evDomain (s : State) (n : Nat) (on : Bool) : State :=
  let one := fun (s : State) => s.raise 0x03 [(n, 4), (b2n on, 1)]
  if n = 11 ∧ on = false then forAll (List.range 48) (fun s _ => one s) s else one s

/-- The twelve cells of a quadrant. -/
def cellsOf (q : Nat) : List Nat := (List.range 12).map (12 * q + ·)

/-- Stops every cell of a quadrant with its vibrating-wire readings. -/
def State.stopQuad (s : State) (q : Nat) : State :=
  forAll (cellsOf q) (fun s c => forAll (srcsOf c) State.vwAbort s |>.stopCell c) s

/-- A lane without power or switch: DOWN, the counts of its checker kept, and the frames in its receive buffer gone (R33,
R443, R446, R472). -/
def State.laneDown (s : State) (p : Nat) : State :=
  forAll (List.range 6) (fun s q => s.modLink q (fun l => { l with out := l.out.filter (fun f => f.1 != p) }))
    (s.setLane p (fun l => { bits := l.bits, errs := l.errs }))

/-- Ends every deferred command. -/
def State.dropDeferred (s : State) : State := { s with cmds := { s.cmds with deferred := [] } }

/-- PD2 goes off: what the hold store and the queues hold is lost, and the slots of stream blocks become gaps (R31, R34). -/
def State.losePd2 (s : State) : State :=
  let s := forAll (List.range 384) State.loseStream s
  { s with
    evq := { wm0 := s.evq.wm0, wm1 := s.evq.wm1 }
    hold := { order := s.hold.order }
    arc := { s.arc with openBlks := [], openSince := [] }
    trig := { s.trig with forming := [], recs := [] }
    cmds := { s.cmds with replies := [], linkReplies := [], linkWait := [] }
    boot := { s.boot with pd2Wait := false } }.updWm

/-- Optical source n is dark from now on (R31, R328). -/
def State.dark (s : State) (n : Nat) : State :=
  let x := s.osLast n
  s.stepOs n s.now { x with top := 0, level := 0, limit := false, darkSince := if x.level = 0 then x.darkSince else s.now }

/-- The effect of a domain that goes off (R31). -/
def State.offEffect (s : State) (n : Nat) : State :=
  match n with
  | 2 => s.losePd2
  | 3 => s.stopQuad 0
  | 4 => s.stopQuad 1
  | 5 => s.stopQuad 2
  | 6 => s.stopQuad 3
  | 7 => s.stopQuad 0
  | 8 => s.stopQuad 1
  | 9 => s.stopQuad 2
  | 10 => s.stopQuad 3
  | 11 => forAll (List.range 192) (fun s x => (s.vwAbort x).modSrc x (fun c => { c with
      blankUntil := none, mode := 0, iSet := 0 })) s
  | 12 => forAll (List.range 16) (fun s x => s.dark x) s
  | 13 => { (forAll (List.range 6) State.laneDown s) with switches := 0 }
  | 14 => { (forAll [0, 1] (fun s x => s.modStore x (fun d => { d with used := d.st == 2 || d.st == 3, st := 6 })) s) with
      arc := { s.arc with mounted := false } }
  | _ => s

/-- A domain goes off: it is no longer powered, its pairs are ignored, and R31's effect follows (R31, R501).
DEDUCED, log entry 102. -/
def State.domainOff (s : State) (n : Nat) : State :=
  if !bit s.pdOn.toNat n then s
  else
    let s := s.evDomain n false
    let s := { s with
      pdOn := s.pdOn &&& ~~~ BitVec.ofNat 16 (2 ^ n)
      pdGood := s.pdGood &&& ~~~ BitVec.ofNat 16 (2 ^ n) }
    ((s.domainPairsQuiet n).offEffect n).lateDone (fun on => on == .domain n)

/-- A domain is switched on; PD13 as a whole with its six lane switches (R33). -/
def State.domainOn (s : State) (n : Nat) : State :=
  let s := { s with pdOn := s.pdOn ||| BitVec.ofNat 16 (2 ^ n) }
  if n = 13 then { s with switches := 0x3F } else s

/-- The final replies to every UNFENCE of a unit, once it is no longer fenced (R520). -/
def State.unfenceReplies (s : State) (kind num : Nat) : State :=
  if s.unitFenced kind num then s
  else forAll s.cmds.deferred (fun s d =>
    if d.work = .unfence kind num then s.finalReply (.unfence kind num) stOk else s) s

/-- The first base-rate boundary of a cell from now on. -/
def State.boundary (s : State) (cell : Nat) : Nat := gridUp (s.cell cell).origin basePeriod s.now

/-- A cell starts again after a fence, at one base-rate boundary, when nothing holds it any more (R50, R67, R520).
DEDUCED, log entry 98. -/
def State.rejoinCell (s : State) (c : Nat) : State :=
  let s := if s.cellRuns c && !(s.cell c).applied then
      s.withStatus c (fun s => s.startCell true (s.boundary c) c) else s
  s.unfenceReplies 1 c

/-- PD2's island reopens: every channel is delivered again (R34). -/
def State.openPd2 (s : State) : State :=
  let s := forAll (List.range 384) State.catchUp { s with boot := { s.boot with pd2Wait := false } }
  { s with closed := s.closed.filter (fun x => x.1 != .cellHold) }

/-- PD2 is good again; its island stays closed until the core reloads it (R34). -/
def State.regainPd2 (s : State) : State :=
  if s.coreUp then s.openPd2 else { s with boot := { s.boot with pd2Wait := true } }

/-- The core, running again, reloads PD2's island where it waits for that (R34). -/
def State.reloadPd2 (s : State) : State := if s.boot.pd2Wait && s.coreUp then s.openPd2 else s

/-- The effect of a domain reported good again: its islands reopen closed and reload, the cells of a quadrant until their
reload ends (R34, R51, R285, R419, R423). -/
def State.onEffect (s : State) (n : Nat) : State :=
  if n = 2 then s.regainPd2
  else if 3 ≤ n ∧ n ≤ 6 then
    if s.running then forAll (cellsOf (n - 3)) (fun s c => s.setCauses 1 c (s.causes 1 c ++ [.reload])) s else s
  else if 7 ≤ n ∧ n ≤ 10 then
    if s.cal.puDone && !(s.causes 3 (n - 7)).contains .calibrate then
      s.setCauses 3 (n - 7) (s.causes 3 (n - 7) ++ [.calibrate]) else s
  else if n = 11 then
    forAll ((List.range 192).filter (fun x => s.cellRuns (x / 4))) (fun s x =>
      (if (s.cell (x / 4)).closing.isSome then s else s.drive x).blank x (s.boundary (x / 4))) s
  else if n = 13 then forAll (List.range 6) (fun s x => s.unfenceReplies 2 x) s
  else if n = 14 then
    forAll ([0, 1].filter (fun x => !isFenced s.faults.stores x)) (fun s x =>
      (s.modStore x (fun d => { d with st := 1, used := false })).unfenceReplies 4 x) s
  else s

/-- A domain is reported good: its pairs are tested, those that fail raise source 115, and its islands reopen (R34,
R502). -/
def State.domainReturn (s : State) (n : Nat) (bad : List Nat) : State :=
  if !bit s.pdOn.toNat n || bit s.pdGood.toNat n then s
  else
    let good := fun (s : State) => { s with pdGood := s.pdGood ||| BitVec.ofNat 16 (2 ^ n) }
    let s := if n = 11 ∨ n = 12 then s.sensorEnds (List.range 384) good else good s
    let s := s.evDomain n true
    let s := forAll (bad.filter (fun p => pairDomain p == n)) (fun s p =>
      { s with faults := { s.faults with wires := p :: s.faults.wires } }.takeOcc 115 (BitVec.ofNat 32 p)) s
    (s.onEffect n).lateDone (fun on => on == .domain n)

end Sys2Proof.Machine
end

