-- ==== Sys2Proof/Machine/Commands.lean ====
section
/-! DEFINITION. The meanings of the host-port transactions, of command start, and of the system commands (R333 to R340,
R349, R363 to R367, R32, R33). -/

namespace Sys2Proof.Machine

/-- WRITE (R337). -/
def execWrite (t stated : Nat) (bytes : List Byte) (s : State) : Host.Outcome State Fault Refusal :=
  at_ t s (whenPort (fun s => (s.hostWrite stated bytes).shift s.statusWord))

/-- READ_REPLY (R338). -/
def execReadReply (t clocked : Nat) (ecc : List Ecc) (s : State) : Host.Outcome State Fault Refusal :=
  at_ t s (whenPort (fun s => s.hostReadReply clocked ecc))

/-- The bytes shown of an entry that is not clocked to its end, which stays in the queue (R339). -/
def State.peekEntry (s : State) (n : Nat) : List Byte :=
  let x := match s.evq.reading, s.evq.q with
    | x :: _, _ => x
    | [], e :: _ => e.words.headD 0
    | [], [] => s.evq.last
  (be 8 x.toNat).take n

/-- READ_EVENTS with n bytes clocked (R339, R405, R406). -/
def State.hostReadEvents (s : State) (n : Nat) (ecc : List Ecc) : State :=
  let w := s.statusWord
  let r := State.readEntries (n / 8) s ecc
  let s := forAll (List.range r.2.2) (fun s _ => s.report 96 0) r.1.updWm
  s.shift (w ++ r.2.1 ++ s.peekEntry (n % 8))

/-- READ_EVENTS (R339). DESIGN CHOICE, log entry 13. -/
def execReadEvents (t clocked : Nat) (ecc : List Ecc) (s : State) : Host.Outcome State Fault Refusal :=
  at_ t s (whenPort (fun s => s.hostReadEvents clocked ecc))

/-- STATUS (R336). -/
def execStatus (t : Nat) (s : State) : Host.Outcome State Fault Refusal := at_ t s (whenPort (fun s => s.shift s.statusWord))

/-- BAD_TRANSACTION_CODE (R335, R372): LAST is 3 and nothing else happens; a defined code is not this event. -/
def execBadTransactionCode (t code : Nat) (s : State) : Host.Outcome State Fault Refusal :=
  at_ t s (whenPort (fun s =>
    if 1 ≤ code ∧ code ≤ 4 then s
    else ((s.setLast 3).bump (pid 0x01 0 0x302) 16 15).shift s.statusWord))

/-- The next packet that can start does so (R363, R364). -/
def State.startNext (s : State) : State :=
  match pickPkt (s.cmds.waiting.filter s.ready) with
  | none => s
  | some p => { s with cmds := { s.cmds with waiting := s.cmds.waiting.erase p, started := s.cmds.started ++ [p] } }

/-- COMMAND_START (R363). No command starts during a resync's pause (R531). -/
def execCommandStart (t : Nat) (s : State) : Host.Outcome State Fault Refusal :=
  command t s (fun s => if s.core.st = .resync then s else s.startNext)

/-- NOP (R349). -/
def execNop (t : Nat) (h : Hdr) (s : State) : Host.Outcome State Fault Refusal := packet 0x0100 h t s (fun s => s.finish h 0x0100 stOk)

/-- A firmware slot: 0 A, 1 B. -/
def State.fw (s : State) (n : Nat) : FwSlot := if n = 0 then s.boot.slotA else s.boot.slotB

/-- A firmware slot changed. -/
def State.modFw (s : State) (n : Nat) (f : FwSlot → FwSlot) : State :=
  if n = 0 then { s with boot := { s.boot with slotA := f s.boot.slotA } }
  else { s with boot := { s.boot with slotB := f s.boot.slotB } }

/-- The part number in ASCII. -/
def partNumber : List Byte := [0x5A, 0x48, 0x33, 0x38, 0x34, 0, 0, 0]

/-- The reply data of IDENTIFY (R349); the ROM in recovery mode has no firmware version, so that word is given.
DEDUCED, log entry 108. -/
def State.identity (s : State) (version : Nat) : List Byte :=
  partNumber ++ be 1 (b2n s.ident.screenS) ++ be 1 s.ident.stepping ++ be 2 (s.net.id.getD 0xFFFF)
    ++ be 8 s.ident.eui ++ be 4 version ++ be 1 s.boot.active ++ zeros 7

/-- IDENTIFY (R349). DESIGN CHOICE, log entry 106. -/
def execIdentify (t : Nat) (h : Hdr) (s : State) : Host.Outcome State Fault Refusal :=
  packet 0x0101 h t s (fun s =>
    if s.boot.running < 2 then s.finish h 0x0101 stOk 0 (s.identity (s.fw s.boot.running).version.toNat)
    else
      let f := s.takeFree
      f.2.finish h 0x0101 stOk 0 (f.2.identity f.1.toNat))

/-- FENCE (R365): a fence waits in its first step until what is named has happened. -/
def State.openFence (s : State) (h : Hdr) (scope : Nat) : State :=
  let all := bit scope 3
  let cmd := all || bit scope 0
  let arr := ((s.cmds.started.find? (fun p => p.h == h)).map Pkt.arrival).getD s.cmds.arrivals
  let f : Fence := ⟨h, all || bit scope 1, all || bit scope 2, .cmd, arr, 0⟩
  let s := { s with cmds := { s.cmds with fences := s.cmds.fences ++ [f] } }
  if cmd then State.runFences s.cmds.fences.length s else s.fenceCfgStep f

/-- FENCE (R365). -/
def execFence (t : Nat) (h : Hdr) (scope : Nat) (s : State) : Host.Outcome State Fault Refusal :=
  packet 0x0102 h t s (fun s => if fld scope 0 4 = 0 then s.finish h 0x0102 stParamRange else s.openFence h scope)

/-- FENCE_CFG_MET (R366). -/
def execFenceCfgMet (t : Nat) (h : Hdr) (s : State) : Host.Outcome State Fault Refusal :=
  command t s (fun s =>
    match s.cmds.fences.find? (fun f => f.h == h && f.step == .cfg) with
    | some f => if s.cfgMet f then (fun s => State.runFences s.cmds.fences.length s) (s.fenceOutStep f) else s
    | none => s)

/-- FENCE_OUT_MET (R367). -/
def execFenceOutMet (t : Nat) (h : Hdr) (s : State) : Host.Outcome State Fault Refusal :=
  command t s (fun s =>
    match s.cmds.fences.find? (fun f => f.h == h && f.step == .out) with
    | some f => if s.outMet f then (fun s => State.runFences s.cmds.fences.length s) (s.fenceDone f) else s
    | none => s)

/-- The status of a PD_CTL, its parameters in their order (R32, R33, R356). -/
def State.pdCtlStatus (s : State) (domain action lanes : Nat) : Nat :=
  if domain < 1 ∨ 15 < domain ∨ 1 < action then stParamRange
  else if action = 0 ∧ domain = 1 then stDenied
  else if 63 < lanes ∨ (lanes ≠ 0 ∧ domain ≠ 13) then stParamRange
  else if action = 0 ∧ domain = 13 ∧ lanes = 0 ∧ s.switches ≠ 0 then stDenied
  else stOk

/-- Opens or closes lane switches (R33). -/
def State.laneSwitches (s : State) (on : Bool) (lanes : Nat) : State :=
  if on then
    forAll (bitsOf 6 lanes) (fun s p => s.unfenceReplies 2 p) { s with switches := s.switches ||| BitVec.ofNat 6 lanes }
  else forAll (bitsOf 6 lanes) (fun s p => (s.laneDown p).pairQuiet (48 + p))
    { s with switches := s.switches &&& ~~~ BitVec.ofNat 6 lanes }

/-- PD_CTL on a whole domain: it completes when the domain is settled off or on (R33, R349). -/
def State.pdSwitch (s : State) (h : Hdr) (domain action : Nat) : State :=
  let s := if action = 1 then s.domainOn domain else s.domainOff domain
  if action = 0 ∨ s.pd domain = true then s.finish h 0x0103 stOk else s.finishLate h 0x0103 (.domain domain)

/-- PD_CTL (R33). A lane switch settles at once. DESIGN CHOICE, log entry 126. -/
def execPdCtl (t : Nat) (h : Hdr) (domain action lanes : Nat) (s : State) : Host.Outcome State Fault Refusal :=
  packet 0x0103 h t s (fun s =>
    let st := s.pdCtlStatus domain action lanes
    if st ≠ stOk then s.finish h 0x0103 st
    else if lanes ≠ 0 then (s.laneSwitches (action == 1) lanes).finish h 0x0103 stOk
    else s.pdSwitch h domain action)

end Sys2Proof.Machine
end

