-- ==== Sys2Proof/Machine/Measure.lean ====
section
/-! DEFINITION. The reduction and measurement engine: accumulators, min/max trackers, spans and result entries (R165 to
R189). -/

namespace Sys2Proof.Machine

/-- The integer square root of n, built from bit k downwards on r. -/
def isqrtFrom : Nat → Nat → Nat → Nat
  | 0, n, r => if (r + 1) * (r + 1) ≤ n then r + 1 else r
  | k + 1, n, r => isqrtFrom k n (if (r + 2 ^ (k + 1)) * (r + 2 ^ (k + 1)) ≤ n then r + 2 ^ (k + 1) else r)

/-- The square root of p ÷ q rounded to the nearest integer, halves to even. -/
def sqrtRatio (p q : Nat) : Nat :=
  let f := isqrtFrom 63 (p / q) 0
  let h := q * (2 * f + 1) * (2 * f + 1)
  if 4 * p < h then f else if 4 * p = h ∧ f % 2 = 0 then f else f + 1

/-! Interval reductions. -/

/-- RED_CFG of a channel. -/
def State.redCfg (s : State) (ch : Nat) : Nat := s.cfgN 0x11 ch 0x060

/-- Whether a reduction is enabled: bit 0 the accumulators, bit 1 the min/max tracker. -/
def State.redEn (s : State) (ch k : Nat) : Bool := bit (s.redCfg ch) k

/-- Whether a value with these flags is admitted (R172). -/
def admitted (excl : Nat) (fl : BitVec 8) : Bool :=
  !hasFl fl flSettle && !hasFl fl (BitVec.ofNat 8 excl &&& ~~~ flSettle)

/-- A value that a reduction takes (R170, R172): the value, its flags at the places of the sample flags and its own flag byte,
or none where nothing was produced; its instant, the number of its slot, the gain in force, whether its slot lies in a gap and
whether it has a place in the grid of R174. -/
structure Entry where
  v : Option (Int × BitVec 8 × BitVec 8)
  t : Nat
  seq : Nat
  gain : Nat
  gap : Bool
  onGrid : Bool := true
  deriving DecidableEq, Repr

/-- The accumulators after a value, or after a slot that lies in a gap (R171, R173, R177). -/
def accStep (sh excl : Nat) (e : Entry) (a : Acc) : Acc :=
  let a := if a.slots = 0 then { a with t0 := e.t, seq0 := e.seq, gain := e.gain } else a
  let a := { a with slots := a.slots + 1, partSet := a.partSet || e.gap }
  match e.v with
  | none => { a with partSet := true }
  | some (x, fl, raw) =>
    let a := { a with flags := a.flags ||| raw, invalid := a.invalid || hasFl fl flSettle }
    if !admitted excl fl then { a with partSet := a.partSet || !hasFl fl flSettle }
    else
      let sum := a.sum + x
      let q := a.sumsq + (rne (x * x) (2 ^ sh)).toNat
      { a with
        count := a.count + 1
        sum := if a.satS then a.sum else clampI (-(2 ^ 63)) (2 ^ 63 - 1) sum
        sumsq := if a.satQ then a.sumsq else min (2 ^ 64 - 1) q
        satS := a.satS || decide (sum < -(2 ^ 63)) || decide (2 ^ 63 - 1 < sum)
        satQ := a.satQ || decide (2 ^ 64 - 1 < q) }

/-- The min/max tracker after a value or a slot in a gap (R171, R177). -/
def mmStep (excl : Nat) (e : Entry) (m : MinMax) : MinMax :=
  let m := if m.slots = 0 then { m with t0 := e.t, gain := e.gain } else m
  let m := { m with slots := m.slots + 1, partSet := m.partSet || e.gap }
  match e.v with
  | none => { m with partSet := true }
  | some (x, fl, raw) =>
    let m := { m with flags := m.flags ||| raw, invalid := m.invalid || hasFl fl flSettle }
    if !admitted excl fl then { m with partSet := m.partSet || !hasFl fl flSettle }
    else
      let lo := m.count == 0 || decide (x < m.min)
      let hi := m.count == 0 || decide (m.max < x)
      { m with
        count := m.count + 1
        min := if lo then x else m.min
        tMin := if lo then e.t else m.tMin
        max := if hi then x else m.max
        tMax := if hi then e.t else m.tMax }

/-- A channel's reductions take a value, or a slot in a gap; the first saturation of an interval raises an event (R171 to
R173). -/
def State.reduce (s : State) (ch : Nat) (e : Entry) : State :=
  let cfg := s.redCfg ch
  let old := (s.chan ch).acc
  let s := s.modChan ch (fun c => { c with
    gridSlot := c.gridSlot + b2n e.onGrid
    gridDue := e.onGrid
    acc := if bit cfg 0 then accStep (fld cfg 3 6) (fld cfg 16 8) e c.acc else c.acc
    mm := if bit cfg 1 then mmStep (fld cfg 16 8) e c.mm else c.mm })
  let new := (s.chan ch).acc
  if (old.satS || old.satQ) = false ∧ (new.satS || new.satQ) = true then
    s.raise 0x10 (satFields (pid 0x11 ch (if new.satS then 0x06E else 0x070)) 0)
  else s

/-- The reason bits of a closing interval beside those of its contents (R177). -/
structure Reason where
  split : Bool := false
  restart : Bool := false
  manual : Bool := false
  deriving DecidableEq, Repr

/-- The reason byte (R177). -/
def reasonByte (r : Reason) (invalid part sat coarse empty : Bool) : BitVec 8 :=
  BitVec.ofNat 8 (b2n invalid ||| b2n part <<< 1 ||| b2n r.split <<< 2 ||| b2n r.restart <<< 3 ||| b2n r.manual <<< 4
    ||| b2n sat <<< 5 ||| b2n coarse <<< 6 ||| b2n empty <<< 7)

/-- The reason byte of the running accumulators. -/
def State.accReason (s : State) (ch : Nat) (r : Reason) : BitVec 8 :=
  let a := (s.chan ch).acc
  reasonByte r a.invalid a.partSet (a.satS || a.satQ) (s.redEn ch 2) (a.count == 0)

/-- The reason byte of the running min/max tracker. -/
def State.mmReason (s : State) (ch : Nat) (r : Reason) : BitVec 8 :=
  let m := (s.chan ch).mm
  reasonByte r m.invalid m.partSet false (s.redEn ch 2) (m.count == 0)

/-- The interval's times as stamps. -/
def State.stampAcc (s : State) (a : Acc) : Acc := { a with t0 := s.stampOf a.t0 }

/-- The interval's times as stamps; with no value admitted the instants of minimum and maximum are 0 (R177). -/
def State.stampMm (s : State) (m : MinMax) : MinMax :=
  { m with
    t0 := s.stampOf m.t0
    tMin := if m.count = 0 then 0 else s.stampOf m.tMin
    tMax := if m.count = 0 then 0 else s.stampOf m.tMax }

/-- Closes the running accumulator interval, when it has a slot (R168, R174 to R178). -/
def State.closeAcc (s : State) (ch : Nat) (r : Reason) : State :=
  let c := s.chan ch
  if c.acc.slots = 0 then s
  else
    let why := s.accReason ch r
    let a := s.stampAcc c.acc
    let s := s.modChan ch (fun c => { c with
      acc := {}, accLast := some (a, why.toNat, fld (s.redCfg ch) 3 6), accNo := (c.accNo + 1) % 2 ^ 16 })
    s.streamEntry ch (.acc why a a.gain (fld (s.redCfg ch) 3 6))

/-- Closes the running min/max interval, when it has a slot (R168, R174 to R177, R179). -/
def State.closeMm (s : State) (ch : Nat) (r : Reason) : State :=
  let c := s.chan ch
  if c.mm.slots = 0 then s
  else
    let why := s.mmReason ch r
    let m := s.stampMm c.mm
    let s := s.modChan ch (fun c => { c with
      mm := {}, mmLast := some (m, why.toNat), mmNo := (c.mmNo + 1) % 2 ^ 16 })
    s.streamEntry ch (.mm why m m.gain)

/-- Closes both running intervals of a channel, accumulators first (R175, R176). -/
def State.closeBoth (s : State) (ch : Nat) (r : Reason) : State := (s.closeAcc ch r).closeMm ch r

/-- A gain change splits the intervals of a channel reduced from the fine path (R175). -/
def State.splitIntervals (s : State) (ch : Nat) : State :=
  if s.redEn ch 2 then s else s.closeBoth ch { split := true }

/-- A restart closes the intervals and counts the grid afresh; a RESYNC also clears the close numbers (R168, R175). -/
def State.restartIntervals (s : State) (ch : Nat) (resync : Bool) : State :=
  (s.closeBoth ch { restart := true }).modChan ch (fun c => { c with
    gridSlot := 0
    accNo := if resync then 0 else c.accNo
    mmNo := if resync then 0 else c.mmNo })

/-- A change of the reduction's configuration (R175). -/
def State.recfgIntervals (s : State) (ch : Nat) : State :=
  (s.closeBoth ch { manual := true }).modChan ch (fun c => { c with gridSlot := 0 })

/-- A 64-bit number's low and high word at two consecutive items. -/
def State.setStat2 (s : State) (id v : Nat) : State := (s.setStat id (v % 2 ^ 32)).setStat (id + 1) (v >>> 32 % 2 ^ 32)

/-- Writes the latched reduction items 0x068 to 0x07B, sh being the SQSHIFT of the values (R167, R169). -/
def State.latchReductions (s : State) (ch : Nat) (a : Acc) (ra : Nat) (m : MinMax) (rm sh : Nat) : State :=
  let p := fun k => pid 0x11 ch k
  let s := s.setStat (p 0x068) (ra ||| a.flags.toNat <<< 8 ||| rm <<< 16 ||| m.flags.toNat <<< 24)
  let s := s.setStat (p 0x069) 
    ((if a.slots ≠ 0 then a.gain else if m.slots ≠ 0 then m.gain else (s.chan ch).gain) ||| sh <<< 8)
  let s := s.setStat2 (p 0x06A) a.t0
  let s := s.setStat2 (p 0x06C) a.count
  let s := s.setStat2 (p 0x06E) (code 64 a.sum)
  let s := s.setStat2 (p 0x070) a.sumsq
  let s := (s.setStat (p 0x072) (code 32 m.min)).setStat (p 0x073) (code 32 m.max)
  let s := (s.setStat2 (p 0x074) m.tMin).setStat2 (p 0x076) m.tMax
  (s.setStat2 (p 0x078) m.count).setStat2 (p 0x07A) m.t0

/-! Span measurements. -/

/-- The mean of n numbers that add up to sum, times n, is kept as the pair; the crossing search works on n times the
values. One step of it: previous value, whether the signal has been beyond the band below and above, crossings so far,
and the rising instants in 2^-64 ps (R186). -/
structure Cross where
  prev : Option (Int × Nat) := none
  low : Bool := false
  high : Bool := false
  count : Nat := 0
  rising : List Int := []
  deriving DecidableEq, Repr

/-- The instant at which the line from (a, ta) to (b, tb) meets level l, in 2^-64 ps after t0. -/
def crossAt (t0 : Nat) (l a b : Int) (ta tb : Nat) : Int :=
  ((ta : Int) - t0) * 1000 * 2 ^ 64 + (l - a) * (((tb : Int) - ta) * 1000 * 2 ^ 64) / (b - a)

/-- One sample of the crossing search for level l with hysteresis h (R186). -/
def crossStep (t0 : Nat) (l h : Int) (c : Cross) (x : Int × Nat) : Cross :=
  let c' := match c.prev with
    | none => c
    | some (a, ta) =>
      if a < l ∧ l ≤ x.1 ∧ c.low then
        { c with low := false, high := false, count := c.count + 1, rising := c.rising ++ [crossAt t0 l a x.1 ta x.2] }
      else if l ≤ a ∧ x.1 < l ∧ c.high then { c with low := false, high := false, count := c.count + 1 }
      else c
  { c' with prev := some x, low := c'.low || decide (x.1 < l - h), high := c'.high || decide (l + h < x.1) }

/-- Numerator and denominator of the least-squares slope of ys against their index. -/
def slopeOf (ys : List Int) : Int × Int :=
  let n : Int := ys.length
  let idx := ys.zipIdx
  let si : Int := (idx.map (fun p => (p.2 : Int))).sum
  let sii : Int := (idx.map (fun p => (p.2 : Int) * p.2)).sum
  let sy : Int := ys.sum
  let siy : Int := (idx.map (fun p => (p.2 : Int) * p.1)).sum
  (n * siy - si * sy, n * sii - si * si)

/-- The results of a measured span; a field that was not measured or is invalid is none, and reason is the one of its
measurement. -/
structure Meas where
  mean : Option Int := none
  rms : Option Nat := none
  p2p : Option Nat := none
  amp : Option Nat := none
  period : Option Nat := none
  freq : Nat := 0
  cross : Option Nat := none
  settle : Option Nat := none
  perWhy : Nat := 0
  setWhy : Nat := 0
  deriving DecidableEq, Repr

/-- Settling time of a span with BAND, TAIL and HYST in U, or the reason for none (R186, R187). -/
def settleTime (xs : List (Int × Nat)) (band tail hyst : Nat) : Nat ⊕ Nat :=
  let n := xs.length
  let k := max 1 (n * tail / 100)
  let tl := xs.drop (n - k)
  let vf : Int := (tl.map Prod.fst).sum
  let v0 := (xs.headD (0, 0)).1
  let t0 := (xs.headD (0, 0)).2
  let dist := (vf - v0 * k).natAbs
  let inBand := fun (x : Int × Nat) => (x.1 * k - vf).natAbs * 10000 ≤ band * dist
  if 4096 < n then .inr 6
  else if dist < hyst * k then .inr 7
  else if !inBand (tl.headD (0, 0)) then .inr 8
  else
    let lastOut := xs.foldl (fun a x => if inBand x then a else x.2) t0
    .inl (lastOut - t0)

/-- Measures a span of samples in U with decimation factor d (R185, R186). -/
def measure (xs : List (Int × Nat)) (d : Nat) (levelX : Option Int) (hyst band tail : Nat) : Meas :=
  let vs := xs.map Prod.fst
  let n := vs.length
  let sum := vs.sum
  let sq := (vs.map (fun x => x.natAbs * x.natAbs)).sum
  let lo := vs.foldl min (vs.headD 0)
  let hi := vs.foldl max (vs.headD 0)
  let head := vs.take 4096
  let m : Int := head.length
  let t0 := (xs.headD (0, 0)).2
  let c := match levelX with
    | some l => xs.foldl (crossStep t0 l hyst) {}
    | none => (xs.map (fun (x : Int × Nat) => (x.1 * m, x.2))).foldl (crossStep t0 head.sum (hyst * m)) {}
  let sl := slopeOf c.rising
  let st := settleTime xs band tail hyst
  let few := c.rising.length < 4
  let above := 6400000 * sl.1 < (10 ^ 15 * 2 ^ 64 * d : Nat) * sl.2
  { mean := some (rne sum n)
    rms := some (sqrtRatio sq n)
    p2p := some (hi - lo).toNat
    amp := some (sqrtRatio (2 * (n * sq - sum.natAbs * sum.natAbs)) (n * n))
    period := if few || above then none else some (rne sl.1 (sl.2 * 2 ^ 64).toNat).toNat
    freq := if few || above then 0 else (rne (10 ^ 15 * 2 ^ 64 * sl.2) sl.1.toNat).toNat
    cross := some c.count
    settle := match st with
      | .inl x => some x
      | .inr _ => none
    perWhy := if few then 4 else if above then 5 else 0
    setWhy := match st with
      | .inl _ => 0
      | .inr w => w }

/-- Why every measurement of a span is invalid, 0 for none (R187). -/
def spanWhy (p : Span) (busy : Bool) : Nat :=
  if hasFl p.flags flSettle then 1 else if p.gap then 2 else if hasFl p.flags flClip then 3 else if busy then 9 else 0

/-- The measurements a span selects: MEAS_SEL, and period with a vibrating-wire span (R183). -/
def State.selected (s : State) (ch typ : Nat) : Nat := s.cfgF 0x11 ch 0x080 0 7 ||| (if typ = 2 then 1 <<< 4 else 0)

/-- The 96 bytes of a result entry in the byte order of e (R180, R188). -/
def resultBytes (e : Nat → Nat → List Byte) (typ ch gain : Nat) (flags : BitVec 8) (valid t0 n recNum : Nat) (m : Meas) (coil reason coilSt epoch : Nat) :
    List Byte :=
  e 1 3 ++ e 1 typ ++ e 2 ch ++ e 1 gain ++ e 1 flags.toNat ++ e 2 valid ++ e 8 t0 ++ e 4 n ++ e 4 recNum
    ++ e 8 (if bit valid 0 then code 64 (m.mean.getD 0) else 0) ++ e 8 (if bit valid 1 then m.rms.getD 0 else 0)
    ++ e 8 (if bit valid 2 then m.p2p.getD 0 else 0) ++ e 8 (if bit valid 3 then m.amp.getD 0 else 0)
    ++ e 4 (if bit valid 4 then m.freq else 0) ++ e 4 (if bit valid 5 then m.cross.getD 0 else 0)
    ++ e 8 (if bit valid 4 then m.period.getD 0 else 0) ++ e 8 (if bit valid 6 then m.settle.getD 0 else 0)
    ++ e 4 coil ++ e 1 reason ++ e 1 coilSt ++ e 2 epoch ++ zeros 8

/-- The result entry of a finished span in the byte order of e (R184 to R188). -/
def State.resultOf (s : State) (e : Nat → Nat → List Byte) (ch : Nat) (p : Span) (busy : Bool) (coil coilSt : Nat) : List Byte :=
  let sel := s.selected ch p.typ
  let lvl := if s.cfgB 0x11 ch 0x080 9 then some (signed 32 (s.cfgN 0x11 ch 0x081) * 128) else none
  let m := measure p.xs p.d lvl (s.cfgN 0x11 ch 0x082 * 128) (s.cfgF 0x11 ch 0x083 0 16) (s.cfgF 0x11 ch 0x083 16 7)
  let all := if p.xs.isEmpty && spanWhy p busy == 0 then 2 else spanWhy p busy
  let ok := fun (k : Nat) => bit sel k && all == 0 && (k != 4 || m.perWhy == 0) && (k != 6 || m.setWhy == 0)
  let valid := maskOf ((List.range 7).filter ok)
  let bad := (List.range 7).find? (fun k => bit sel k && !ok k)
  let why := match bad with
    | none => if busy then 9 else 0
    | some k => if all ≠ 0 then all else if k = 4 then m.perWhy else m.setWhy
  resultBytes e p.typ ch p.gain p.flags valid (s.stampOf p.t0) (p.n % 2 ^ 32) p.recNum m coil why coilSt p.epoch

/-- A result entry enters the channel's stream and LAST_MEAS, before what waits behind it (R183, R189). -/
def State.putResult (s : State) (ch : Nat) (b : List Byte) : State :=
  let s := forAll (List.range 24) (fun s k => s.setStat (pid 0x11 ch (0x090 + k)) (fle b (4 * k) 4)) s
  (s.entryNow ch (.meas b)).releaseBehind ch

/-- A span after one more slot of instant t, gain code g and decimation factor d: a sample with its value in U and its flags, and whether the slot
lies in a gap; a slot up to the span's start does not belong to it (R181, R185, R187, R188). -/
def spanStep (v : Option (Int × BitVec 8)) (gap : Bool) (t g d : Nat) (p : Span) : Span :=
  if p.ended || p.left == some 0 || decide (t ≤ p.since) then p
  else
    let p := if p.n = 0 then { p with t0 := t } else p
    let p := match v with
      | some (x, fl) => { p with xs := p.xs ++ [(x, t)], flags := p.flags ||| fl, gap := p.gap || gap }
      | none => { p with gap := true }
    { p with n := p.n + 1, left := p.left.map (· - 1), gain := g, d := d }

end Sys2Proof.Machine
end

