-- ==== Sys2Proof/Machine/TriggerOps.lean ====
section
/-! DEFINITION. Condition slots, coincidence groups, records and the pre-trigger ring (R198 to R224). -/

namespace Sys2Proof.Machine

/-! Condition slots. -/

/-- KIND of a slot. -/
def State.slotKind (s : State) (n : Nat) : Nat := s.cfgF 0x13 n 0 0 3

/-- A slot whose configuration was written starts afresh; a result it has sent stays on its way (R202). -/
def State.slotReset (s : State) (n : Nat) : State :=
  let k := s.slotKind n
  s.modSlot n (fun c => { st := if k = 0 then .off else if k = 3 ∨ k = 4 then .warming else .armed, results := c.results })

/-- What a value does to a slot: whether it is evaluated, meets the condition, and passes the re-arm test. -/
structure Verdict where
  eval : Bool
  met : Bool := false
  rearm : Bool := false
  deriving DecidableEq, Repr

/-- The condition and re-arm test of a LEVEL or BAND slot (R202). -/
def levelVerdict (kind : Nat) (sense : Bool) (a b h x : Int) : Verdict :=
  if kind = 1 then
    if sense then ⟨true, decide (x ≤ a), decide (a + h < x)⟩ else ⟨true, decide (a ≤ x), decide (x < a - h)⟩
  else
    if sense then ⟨true, decide (a ≤ x ∧ x ≤ b), decide (x < a - h ∨ b + h < x)⟩
    else ⟨true, decide (x < a ∨ b < x), decide (a + h ≤ x ∧ x ≤ b - h)⟩

/-- A slot with KIND, SENSE, level, hysteresis and K of SLOPE takes a value into its history (R202). -/
def slopeStep (sense : Bool) (a h : Int) (k : Nat) (x : Int) (c : Slot) : Slot × Verdict :=
  let hist := (x :: c.hist).take k
  match c.st with
  | .warming => ({ c with hist := hist, st := if hist.length = k then .armed else .warming }, ⟨false, false, false⟩)
  | _ =>
    let d := x - c.hist.getLastD x
    ({ c with hist := hist },
      if sense then ⟨true, decide (d ≤ -a), decide (-a + h < d)⟩ else ⟨true, decide (a ≤ d), decide (d < a - h)⟩)

/-- A STA/LTA slot with its shifts, ratios, lower limit, CF and FREEZE takes a value (R203). -/
def staStep (staSh ltaSh on off ltaMin : Nat) (cf freeze : Bool) (x : Int) (c : Slot) : Slot × Verdict :=
  match cf, c.xPrev with
  | true, none => ({ c with xPrev := some x }, ⟨false, false, false⟩)
  | _, _ =>
    let y : Int := (if cf then x - c.xPrev.getD 0 else x).natAbs * 65536
    let fresh := c.seen == 0 && c.st == .warming
    let sta := if fresh then y else c.sta
    let lta := if fresh then y else c.lta
    let sta := sta + (y - sta) / 2 ^ staSh
    let lta := if freeze && c.st == .met then lta else lta + (y - lta) / 2 ^ ltaSh
    let l := max lta (ltaMin * 65536)
    let c := { c with xPrev := some x, sta := sta, lta := lta, seen := c.seen + 1 }
    if c.st = .warming then
      ({ c with st := if c.seen = 2 ^ ltaSh then .armed else .warming }, ⟨false, false, false⟩)
    else (c, ⟨true, decide (on * l ≤ sta * 256), decide (sta * 256 ≤ off * l)⟩)

/-- The state machine of a slot on an evaluated value of instant t (R202). -/
def slotMove (need t : Nat) (v : Verdict) (c : Slot) : Slot :=
  if !v.eval then c
  else match c.st with
    | .armed =>
      if v.met then
        if need ≤ 1 then { c with hold := 1, trig := t, st := .met } else { c with hold := 1, trig := t, st := .counting }
      else c
    | .counting =>
      if v.met then { c with hold := c.hold + 1, st := if need ≤ c.hold + 1 then .met else .counting }
      else { c with hold := 0, st := .armed }
    | .met => if v.rearm then { c with st := .armed, hold := 0 } else c
    | _ => c

/-- Slot n becomes m after an evaluated value: entering MET counts and sends a result (R201, R202). -/
def State.slotMoved (s : State) (n : Nat) (m : Slot) : State :=
  if m.st = .met ∧ (s.slot n).st ≠ .met then
    (s.modSlot n (fun _ => { m with results := m.results ++ [m.trig] })).bump (pid 0x13 n 0x010) 16 16
  else s.modSlot n (fun _ => m)

/-- Slot n takes a value of its channel with its SETTLE mark; entering MET counts and makes a result (R201 to R203). -/
def State.slotValue (s : State) (n : Nat) (x : Int) (settle : Bool) (t : Nat) : State :=
  let cfg := s.cfgN 0x13 n 0
  let kind := fld cfg 0 3
  let c := s.slot n
  if settle && (3 ≤ kind || !bit cfg 10) then s.modSlot n (fun c => { c with skipped := true })
  else
    let c := if 3 ≤ kind && c.skipped then slotRestart kind c else c
    let c := { c with skipped := false }
    let a := signed 32 (s.cfgN 0x13 n 1)
    let h : Int := s.cfgN 0x13 n 3
    let r := if kind = 3 then slopeStep (bit cfg 9) a h (s.cfgF 0x13 n 4 0 8) x c
      else if kind = 4 then
        staStep (s.cfgF 0x13 n 5 0 4) (s.cfgF 0x13 n 5 8 5) (s.cfgF 0x13 n 5 16 16) (s.cfgF 0x13 n 6 0 16)
          (s.cfgN 0x13 n 7) (bit cfg 11) (bit cfg 12) x c
      else (c, levelVerdict kind (bit cfg 9) a (signed 32 (s.cfgN 0x13 n 2)) h x)
    s.slotMoved n (slotMove (fld cfg 16 8) t r.2 r.1)

/-- The slots of a channel with SOURCE fine or coarse take a value. -/
def State.slotValues (s : State) (ch : Nat) (fine : Bool) (x : Int) (settle : Bool) (t : Nat) : State :=
  forAll ((s.slotsOn ch).filter (fun n => s.cfgB 0x13 n 0 8 == fine)) (fun s n => s.slotValue n x settle t) s

/-- EXT slot n sees its selected edge or a message (mine), or the opposite edge, at instant t: each counts as an admitted value
(R202, R204). DEDUCED, log entry 100. -/
def State.extSee (s : State) (n t : Nat) (mine : Bool) : State :=
  s.slotMoved n (slotMove (s.cfgF 0x13 n 0 16 8) t ⟨true, mine, !mine⟩ (s.slot n))

/-- EXT slot n sees a network trigger message for instant t and re-arms at once (R204). -/
def State.extMessage (s : State) (n t : Nat) : State :=
  (s.extSee n t true).modSlot n (fun c => if c.st = .met then { c with st := .armed, hold := 0 } else c)

/-! The ring. -/

/-- The ring with its oldest samples gone beyond 8192 (R16, R213). -/
def ringTrim : Nat → List RingWord → List RingWord
  | 0, l => l
  | k + 1, l =>
    if (l.filter (fun w => w.cause == 0)).length ≤ 8192 then l else ringTrim k l.tail

/-- A slot enters the ring: a sample, or one more slot of a run that was not produced. -/
def ringPush (l : List RingWord) (w : RingWord) : List RingWord :=
  match l.getLast? with
  | some v =>
    if w.cause ≠ 0 ∧ v.cause = w.cause ∧ v.head = w.head then l.dropLast ++ [{ v with n := v.n + w.n }]
    else ringTrim 2 (l ++ [w])
  | none => [w]

/-- The output period of a slot's chain in ns. -/
def RingWord.period (w : RingWord) : Nat := w.head.d * basePeriod

/-- The slots of a ring word whose instants lie after lo and not after e, where there are any (R214). -/
def RingWord.window (lo e : Nat) (w : RingWord) : Option RingWord :=
  let per := max 1 w.period
  let first := if lo < w.t then 0 else (lo - w.t) / per + 1
  let past := if e < w.t then 0 else (e - w.t) / per + 1
  let stop := min w.n past
  if first < stop then some { w with seq := w.seq + first, t := w.t + first * per, n := stop - first } else none

/-- The instant of the next slot of a channel that has not been delivered. -/
def State.nextT (s : State) (ch : Nat) : Nat :=
  let c := s.chan ch
  (c.pend.head?.map Pend.t).getD (gridUp c.chain.org (max 1 (c.chain.d * basePeriod)) (max c.slotAt c.chain.start + 1))

/-! Records. -/

/-- The end instant of a record of POST p at trigger instant t; none until it is closed (R211, R214). -/
def endOf (t p : Nat) : Option Nat := if p = 0xFFFFFFFF then none else some (t + p * basePeriod)

/-- An instant that no slot reaches. -/
def never : Nat := 2 ^ 80

/-- The channels of a profile. -/
def State.profMembers (s : State) (p : Nat) : List Nat :=
  (List.range 384).filter (maskBit (fun k => s.cfgN 0x15 p (0x010 + k)))

/-- The value of a ring sample in U (R184). -/
def toU (x : Int) (gain : Nat) : Int := x * 2 ^ (7 - gain)

/-- The record block of a member takes a slot: a sample, or a run not produced; a sample that is not admitted is missing for
want of room, which the flag tells (R214, R217). -/
def State.recSlot (s : State) (k ch : Nat) (w : RingWord) : State × Bool :=
  match (tfind s.trig.recs k).bind (fun r => r.members.find? (fun m => m.ch == ch)) with
  | none => (s, false)
  | some m =>
    if w.cause ≠ 0 then (s.gapMember k m w.cause w.seq w.n w.t w.head, true)
    else if !s.admitRecord then (s.gapMember k m 4 w.seq 1 w.t w.head, true)
    else
      let s := s.endMemberGap k m
      let s := s.modRec k (modMember ch (fun m => { m with flags := m.flags ||| w.fl }))
      (s.putItem ch (some k) w.head w.seq w.t (.run w.seq [(w.w, w.fl)]), false)

/-- A span takes a ring word: a sample, or each slot of a run not produced (R181). -/
def spanWord (gap : Bool) (w : RingWord) (p : Span) : Span :=
  if w.cause ≠ 0 then (List.range w.n).foldl (fun p j => spanStep none true (w.t + j * w.period) w.gain w.head.d p) p
  else spanStep (some (toU w.x w.gain, w.fl)) gap w.t w.gain w.head.d p

/-- Whether a span is the record span of the record in slot k (R181). -/
def State.spanOfRec (s : State) (k : Nat) (p : Span) : Bool :=
  (tfind s.trig.recs k).any (fun r => r.num == p.recNum && r.epoch == p.epoch)

/-- The record span of a member of record slot k changed. -/
def State.modRecSpan (s : State) (k ch : Nat) (f : Span → Span) : State :=
  s.modChan ch (fun c => { c with recSpan := c.recSpan.map (fun p => if s.spanOfRec k p then f p else p) })

/-- A member that has delivered its last slot: its gap ends, its block closes and its span ends (R216, R228). -/
def State.memberDone (s : State) (k ch : Nat) : State :=
  match (tfind s.trig.recs k).bind (fun r => r.members.find? (fun m => m.ch == ch)) with
  | none => s
  | some m =>
    let s := s.endMemberGap k m
    let s := s.closeOpen ch (some k)
    let s := s.modRecSpan k ch (fun p => { p with left := some 0 })
    s.modRec k (fun r =>
      let r := modMember ch (fun m => { m with finished := true }) r
      { r with phase := if r.members.all Member.finished then 2 else r.phase })

/-- Member ch of record slot k takes those slots of a word of its chain that the record covers (R214). -/
def State.memberTake (s : State) (k ch : Nat) (w : RingWord) : State :=
  match (tfind s.trig.recs k).bind (fun r => r.members.find? (fun m => m.ch == ch)) with
  | none => s
  | some m =>
    match (if m.finished then none else w.window m.lo m.endAt) with
    | none => s
    | some w =>
      let r := s.recSlot k ch w
      r.1.modRecSpan k ch (spanWord r.2 w)

/-- Whether a member's record is over: its next slot lies beyond its end. DEDUCED, log entry 100. -/
def State.memberPast (s : State) (m : Member) : Bool := decide (m.endAt < s.nextT m.ch)

/-- A member of record slot k whose next slot lies beyond its end has delivered its last one (R216). -/
def State.memberCheck (s : State) (k ch : Nat) : State :=
  match (tfind s.trig.recs k).bind (fun r => r.members.find? (fun m => m.ch == ch)) with
  | none => s
  | some m => if !m.finished && s.memberPast m then s.memberDone k ch else s

/-- The base-rate boundary of a cell nearest to an instant: a network trigger's T on this hub's grid (R214). -/
def snap (o t : Nat) : Nat := if t ≤ o then o else o + (t - o + basePeriod / 2) / basePeriod * basePeriod

/-- The grids of the slots delivered, newest first, with one more slot of number q at instant t and period p (R224). -/
def addPiece (l : List (Nat × Nat × Nat)) (q t p : Nat) : List (Nat × Nat × Nat) :=
  match l with
  | x :: _ => if p = x.2.2 ∧ t = x.2.1 + (q - x.1) * p then l else (q, t, p) :: l
  | [] => [(q, t, p)]

/-- Number and instant of the first delivered slot after instant lo, from the grids, oldest first (R214, R224). -/
def slotAfter (lo : Nat) : List (Nat × Nat × Nat) → Option (Nat × Nat)
  | [] => none
  | (q, t, p) :: r =>
    let n := if lo < t then 0 else (lo - t) / p + 1
    match r with
    | [] => some (q + n, t + n * p)
    | x :: _ => if q + n < x.1 then some (q + n, t + n * p) else slotAfter lo r

/-- Number and instant of the first slot of a channel after instant lo, up to its next one. -/
def State.firstAfter (s : State) (ch lo : Nat) : Nat × Nat :=
  let c := s.chan ch
  let done := (c.ring.getLast?.map (fun w => w.t + (w.n - 1) * w.period)).getD 0
  let next := ((c.pend.find? (fun p => lo < p.t)).map (fun p => (p.seq, p.t))).getD (c.seq, s.nextT ch)
  if lo < done then (slotAfter lo c.pieces.reverse).getD next else next

/-- The slots of a channel after instant lo and up to e that its ring has overwritten: the number and the instant of the first of
them, and how many they are (R224). -/
def State.overwritten (s : State) (ch lo e : Nat) : Nat × Nat × Nat :=
  let a := s.firstAfter ch lo
  let held := ((s.chan ch).ring.head?.map RingWord.seq).getD a.1
  (a.1, a.2, min held (s.firstAfter ch e).1 - a.1)

/-- A new member of a record of PRE pre and end e, triggered at t, with its part of the ring: its first slot, and the slots that
the ring no longer holds (R214, R224). -/
def State.newMember (s : State) (ch t pre e : Nat) : Member × List RingWord :=
  let lo := t - pre * basePeriod
  let o := s.overwritten ch lo e
  (⟨ch, o.1, o.2.2, 0, 0, e, false, none, lo⟩, (s.chan ch).ring.filterMap (RingWord.window lo e))

/-- The results of a member's record span start, or are BUSY at once (R181, R182). -/
def State.startRecSpan (s : State) (k ch num epoch : Nat) : State :=
  if !s.cfgB 0x11 ch 0x080 8 then s
  else if (s.chan ch).recSpan.isSome then
    let b := s.resultOf le ch { typ := 1, t0 := s.now, xs := [], n := 0, left := none, flags := 0, gap := false, recNum := num, epoch := epoch, ended := true, gain := (s.chan ch).gain } true 0xFFFFFFFF 0
    (s.modRec k (fun r => { r with results := r.results ++ [(ch, b)] })).putResult ch b
  else s.modChan ch (fun c => { c with recSpan := some {
      typ := 1, t0 := s.now, xs := [], n := 0, left := none, flags := 0, gap := false, recNum := num, epoch := epoch
      ended := false, gain := c.gain } })

/-- The lowest free record slot (R215). -/
def State.freeRec (s : State) : Option Nat := (List.range 16).find? (fun k => (tfind s.trig.recs k).isNone)

/-- A missed trigger (R212): cause 1 FULL, 2 UNLOCKED, 3 ISLAND. -/
def State.missed (s : State) (cause profile ncode : Nat) : State :=
  (s.bump (pid 0x15 0x1FF 0) 0 32).raise 0x08 [(cause, 2), (profile, 4), (ncode, 16)]

/-- A block that is one item, an open block or a trailer, enters the hold store (R229, R230). -/
def State.putLone (s : State) (typ prof : Nat) (i : Item) : State :=
  let b : Blk := {
    typ := typ, ch := 0x1FF, fmt := 0, flags := false, ts := s.tstate, island := s.islandNo, d := 0, t0 := s.stamp
    seq0 := 0, items := [i], size := 0, opened := s.now, slot := none, profile := prof
    routes := BitVec.ofNat 8 (match i with
      | .openBlk r => r.routes
      | .trailer r => r.routes
      | _ => s.cfgN 0x15 prof 3)
    arch := s.arcProf prof, order := 0, epoch := 0, spilled := false }
  if s.admitOther (blkSize b) then s.enterBlk b else s

/-- What opens a record (R215, R222, R229). -/
structure Opening where
  origin : Nat
  t : Nat
  groups : BitVec 32 := 0
  primary : Nat := 0xFFFF
  causes : BitVec 512 := 0
  late : Bool := false
  bcast : Bool := false
  oHub : Nat := 0
  oEpoch : Nat := 0
  oNum : Nat := 0
  ncode : Nat := 0
  tStamp : Option Nat := none
  deriving DecidableEq, Repr

/-- The payload of a network trigger message (R221). -/
def State.netTrigOf (s : State) (r : Record) : NetTrig :=
  ⟨r.ncode, s.hubId, r.epoch, s.tstate, s.islandNo, r.num, r.pre, s.stampOf r.trig, s.stamp⟩

/-- The 32 bytes of a network trigger message (R221). -/
def netTrigBytes (m : NetTrig) : List Byte :=
  be 2 m.ncode ++ be 2 m.hub ++ be 2 m.epoch ++ be 1 m.state ++ be 1 m.island ++ be 4 m.number ++ be 4 m.pre
    ++ be 8 m.trig ++ be 8 m.decided

/-- Record numbers go on; the mark of R218 is written at each multiple of 2^20. -/
def State.nextRecNum (s : State) : State :=
  let n := (s.trig.nextNum + 1) % 2 ^ 32
  let e := if n = 0 then (s.trig.epoch + 1) % 2 ^ 16 else s.trig.epoch
  let s := { s with trig := { s.trig with nextNum := n, epoch := e } }
  if n % 2 ^ 20 = 0 then { s with boot := { s.boot with recMark := some (e, n) } } else s

/-- An edge of a line, seen at its pin or driven: its level, and the edge counted (R275). -/
def State.lineEdge (s : State) (line : Nat) (rising : Bool) : State :=
  let now := s.now
  (s.modLine line (fun l => { l with level := rising, edgeAt := now, riseAt := if rising then now else l.riseAt })).bump
    (pid 0x02 (0x200 + line) 2) 16 16

/-- A pulse on a line: of REIN_TRG when a record of a profile in REIN_PROF opens. Its intended instant lies COMP after the edge, which
comes at once (R274 to R276). DEDUCED, log entry 56. -/
def State.reinPulse (s : State) (line : Nat) : State :=
  let l := s.line line
  let free : Bool := match l.pulseEnd with
    | some e => decide (e + 10000 ≤ s.now)
    | none => true
  if s.cfgF 0x02 (0x200 + line) 0 0 2 == 2 && !l.fault && free then
    let now := s.now
    (if l.level then s else s.lineEdge line true).modLine line (fun l => { l with pulseEnd := some (now + 10000) })
  else s

/-- Record pulses on the lines whose FUNC is 2 and whose profiles name p. -/
def State.recordPulses (s : State) (p : Nat) : State :=
  forAll ([2, 3].filter (fun n => s.cfgF 0x02 (0x200 + n) 0 4 2 == 2 && s.cfgB 0x02 (0x200 + n) 1 p)) State.reinPulse s

/-- Takes record slot k for a record of profile p (R214 to R218, R221, R224, R229). -/
def State.fillRec (s : State) (k p : Nat) (o : Opening) : State :=
  let pre := s.cfgN 0x15 p 1
  let post := s.cfgN 0x15 p 2
  let chans := s.profMembers p
  let parts := chans.map (fun ch =>
    let t := snap (s.cell (cellOfCh ch)).origin o.t
    s.newMember ch t pre ((endOf t post).getD never))
  let own := o.origin ≠ 3
  let r : Record := {
    profile := p, origin := o.origin, epoch := s.trig.epoch, num := s.trig.nextNum, trig := o.t, taken := s.now
    endAt := endOf o.t post, phase := 0, closedBy := 1, retrig := 0, groups := o.groups, primary := o.primary
    causes := o.causes, late := o.late, bcast := o.bcast
    oHub := if own then s.hubId else o.oHub
    oEpoch := if own then s.trig.epoch else o.oEpoch
    oNum := if own then s.trig.nextNum else o.oNum
    ncode := if own then (if o.bcast then s.cfgF 0x15 p 0 16 16 else 0) else o.ncode
    decided := s.stamp, members := parts.map Prod.fst, results := []
    want := (chans.filter (fun ch => s.cfgB 0x11 ch 0x080 8)).length, tStamp := o.tStamp
    pre := pre, post := post, extend := s.cfgB 0x15 p 0 1, routes := s.cfgN 0x15 p 3 }
  let s := ({ s with trig := { s.trig with recs := tput s.trig.recs k r } }).nextRecNum
  let s := s.setCount (pid 0x15 (0x100 + k) 4) 16 0
  let s := s.putLone 0x12 p (.openBlk r)
  let s := if o.bcast then s.netBroadcast (netTrigBytes (s.netTrigOf r)) else s
  let s := s.recordPulses p
  let s := forAll chans (fun s ch => s.startRecSpan k ch r.num r.epoch) s
  let s := forAll parts (fun s x => (forAll x.2 (fun s w => s.memberTake k x.1.ch w) s).memberCheck k x.1.ch) s
  let s := s.modRec k (fun r => { r with phase := if r.phase = 0 then 1 else r.phase })
  let short := (parts.filter (fun x => x.1.shortfall != 0)).length
  if short = 0 then s else s.raise 0x09 [(r.epoch, 16), (r.num, 32), (short, 9)]

/-- The end of the record in slot k moves to e: members that were over take the slots from their old ends on out of their
rings; those that the ring has overwritten are missing for want of room (R214, R215, R217). DESIGN CHOICE, log entry 118. -/
def State.extendRec (s : State) (k e : Nat) (open_ : Bool) : State :=
  match tfind s.trig.recs k with
  | none => s
  | some r =>
    let s := s.modRec k (fun r => { r with
      endAt := if open_ then none else some e
      closedBy := 1
      members := r.members.map (fun m => { m with endAt := max m.endAt e, finished := false })
      phase := 1 })
    forAll (r.members.filter Member.finished) (fun s m =>
      let s := s.modRecSpan k m.ch (fun p => if p.ended then p else { p with left := none })
      let o := s.overwritten m.ch m.endAt e
      let s := if o.2.2 = 0 then s else s.gapMember k { m with gap := none } 4 o.1 o.2.2 o.2.1 (s.headNow m.ch)
      (forAll ((s.chan m.ch).ring.filterMap (RingWord.window m.endAt e)) (fun s w => s.memberTake k m.ch w) s).memberCheck k m.ch) s

/-- A trigger for profile p; the result names the record opened. Without PD2 nothing combines triggers (R31, R215).
DEDUCED, log entry 100. -/
def State.trigger (s : State) (p : Nat) (o : Opening) : State × Option Nat :=
  if !s.pd 2 then (s, none)
  else
    let same := (List.range 16).findSome? (fun k => (tfind s.trig.recs k).bind (fun r =>
      if r.profile = p ∧ r.origin ≠ 3 then some (k, r) else none))
    match (if o.origin = 3 then none else same) with
    | some (k, r) =>
      let s := s.bump (pid 0x15 (0x100 + k) 4) 16 16
      let s := s.modRec k (fun r => { r with retrig := min 0xFFFF (r.retrig + 1) })
      let e := endOf o.t r.post
      if r.extend ∧ r.endAt.getD never < e.getD never then (s.extendRec k (e.getD never) e.isNone, none) else (s, none)
    | none =>
      if !s.cfgB 0x15 p 0 0 then (s, none)
      else match s.freeRec with
      | some k => (s.fillRec k p o, some s.trig.nextNum)
      | none => (s.missed 1 p (if o.origin = 3 then o.ncode else 0), none)

/-! Coincidence groups. -/

/-- Whether slot n is a member of group g. -/
def State.inGroup (s : State) (g n : Nat) : Bool := maskBit (fun k => s.cfgN 0x14 g (0x010 + k)) n

/-- Group g sees a trigger event: its members' instants, and the group's T when it fires (R209). -/
def State.groupSee (s : State) (g : Nat) (slots : List Nat) (t : Nat) : State × Option Nat :=
  let cfg := s.cfgN 0x14 g 0
  let hits := slots.filter (s.inGroup g)
  if !bit cfg 0 || hits.isEmpty then (s, none)
  else
    let m := hits.foldl (fun m n => tput m n t) (tget [] s.trig.members g)
    let w := s.cfgN 0x14 g 1 * basePeriod
    let near := ((m.filter (fun x => s.inGroup g x.1)).map Prod.snd).filter (fun x => x ≤ t && t - x ≤ w)
    if fld cfg 8 10 ≤ near.length then
      (({ s with trig := { s.trig with members := tset [] s.trig.members g [] } }).bump (pid 0x14 g 2) 16 16,
        some (near.foldl min t))
    else ({ s with trig := { s.trig with members := tset [] s.trig.members g m } }, none)

/-- Every group sees a trigger event; the groups that fired with their T, in ascending order. -/
def State.groupsSee (s : State) (slots : List Nat) (t : Nat) : State × List (Nat × Nat) :=
  (List.range 32).foldl (fun a g =>
    let r := a.1.groupSee g slots t
    match r.2 with
    | some x => (r.1, a.2 ++ [(g, x)])
    | none => (r.1, a.2)) (s, [])

/-- Opens a record for each profile that the fired groups name, in ascending order; the records opened by profile (R210). -/
def State.openFired (s : State) (f : Forming) (fired : List (Nat × Nat)) : State × List (Nat × Nat) :=
  (List.range 16).foldl (fun a p =>
    let gs := fired.filter (fun x => a.1.cfgB 0x14 x.1 0 2 && a.1.cfgF 0x14 x.1 0 4 4 == p)
    match gs with
    | [] => a
    | _ :: _ =>
      let t := (gs.map Prod.snd).foldl min f.trig
      let bc := a.1.cfgB 0x15 p 0 2 && a.1.time.state != .unlocked
      let r := a.1.trigger p {
        origin := 1, t := t, groups := BitVec.ofNat 32 (maskOf (gs.map Prod.fst))
        primary := ((bitsOf 512 f.mask.toNat).headD 0), causes := f.mask, late := f.late, bcast := bc }
      match r.2 with
      | some n => (r.1, a.2 ++ [(p, n)])
      | none => (r.1, a.2)) (s, [])

/-- A trigger event is evaluated against the groups (R207 to R210). -/
def State.evalTrigger (s : State) (f : Forming) : State :=
  let slots := bitsOf 512 f.mask.toNat
  let g := s.groupsSee slots f.trig
  let s := if g.1.cfgB 0x15 0x1FF 3 0 then
      g.1.raise 0x06 [(slots.headD 0, 9), (slots.length, 10), (b2n f.late, 1), (g.2.length, 6)] else g.1
  let o := s.openFired f g.2
  forAll (g.2.filter (fun x => o.1.cfgB 0x14 x.1 0 1)) (fun s x =>
    let n := if s.cfgB 0x14 x.1 0 2 then (tfind o.2 (s.cfgF 0x14 x.1 0 4 4)).getD 0xFFFFFFFF else 0xFFFFFFFF
    s.raise 0x07 [(x.1, 5), (s.stampOf x.2 / basePeriod, 24), (n, 32)]) o.1

end Sys2Proof.Machine
end

