-- ==== Sys2Proof/Machine/CalOps.lean ====
section
/-! DEFINITION. The shared operations of calibration: converters and their trims, natural gaps, temporary carry on SP,
requests in progress and their ends (R280 to R296, R104, R116). -/

namespace Sys2Proof.Machine

/-- The key of converter k of a cell; converter 8 is SP (R280). -/
def convKey (cell k : Nat) : Nat := 9 * cell + k

/-- The trims of a converter. -/
def State.trims (s : State) (key : Nat) : Trims := tget {} s.cal.convs key

/-- The trims of a converter changed. -/
def State.modTrims (s : State) (key : Nat) (f : Trims → Trims) : State :=
  { s with cal := { s.cal with convs := tmod {} s.cal.convs key f } }

/-- The trim of a source. -/
def State.srcTrim (s : State) (n : Nat) : Trim1 := tget {} s.cal.srcs n

/-- The trim of a source changed. -/
def State.modSrcTrim (s : State) (n : Nat) (f : Trim1 → Trim1) : State :=
  { s with cal := { s.cal with srcs := tmod {} s.cal.srcs n f } }

/-- The trim of an amplifier, numbered cell × 2 + amplifier. -/
def State.ampTrim (s : State) (n : Nat) : Trim1 := tget {} s.cal.amps n

/-- The trim of an amplifier changed. -/
def State.modAmpTrim (s : State) (n : Nat) (f : Trim1 → Trim1) : State :=
  { s with cal := { s.cal with amps := tmod {} s.cal.amps n f } }

/-- The converter that carries a channel (R280). -/
def State.carrier (s : State) (ch : Nat) : Nat :=
  convKey (cellOfCh ch) (convNum ch (s.chan ch).conv)

/-- Whether a profile with EN set has the channel as a member. -/
def State.inProfile (s : State) (ch : Nat) : Bool :=
  (List.range 16).any (fun p => s.cfgB 0x15 p 0 0 && maskBit (fun k => s.cfgN 0x15 p (0x010 + k)) ch)

/-- Whether a channel is idle and offers a natural gap; in HELD every channel is idle (R287, R392). -/
def State.natIdle (s : State) (ch : Nat) : Bool :=
  !s.running || (!s.streams ch && !s.inProfile ch && (s.slotsOn ch).isEmpty && !s.redEn ch 0 && !s.redEn ch 1
    && (s.chan ch).span.isNone && (s.chan ch).recSpan.isNone && !s.isAlarm ch)

/-- Whether a channel may pause (R310). -/
def State.mayPause (s : State) (ch : Nat) : Bool := s.cfgB 0x16 (0x400 + ch) 0 0

/-- The cell of a calibration target by KIND (R310); kind 9 stands for a MOD_CHECK of a channel's modulator. -/
def calCell (kind target : Nat) : Nat :=
  match kind with
  | 1 => target / 8
  | 3 => target / 4
  | 4 => target / 2
  | 9 => target / 8
  | _ => target

/-- A natural gap opens on a channel, whose inputs change (R287). -/
def State.gapOpen (s : State) (ch : Nat) : State :=
  (s.modCell (cellOfCh ch) (fun c => { c with bgCh := some ch })).inputChange ch (s.boundary (cellOfCh ch))

/-- The natural gap of a cell closes at boundary e: its channel returns to its sensor (R287). -/
def State.gapCloseAt (s : State) (cell e : Nat) : State :=
  match (s.cell cell).bgCh with
  | none => s
  | some ch => (s.modCell cell (fun c => { c with bgCh := none, bgDrop := none })).inputChange ch e

/-- The natural gap of a cell closes: its channel returns to its sensor (R287). -/
def State.gapClose (s : State) (cell : Nat) : State := s.gapCloseAt cell (s.boundary cell)

/-- A warm takeover of a channel by SP starts at the next base-rate boundary (R107). Until the seam of one for retirement
SP_STATE's use reads 0: the codes have none for it. DESIGN CHOICE, log entry 118. -/
def State.startTakeover (s : State) (perm : Bool) (ch : Nat) : State :=
  let cell := cellOfCh ch
  let b := s.boundary cell
  (s.modCell cell (fun d => { d with
    spUse := if perm then d.spUse else .temp
    spCh := ch % 8
    spGain := (s.chan ch).gain
    seam := .takeover perm ch b false })).convStart ch true

/-- A warm handback of a channel to its own modulator starts at the next base-rate boundary (R107). -/
def State.startHandback (s : State) (perm : Bool) (ch : Nat) : State :=
  let cell := cellOfCh ch
  let b := s.boundary cell
  (s.modCell cell (fun d => { d with seam := .handback perm ch b false })).convStart ch false

/-- Whether a cell is busy with a converter: a natural gap open or SP in temporary carry. -/
def State.calBusy (s : State) (cell : Nat) : Bool := (s.cell cell).bgCh.isSome || (s.cell cell).spUse == .temp

/-- Whether the calibration or MOD_CHECK of a channel's own modulator can start now (R286, R116). -/
def State.calStartable (s : State) (ch : Nat) : Bool :=
  !s.cellFenced (cellOfCh ch) && (s.chan ch).conv == .own && !s.isRetired (cellOfCh ch) (ch % 8)
    && (s.chan ch).pausedFrom.isNone && (s.natIdle ch || s.spFree (cellOfCh ch))

/-- Starts the next queued calibration of a cell's own modulators that can start: by natural gap, else by SP (R286).
DEDUCED, log entry 24. -/
def State.calKick (s : State) (cell : Nat) : State :=
  if s.cellFenced cell || s.calBusy cell then s
  else
    match s.cal.queue.find? (fun q => (q.1 == 1 || q.1 == 9) && q.2 / 8 == cell && s.calStartable q.2) with
    | none => s
    | some q => if s.natIdle q.2 then s.gapOpen q.2 else s.startTakeover false q.2

/-- A cell starts again after a fence, and the calibrations and tests held for it are served (R116, R291, R520). -/
def State.returnCell (s : State) (cell : Nat) : State := (s.rejoinCell cell).calKick cell

/-- A request for a calibration leaves the queue; its final reply carries OK and the result code, and so does that of the
whole cell once nothing of it is left (R291, R349). -/
def State.calDone (s : State) (kind target res : Nat) : State :=
  let s := { s with cal := { s.cal with queue := s.cal.queue.erase (kind, target) } }
  let s := s.finalReply (.cal kind target) stOk 0 (be 1 res)
  let cell := calCell kind target
  if kind ≠ 5 ∧ s.cal.queue.all (fun q => q.1 == 5 || calCell q.1 q.2 != cell) then
    s.finalReply (.cal 6 cell) stOk 0 (be 1 res)
  else s

/-- What was calibrated or checked on a channel's own modulator is abandoned with result code res; a MOD_CHECK has no
outcome and fails with DENIED (R289, R116). -/
def State.calDrop (s : State) (ch res : Nat) : State :=
  match s.cal.queue.find? (fun q => (q.1 == 1 || q.1 == 9) && q.2 == ch) with
  | none => s
  | some q =>
    if q.1 = 1 then (s.modTrims (convKey (cellOfCh ch) (ch % 8)) (fun c => { c with result := res })).calDone 1 ch res
    else ({ s with cal := { s.cal with queue := s.cal.queue.erase q } }).finalReply (.test 1 ch) stDenied

/-- What is calibrated in a channel's natural gap is abandoned at once, with result code 4 (R116, R289). -/
def State.dropGap (s : State) (ch : Nat) : State :=
  let cell := cellOfCh ch
  if (s.cell cell).bgCh = some ch then (s.gapClose cell).calDrop ch 4 else s

/-- The calibration in a channel's natural gap is abandoned for acquisition at the next base-rate boundary (R289). -/
def State.abandonGap (s : State) (ch : Nat) : State :=
  let cell := cellOfCh ch
  let b := s.boundary cell
  if (s.cell cell).bgCh = some ch ∧ (s.cell cell).bgDrop = none then s.modCell cell (fun c => { c with bgDrop := some b }) else s

/-- The natural gap of a cell whose boundary of abandonment has come is closed there, with result code 4, and what waits for
the cell's converters is served (R289, R291). -/
def State.gapDue (s : State) (cell : Nat) : State :=
  match (s.cell cell).bgDrop, (s.cell cell).bgCh with
  | some e, some ch => if e ≤ s.now then ((s.gapCloseAt cell e).calDrop ch 4).calKick cell else s
  | _, _ => s

/-- Natural gaps on channels that are no longer idle are abandoned (R289). -/
def State.abandonBusyGaps (s : State) : State :=
  forAll ((List.range 48).filter (fun c => (s.cell c).bgCh.isSome)) (fun s c =>
    match (s.cell c).bgCh with
    | some ch => if s.natIdle ch then s else s.abandonGap ch
    | none => s) s

/-- What is calibrated in natural gaps on channels that are no longer idle is abandoned at once (R289). -/
def State.dropBusyGaps (s : State) : State :=
  forAll ((List.range 48).filterMap (fun c => (s.cell c).bgCh)) (fun s ch => if s.natIdle ch then s else s.dropGap ch) s

/-- New trims of a converter wait for their base-rate boundary (R292, R293). -/
def State.offerTrims (s : State) (key : Nat) (ofs gain : List Int) : State :=
  s.modTrims key (fun c => { c with pending := some (ofs, gain) })

/-- The channel that a converter carries (R280). -/
def State.channelOf (s : State) (cell k : Nat) : Option Nat :=
  if k < 8 then
    if (s.chan (8 * cell + k)).conv = .own then some (8 * cell + k) else none
  else (chansOf cell).find? (fun ch => carried (s.chan ch).conv)

/-- Whether converter k of a cell is inside a matching overlap, up to its seam and the boundary of that, which defers its trim
change (R293). -/
def State.inOverlap (s : State) (cell k : Nat) : Bool :=
  let since := fun (ch b : Nat) => (k == 8 || k == ch % 8) && decide (b + 64 * basePeriod ≤ s.now)
  (match (s.cell cell).seam with
  | .none_ => false
  | .seamless _ ch _ b => since ch b
  | .takeover _ ch c _ => since ch c
  | .handback _ ch c _ => since ch c)
    || (s.cell cell).seamed.any (fun (p : Nat × Nat) => p.1 == s.now && (k == 8 || k == p.2 % 8))

/-- The codes of a source or an amplifier in force at an instant (R292). -/
def Trim1.codesAt (x : Trim1) (now : Nat) : List Int :=
  match x.next with
  | some (e, l) => if e ≤ now then l else x.codes
  | none => x.codes

/-- The codes of a source or an amplifier that were accepted last (R295). -/
def Trim1.accepted (x : Trim1) : List Int := (x.next.map Prod.snd).getD x.codes

/-- New codes of a source or an amplifier take effect at boundary e (R292). -/
def Trim1.take (x : Trim1) (now e : Nat) (l : List Int) : Trim1 :=
  { codes := x.codesAt now, next := some (e, l), result := 1 }

/-- The fence of a channel by an offline test begins at the next base-rate boundary: what SP carries of the channel for the time
being ends, and a retirement or release waits for its return (R308). -/
def State.pauseChan (s : State) (ch : Nat) : State :=
  let cell := cellOfCh ch
  let e := s.boundary cell
  let c := s.cell cell
  let mine : Bool := c.spCh == ch % 8
  let s := s.dropGap ch
  let s := if c.spUse = .temp ∧ mine = true then (s.calDrop ch 4).spIdle cell
    else if c.spUse = .seamless ∧ mine = true then s.spIdle cell
    else if c.seam.names ch then s.modCell cell (fun d => { d with seam := d.seam.again 0 })
    else s
  s.modChan ch (fun c => { c with pausedFrom := some e })

end Sys2Proof.Machine
end

