-- ==== Sys2Proof/Machine/Checks.lean ====
section
/-! DEFINITION. The checks of a write to one item, and the form of a command that writes one item (R350, R356, R393). -/

namespace Sys2Proof.Machine

/-- The blocks that HELD closes to writes (R393). -/
def heldBlock (b : Nat) : Bool := b == 6 || b == 7 || (0x10 ≤ b && b ≤ 0x17)

/-- The status of writing v to an item, its own fields considered (R350, R393). DEDUCED, log entry 73. -/
def State.itemStatus (s : State) (id v : Nat) : Nat :=
  match descOf id with
  | none => stParamRange
  | some d =>
    if heldBlock (pidBlock id) && !s.running then stNotCommitted
    else if d.acc = .ro then stDenied
    else if fieldsOk d v then stOk
    else stParamRange

/-- A command that writes v to the command item id alone: check is the item's own check and f its effect; the answer is
that of WRITE_PARAM (R350, R362). DEDUCED, log entry 73. -/
def itemCommand (id v : Nat) (h : Hdr) (t : Nat) (s : State) (check : State → Nat) (f : State → State) :
    Host.Outcome State Fault Refusal :=
  packet opWriteParam h t s (fun s =>
    if s.itemStatus id v ≠ stOk then s.finish h opWriteParam (s.itemStatus id v)
    else if check s ≠ stOk then s.finish h opWriteParam (check s)
    else (f s).finish h opWriteParam stOk)

/-- A command item with no check of its own. -/
def noCheck (_ : State) : Nat := stOk

end Sys2Proof.Machine
end

