-- ==== Sys2Proof/Machine/FrontEnd.lean ====
section
/-! DEFINITION. The meanings of the front end's events: writes taking effect in a cell, crosspoints, crossings whose
patience runs out, tap excursions, source monitoring, charge-amplifier resets, gain changes and the spare modulator (R21 to
R23, R28, R42, R48, R62 to R68, R86 to R90, R93 to R116). -/

namespace Sys2Proof.Machine

/-! Writes taking effect. -/

/-- The sources whose drive or return a route word's NODE names, by number within the cell (R44). -/
def nodeSource (word : Nat) : List Nat :=
  let n := fld word 0 4
  if 1 ≤ n ∧ n ≤ 4 then [n - 1] else if 5 ≤ n ∧ n ≤ 8 then [n - 5] else []

/-- The channels that a source serves (R45). -/
def State.servedBy (s : State) (n : Nat) : List Nat :=
  (chansOf (n / 4)).filter (fun ch => bit (s.effF 0x11 ch 0x020 10 4) (n % 4))

/-- A source's MODE, RANGE, SETTING or route changed at boundary e: its evaluation is blanked and the channels it serves see
a source change (R49, R63). DEDUCED, log entry 104. -/
def State.sourceChange (s : State) (n e : Nat) : State :=
  forAll (s.servedBy n) (fun s ch => s.sourceShift ch e) (s.blank n e)

/-- A source's FREQ changed at boundary e from old: its phase accumulator goes on at the new rate, and the channels it serves
see a source change (R49, R58). DEDUCED, log entry 104. -/
def State.freqChange (s : State) (n old e : Nat) : State :=
  let s := s.modSrc n (fun c => { c with phase := phaseAt c.phase c.phaseAt old e, phaseAt := e })
  forAll (s.servedBy n) (fun s ch => s.sourceShift ch e) s

/-- The channel that a charge amplifier feeds while its SRC is 1 (R45). -/
def State.qaChannel (s : State) (cell qa : Nat) : List Nat :=
  [8 * cell + 6 + qa].filter (fun ch => s.effF 0x11 ch 0x020 8 2 == 1)

/-- What a channel's input word selects: PTAP and NTAP count only with SRC 0 (R45). -/
def inputsOf (w : Nat) : Nat := if fld w 8 2 = 0 then fld w 0 10 else fld w 8 2 <<< 8

/-- A tap's route word changes at boundary e; a change of BIAS alone changes no input (R48, R49, R63, R90).
DESIGN CHOICE, log entry 118. -/
def State.routeEffect (s : State) (cell old new e : Nat) : State :=
  if fld old 0 4 = fld new 0 4 then s
  else
    let s := forAll (nodeSource old ++ nodeSource new) (fun s k => s.sourceChange (4 * cell + k) e) s
    let qs := [fld old 0 4, fld new 0 4].filter (fun n => n == 0xB || n == 0xC)
    forAll (qs.flatMap (fun n => s.qaChannel cell (n - 0xB))) (fun s ch => s.inputChange ch e) s

/-- A running channel takes its selected gait at its first output boundary at or after e (GAIT_CHANGE); one that does not run takes it when it
returns (R134, R156). -/
def State.gaitEffect (s : State) (ch g e : Nat) : State :=
  s.modChan ch (fun c => { c with gaitPend := if s.chanRuns ch then some (g, e) else none })

/-- A channel is to stay on the gait it has: a change to another one no longer waits, but one of that gait's own does (R134,
R156). -/
def State.keepGait (s : State) (ch e : Nat) : State :=
  s.modChan ch (fun c =>
    let g := c.gait
    let new : Bool := s.cfgN 0x12 g 0 != c.d || s.cfgB 0x12 g 2 0 != c.chain.lock
      || gdelayOf c.d (s.activeBank g) != c.chain.gd
    { c with gaitPend := if new then some (g, ((c.gaitPend.filter (fun p => p.1 == g)).map Prod.snd).getD e) else none })

/-- The output-boundary changes that a channel waits for: 0x051, 0x052 and, of its gait, 0x1201 for HP and 0x1202 for REFWAVE;
at output boundary u those due by then take effect, a phase delay on what passes the delay line from then on (R146, R156, R159,
R162). DESIGN CHOICE, log entry 118. -/
def State.dueEffect (s : State) (ch u : Nat) (k : Nat) : State :=
  let c := s.chan ch
  let new := s.freshChain ch u
  let put := fun (f : Chain → Chain) => s.modChan ch (fun c => { c with chain := f c.chain })
  match k with
  | 0x051 => (put (fun c => { c with delay := new.delay, fine := new.fine })).openSettle ch u
  | 0x052 => whenB c.chain.lock (·.openSettle ch u) (put (fun c => { c with ref := new.ref }))
  | 0x1201 => put (fun c => { c with past := c.past ++ [(u, c.filt)], filt := new.filt })
  | _ => whenB c.chain.lock (·.openSettle ch u) (put (fun c => { c with square := new.square }))

/-- The changes of a channel that wait for an output boundary and are due at u take effect (R146, R156). -/
def State.dueEffects (s : State) (ch u : Nat) : State :=
  let l := (s.chan ch).due.filter (fun x => x.1 ≤ u)
  forAll l (fun s x => s.dueEffect ch u x.2) (s.modChan ch (fun c => { c with due := c.due.filter (fun x => u < x.1) }))

/-- Whether instant u is an output-sample boundary of a channel. -/
def State.outAt (s : State) (ch u : Nat) : Bool :=
  let c := (s.chan ch).chain
  onGrid c.org (c.d * basePeriod) u

/-- A change of a channel waits for the first output boundary at or after b; where that has been passed already it takes effect
there (R146, R156). DEDUCED, log entry 116. -/
def State.atOutput (s : State) (ch b k : Nat) : State :=
  let s := s.modChan ch (fun c => { c with due := c.due ++ [(b, k)] })
  if s.outAt ch b && decide (b ≤ (s.chan ch).fedAt) then s.dueEffects ch b else s

/-- A change of one of a channel's own items takes effect at boundary e (R28, R94, R146, R156). -/
def State.channelEffect (s : State) (n k old new e : Nat) : State :=
  match k with
  | 0x020 =>
    if inputsOf old ≠ inputsOf new then s.inputChange n e
    else if fld old 10 4 ≠ fld new 10 4 then s.sourceShift n e
    else s
  | 0x040 => (s.takeGain n (fld new 0 3)).calKick (cellOfCh n)
  | 0x050 =>
    if fld new 0 3 = (s.chan n).gait then s.keepGait n e
    else s.gaitEffect n (fld new 0 3) e
  | _ => if old ≠ new ∧ (k = 0x051 ∨ k = 0x052) then s.atOutput n e k else s

/-- A source skips DRIFT: what it gathered for it is gone (R64). -/
def State.noDrift (s : State) (n : Nat) : State := s.modSrc n (fun c => { c with driftC := {}, means := [] })

/-- The effect in the cell, at boundary e, of an item that went from old to new (R28, R48, R49, R52, R63, R64, R91, R94, R146,
R156). DEDUCED, log entry 110. -/
def State.itemEffect (s : State) (cell id old new e : Nat) : State :=
  let k := pidItem id
  let n := pidInst id
  match pidBlock id with
  | 0x10 =>
    if 0x100 ≤ k ∧ k ≤ 0x10B then s.routeEffect cell old new e
    else if k = 0x110 then s.driveGuard cell
    else if (k = 0x130 ∨ k = 0x131) ∧ fld old 0 4 ≠ fld new 0 4 then
      forAll (s.qaChannel cell (k - 0x130)) (fun s ch => s.inputChange ch e) s
    else s
  | 0x11 => s.channelEffect n k old new e
  | 0x17 => if old = new then s else if k ≤ 1 then s.sourceChange n e else if k = 2 then s.freqChange n old e
    else if (k = 0x010 ∧ new = 0) ∨ (k = 0x014 ∧ fld new 0 20 = 0) then s.noDrift n else s
  | _ => s

/-- The changes that the writes issued to a cell before now make: item, value in force and value accepted last. -/
def State.dueWrites (s : State) (cell : Nat) : List (Nat × Nat × Nat) :=
  let due := s.cmds.issued.filter (fun w => w.cell == cell && w.t < s.now)
  ((due.map (fun w => w.id.toNat)).eraseDups).map (fun id => (id, s.effAt id, s.cfgAt id))

/-- The writes issued to a cell before now are no longer on their way, nor are those to a gait whose boundaries have passed
(R366). -/
def State.takeIssued (s : State) (cell : Nat) : State :=
  { s with cmds := { s.cmds with
      issued := s.cmds.issued.filter (fun w => (w.cell != cell || s.now ≤ w.t) && s.stillIssued w) } }

/-- Whether an item belongs to the matrix or to a source, so that crosspoints close 250 ns after the boundary (R48). -/
def matrixItem (id : Nat) : Bool :=
  let k := pidItem id
  match pidBlock id with
  | 0x10 => 0x100 ≤ k && k ≤ 0x10B
  | 0x11 => k == 0x020
  | 0x17 => k ≤ 1
  | _ => false

/-- Step 1 of a reading that was asked for begins now, at a base-rate boundary: the channel's inputs open, the source goes to
100 uA, and evaluation starts after the blanking time (R73). DEDUCED, log entry 26. -/
def State.vwBegin (s : State) (src : Nat) : State :=
  let now := s.now
  let ch := (s.src src).vwCh
  let s := s.modSrc src (fun c => { c with vw := .resistance, vwSince := now })
  ((s.openPoints (src / 4) now).blank src now).inputChange ch now

/-- The sources of a cell whose reading was asked for and begins now. -/
def State.vwAsked (s : State) (cell : Nat) : List Nat :=
  (srcsOf cell).filter (fun n => (s.src n).vw == .asked && decide ((s.src n).vwSince ≤ s.now))

/-- CELL_WRITE_EFFECT (R28, R73). -/
def execCellWriteEffect (t cell : Nat) (s : State) : Host.Outcome State Fault Refusal :=
  onUnit .cell cell t s (fun s =>
    if !s.cellRuns cell || !onGrid (s.cell cell).origin basePeriod s.now then s
    else
      let ws := s.dueWrites cell
      s.withStatus cell (fun s =>
        let s := s.takeIssued cell
        let s := forAll ws (fun s w => s.itemEffect cell w.1 w.2.1 w.2.2 s.now) s
        let s := if ws.any (fun w => matrixItem w.1) then s.openPoints cell s.now else s
        forAll (s.vwAsked cell) State.vwBegin s))

/-- CROSSPOINT_CLOSE (R48). -/
def execCrosspointClose (t cell : Nat) (s : State) : Host.Outcome State Fault Refusal :=
  onUnit .cell cell t s (fun s =>
    match (s.cell cell).closing with
    | some e => if e ≤ s.now then s.closePoints cell else s
    | none => s)

/-! Tap excursions. -/

/-- TAP_EXCURSION_START (R42). -/
def execTapExcursionStart (t cell tap : Nat) (s : State) : Host.Outcome State Fault Refusal :=
  onUnits .cell cell .tap tap t s (fun s =>
    if !s.cellRuns cell || bit (s.cell cell).excursions.toNat tap then s
    else
      (s.modCell cell (fun c => { c with excursions := c.excursions ||| BitVec.ofNat 12 (2 ^ tap) })).raise 0x02
        [(cell, 6), (tap, 4)])

/-- TAP_EXCURSION_END (R42). -/
def execTapExcursionEnd (t cell tap : Nat) (s : State) : Host.Outcome State Fault Refusal :=
  onUnits .cell cell .tap tap t s (fun s =>
    s.sensorEnds (chansOf cell) (fun s =>
      s.modCell cell (fun c => { c with excursions := c.excursions &&& ~~~ BitVec.ofNat 12 (2 ^ tap) })))

/-! Source monitoring. -/

/-- A debounced condition after one evaluation: set after up of them, cleared after down without it (R64). -/
def debStep (up down : Nat) (c : Bool) (d : Deb) : Deb :=
  if c then
    let n := d.up + 1
    { on := d.on || decide (up ≤ n), up := n, down := 0 }
  else
    let n := d.down + 1
    { on := d.on && decide (n < down), up := 0, down := n }

/-- Whether a source has a return tap (R64). -/
def State.hasReturn (s : State) (n : Nat) : Bool :=
  (List.range 12).any (fun k => s.effF 0x10 (n / 4) (0x100 + k) 0 4 == 5 + n % 4)

/-- R_LOAD in 0.01 Ohm units, saturating (R60, R62). Its rounding, down, and its values for no current (the highest) and for a
drive voltage below 0.250 V (0) are the model's choices. DESIGN CHOICE, log entry 118. -/
def loadOf (m : Monitor) : Nat :=
  if m.iDrv = 0 then 0xFFFFFFFF else min 0xFFFFFFFF ((m.vDrv - 250000) * 10000000 / m.iDrv)

/-- The OPEN, SHORT and LEAK conditions of one evaluation against the current that the source is set to (R64, R73). -/
def State.monitorConds (s : State) (n : Nat) (m : Monitor) : Bool × Bool × Bool :=
  let r := loadOf m
  let nom := s.effAt (pid 0x17 n 0x010)
  let want := (s.wantDrive n).2
  let leak := s.effAt (pid 0x17 n 0x013)
  let diff := if m.iDrv ≤ m.iRet then m.iRet - m.iDrv else m.iDrv - m.iRet
  let limit := max (fld leak 0 16 * want) (fld leak 16 16 * 100 * 10000)
  ((m.limit ≤ m.vDrv + 50000 && m.iDrv * 100 < want * 99) || (nom != 0 && nom * s.effF 0x17 n 0x011 0 16 < r * 100),
   nom != 0 && r * 100 < nom * s.effF 0x17 n 0x012 0 16,
   s.hasReturn n && limit < diff * 10000)

/-- Whether a source is evaluated now: its cell runs, PD11 is on, it does not blank, and in VW mode only during the
resistance step of a reading (R50, R51, R62, R63). While it blanks the measured values stay as they were.
DESIGN CHOICE, log entry 118. -/
def State.evaluates (s : State) (n : Nat) : Bool :=
  s.cellRuns (n / 4) && s.pd 11 && (s.src n).blankUntil.isNone
    && (s.effF 0x17 n 0 0 3 != 4 || (s.src n).vw == .resistance)

/-- A source takes the measurements of one evaluation at an instant: its measured values, the sum of R_LOAD for DRIFT and that
of a reading's step 1 (R62, R64, R73). -/
def Src.measured (m : Monitor) (now : Nat) (c : Src) : Src :=
  let step : Bool := c.vw == .resistance
  { c with
    evalAt := now + 1000000
    vDrv := BitVec.ofNat 32 m.vDrv
    iDrv := BitVec.ofNat 32 m.iDrv
    iRet := BitVec.ofNat 32 m.iRet
    rLoad := BitVec.ofNat 32 (loadOf m)
    rSum := c.rSum + loadOf m
    rN := c.rN + 1
    vwSum := if step then c.vwSum + loadOf m else c.vwSum
    vwN := if step then c.vwN + 1 else c.vwN }

/-- The debounced conditions of a source after one evaluation; in mode 0 none holds (R64). -/
def State.monitorStep (s : State) (n : Nat) (m : Monitor) : State :=
  let c := s.monitorConds n m
  let d := s.effAt (pid 0x17 n 0x015)
  let noDrift := s.effF 0x17 n 0x014 0 20 == 0 || s.effAt (pid 0x17 n 0x010) == 0
  if s.effF 0x17 n 0 0 3 = 0 then s.modSrc n (fun x => { x with openC := {}, shortC := {}, leakC := {}, driftC := {}, means := [] })
  else s.modSrc n (fun x => { x with
    openC := debStep (fld d 0 8) (fld d 16 16) c.1 x.openC
    shortC := debStep (fld d 0 8) (fld d 16 16) c.2.1 x.shortC
    leakC := debStep (fld d 8 8) (fld d 16 16) c.2.2 x.leakC
    driftC := if noDrift then {} else x.driftC
    means := if noDrift then [] else x.means })

/-- One evaluation of a source: its measured values, its debounced conditions and its status (R62, R64). -/
def State.evaluate (s : State) (src : Nat) (m : Monitor) : State :=
  ((s.modSrc src (Src.measured m s.now)).monitorStep src m).setSrcStatus src

/-- Whether an evaluation of a source is due: 1 ms has passed since the one before (R62). DEDUCED, log entry 104. -/
def State.evalDue (s : State) (src : Nat) : Bool := s.evaluates src && decide ((s.src src).evalAt ≤ s.now)

/-- SOURCE_MONITOR_EVALUATION (R62, R64): once every 1 ms. DEDUCED, log entry 104. -/
def execSourceMonitorEvaluation (t src : Nat) (m : Monitor) (s : State) : Host.Outcome State Fault Refusal :=
  onUnit .source src t s (fun s => if s.evalDue src then s.evaluate src m else s)

/-- DRIFT after one more 1 s mean: the slope of the means over the window against rate and 80 % of it, in means per second
times 3600 against ppm of RNOM (R64). Until the window is full of means there is no evaluation, and a slope from 80 % to 100 %
of the rate starts both counts again. DESIGN CHOICE, log entry 118. -/
def driftStep (rate nom window mean : Nat) (x : Src) : Src :=
  let ms := (x.means ++ [mean]).drop (x.means.length + 1 - window)
  if ms.length < window then { x with means := ms }
  else
    let sl := slopeOf (ms.map (fun (v : Nat) => (v : Int)))
    let a := sl.1.natAbs * 3600 * 1000000
    let b := rate * nom * sl.2.natAbs
    let d := x.driftC
    let d := if b < a then { d with up := d.up + 1, down := 0 }
      else if 10 * a < 8 * b then { d with up := 0, down := d.down + 1 }
      else { d with up := 0, down := 0 }
    { x with means := ms, driftC := { d with on := (d.on || decide (3 ≤ d.up)) && decide (d.down < 60) } }

/-- DRIFT_EVALUATION (R64): once a second, on the mean of R_LOAD since the one before; the evaluation that is due at its instant
comes first, on its measurement m. DEDUCED, log entry 104. -/
def execDriftEvaluation (t src : Nat) (m : Monitor) (s : State) : Host.Outcome State Fault Refusal :=
  onUnit .source src t s (fun s =>
    let s := whenB (s.evalDue src) (·.evaluate src m) s
    let c := s.src src
    let v := s.effAt (pid 0x17 src 0x014)
    let nom := s.effAt (pid 0x17 src 0x010)
    if !s.evaluates src || c.rN == 0 || decide (s.now < c.driftAt) then s
    else
      let mean := (rne c.rSum c.rN).toNat
      let now := s.now
      let s := s.modSrc src (fun c => { c with rSum := 0, rN := 0, driftAt := now + 1000000000 })
      if fld v 0 20 = 0 ∨ nom = 0 ∨ s.effF 0x17 src 0 0 3 = 0 then s
      else (s.modSrc src (driftStep (fld v 0 20) nom (60 * fld v 20 12) mean)).setSrcStatus src)

/-- BLANKING_END (R63). -/
def execBlankingEnd (t src : Nat) (s : State) : Host.Outcome State Fault Refusal :=
  onUnit .source src t s (fun s =>
    match (s.src src).blankUntil with
    | some e => if e ≤ s.now then s.modSrc src (fun c => { c with blankUntil := none }) else s
    | none => s)

/-! Charge-amplifier resets. -/

/-- Amplifier qa of a cell. -/
def State.qa (s : State) (cell qa : Nat) : Qa := if qa = 0 then (s.cell cell).qa0 else (s.cell cell).qa1

/-- Amplifier qa of a cell replaced. -/
def State.setQa (s : State) (cell qa : Nat) (a : Qa) : State :=
  s.modCell cell (fun c => if qa = 0 then { c with qa0 := a } else { c with qa1 := a })

/-- Whether the level of an amplifier's output, referred to its channel's input, is beyond p percent of the channel's full
scale (R86, R87). -/
def State.qaBeyond (s : State) (cell qa p : Nat) (lv : QaLevels) : Bool :=
  decide ((p : Rat) * fullScale (s.chan (8 * cell + 6 + qa)).gain < 100 * (lv.level.natAbs : Rat))

/-- The first output-sample boundary of a channel at least n base-rate periods after b. -/
def State.seamInstant (s : State) (ch b n : Nat) : Nat :=
  let c := (s.chan ch).chain
  gridUp c.org (c.d * basePeriod) (b + n * basePeriod)

/-- Whether a seam of a channel is at its boundary sample: now lies in the base-rate period that ends at the seam (R87).
DEDUCED, log entry 96. -/
def State.seamNow (s : State) (ch : Nat) : Bool :=
  let here := fun (c b n : Nat) =>
    let e := s.seamInstant ch b n
    c == ch && decide (s.now ≤ e) && decide (e < s.now + basePeriod)
  match (s.cell (cellOfCh ch)).seam with
  | .takeover _ c b _ => here c b 4160
  | .handback _ c b _ => here c b 4160
  | .seamless 1 c _ b => here c b 256
  | .seamless _ c _ b => here c b 4160
  | .none_ => false

/-- Whether a due reset waits: a recovery on the channel, a seam at its boundary sample, or less than 1 ms since the last reset;
a level beyond 95 % forces it but for the last (R87). -/
def State.qaWaits (s : State) (cell qa : Nat) (lv : QaLevels) : Bool :=
  let ch := 8 * cell + 6 + qa
  decide (s.now < (s.qa cell qa).last + 1000000)
    || (!s.qaBeyond cell qa 95 lv && ((s.chan ch).recEnd.isSome || s.seamNow ch))

/-- The amplifier resets: the step is spliced out of its channel's stream (R84, R88 to R90). -/
def State.qaReset (s : State) (cell qa : Nat) (lv : QaLevels) : State :=
  let now := s.now
  let s := s.setQa cell qa { last := now }
  let s := forAll (s.qaChannel cell qa) (fun s ch => s.modChan ch (fun c => { c with
    resets := c.resets ++ [⟨now, lv.width, lv.pre.sum, lv.post.sum⟩]
    resetsOld := if c.old.isSome then c.resetsOld ++ [⟨now, lv.width, lv.pre.sum, lv.post.sum⟩] else c.resetsOld })) s
  s.bump (pid 0x10 cell (0x138 + qa)) 0 31

/-- A reset that is due: executed, or deferred (R86, R87). -/
def State.qaDue (s : State) (cell qa : Nat) (lv : QaLevels) : State :=
  if !s.cellRuns cell then s
  else if s.qaWaits cell qa lv then s.setQa cell qa { s.qa cell qa with due := true }
  else s.qaReset cell qa lv

/-- QA_THRESHOLD_CROSSING (R86): in threshold modes, beyond THRESH percent of full scale; and beyond 95 % a deferred reset
(R87). -/
def execQaThresholdCrossing (t cell qa : Nat) (lv : QaLevels) (s : State) : Host.Outcome State Fault Refusal :=
  onUnits .cell cell .amplifier qa t s (fun s =>
    if (s.effF 0x10 cell (0x130 + qa) 4 2 ≠ 1 ∧ s.qaBeyond cell qa (s.effF 0x10 cell (0x130 + qa) 8 7) lv = true)
        ∨ ((s.qa cell qa).due = true ∧ s.qaBeyond cell qa 95 lv = true) then s.qaDue cell qa lv
    else s)

/-- QA_PERIODIC_RESET (R86): in periodic modes, at a base-rate boundary PERIOD seconds after the previous reset. -/
def execQaPeriodicReset (t cell qa : Nat) (lv : QaLevels) (s : State) : Host.Outcome State Fault Refusal :=
  onUnits .cell cell .amplifier qa t s (fun s =>
    if s.effF 0x10 cell (0x130 + qa) 4 2 = 0 ∨ onGrid (s.cell cell).origin basePeriod s.now = false
        ∨ s.now < (s.qa cell qa).last + s.effF 0x10 cell (0x130 + qa) 16 12 * 1000000000 then s
    else s.qaDue cell qa lv)

/-- QA_DEFERRED_RESET (R87): at a base-rate boundary. -/
def execQaDeferredReset (t cell qa : Nat) (lv : QaLevels) (s : State) : Host.Outcome State Fault Refusal :=
  onUnits .cell cell .amplifier qa t s (fun s =>
    if (s.qa cell qa).due && onGrid (s.cell cell).origin basePeriod s.now then s.qaDue cell qa lv else s)

/-! Gain changes. -/

/-- RANGE_RECOVERY_END (R95). -/
def execRangeRecoveryEnd (t ch : Nat) (s : State) : Host.Outcome State Fault Refusal :=
  onUnit .channel ch t s (fun s =>
    match (s.chan ch).recEnd with
    | some e => if e ≤ s.now then s.modChan ch (fun c => { c with recEnd := none, autoRec := false }) else s
    | none => s)

/-- CONVERTER_PATH_VALID (R107): 64 base-rate periods after the incoming converter started. -/
def execConverterPathValid (t cell : Nat) (s : State) : Host.Outcome State Fault Refusal :=
  onUnit .cell cell t s (fun s =>
    match (if s.cellRuns cell then (s.cell cell).seam else .none_) with
    | .takeover p ch c _ =>
      if c + 64 * basePeriod ≤ s.now ∧ s.chanRuns ch = true then
        s.modCell cell (fun d => { d with seam := .takeover p ch c true }) else s
    | .handback p ch c _ =>
      if c + 64 * basePeriod ≤ s.now ∧ s.chanRuns ch = true then
        s.modCell cell (fun d => { d with seam := .handback p ch c true }) else s
    | _ => s)

/-- Whether now is an output-sample boundary of a channel at least n base-rate periods after b, while it runs. -/
def State.seamAt (s : State) (ch b n : Nat) : Bool :=
  s.chanRuns ch && decide (b + n * basePeriod ≤ s.now) && s.outAt ch s.now

/-- The correction with which the converter that comes in continues a channel's stream; in a seamless change both the full scale and
the trims are those of the new gain (R108). DESIGN CHOICE, log entry 118. -/
def State.seamCorr (s : State) (ch : Nat) (k : Conv) (g : Nat) : Rat × Rat :=
  let cell := cellOfCh ch
  seamFit (fullScale g) (s.trimRatio cell (convNum ch (s.chan ch).conv) (convNum ch k) g) (s.cell cell).overlap

/-- A channel's chain takes the stream of converter k from now on (R97, R107, R108). -/
def State.seamTo (s : State) (ch : Nat) (k : Conv) (g : Nat) : State :=
  let x := s.seamCorr ch k g
  let now := s.now
  (s.modChan ch (fun c => { c with conv := k, corr := x })).modCell (cellOfCh ch)
    (fun c => { c with overlap := [], seamed := some (now, ch) })

/-- SEAMLESS_SEAM (R97, step 4): the sample at the seam has the new gain (R175). -/
def execSeamlessSeam (t cell : Nat) (s : State) : Host.Outcome State Fault Refusal :=
  onUnit .cell cell t s (fun s =>
    match (s.cell cell).seam with
    | .seamless 1 ch g b =>
      if !s.seamAt ch b 256 then s
      else
        let now := s.now
        (((s.seamTo ch .spTemp g).setGain ch g (now - 1)).modCell cell (fun c => { c with
          seam := .seamless 4 ch g now })).convStart ch false
    | _ => s)

/-- SEAMLESS_HANDBACK_SEAM (R97, step 7). -/
def execSeamlessHandbackSeam (t cell : Nat) (s : State) : Host.Outcome State Fault Refusal :=
  onUnit .cell cell t s (fun s =>
    match (s.cell cell).seam with
    | .seamless 4 ch _ b =>
      if !s.seamAt ch b 4160 then s
      else ((s.seamTo ch .own (s.chan ch).gain).spIdle cell).calKick cell
    | _ => s)

/-- Event AUTO_RANGE (R103): cause 0 clip, 1 quiet. -/
def State.evAutoRange (s : State) (ch old new cause : Nat) : State :=
  s.raise 0x04 [(ch, 9), (old, 3), (new, 3), (cause, 1)]

/-- Whether automatic ranging may decide on a channel now: AUTO set, running, at a base-rate boundary, and no recovery of an
automatic lowering in progress (R100). DEDUCED, log entry 97. -/
def State.autoReady (s : State) (ch : Nat) : Bool :=
  s.chanRuns ch && s.effF 0x11 ch 0x040 5 1 == 1 && !((s.chan ch).autoRec && (s.chan ch).recEnd.isSome)
    && onGrid (s.cell (cellOfCh ch)).origin basePeriod s.now

/-- Whether two consecutive base-rate samples of a channel were clipped, the second of which ended one base-rate period ago
(R100). -/
def State.clippedTwice (s : State) (ch : Nat) : Bool :=
  let l := (s.chan ch).clips
  l.contains (s.now - basePeriod) && l.contains (s.now - 2 * basePeriod)

/-- AUTO_RANGE_LOWER (R100, R103). DEDUCED, log entry 97. -/
def execAutoRangeLower (t ch : Nat) (s : State) : Host.Outcome State Fault Refusal :=
  onUnit .channel ch t s (fun s =>
    let g := (s.chan ch).gain
    if !s.autoReady ch || g ≤ s.effF 0x11 ch 0x040 8 3 || !s.clippedTwice ch then s
    else (((s.flaggedGain ch (g - 1)).modChan ch (fun c => { c with autoRec := true })).evAutoRange ch g (g - 1) 0).calKick
      (cellOfCh ch))

/-- Whether a seamless change of a channel is in its steps 1 to 3 (R97). -/
def State.changing (s : State) (ch : Nat) : Bool :=
  match (s.cell (cellOfCh ch)).seam with
  | .seamless 1 c _ _ => c == ch
  | _ => false

/-- AUTO_RANGE_RAISE (R101, R103); in the steps 1 to 3 of a change in progress nothing is decided anew. -/
def execAutoRangeRaise (t ch : Nat) (s : State) : Host.Outcome State Fault Refusal :=
  onUnit .channel ch t s (fun s =>
    let g := (s.chan ch).gain
    if !s.autoReady ch || s.changing ch || s.effF 0x11 ch 0x040 12 3 ≤ g
        || (s.chan ch).fedAt < (s.chan ch).quietFrom + s.effF 0x11 ch 0x041 0 12 * 1000000000 then s
    else ((s.takeGain ch (g + 1)).evAutoRange ch g (g + 1) 1).calKick (cellOfCh ch))

/-! The spare modulator. -/

/-- A cold switch also restarts the channel's intervals (R111, R175). -/
def State.switchCold (s : State) (ch : Nat) (k : Conv) : State := (s.mark ch 0 (.restart false)).coldSwitch ch k

/-- SP takes a channel by cold switch for good and the channel's own modulator is retired (R113). -/
def State.takeCold (s : State) (ch : Nat) : State :=
  let cell := cellOfCh ch
  let s := s.modCell cell (fun c => { c with spUse := .perm, spCh := ch % 8, spGain := (s.chan ch).gain, seam := .none_ })
  (s.switchCold ch .spPerm).retire cell (ch % 8)

/-- A channel is fenced on its own (R115). -/
def State.loneFence (s : State) (ch : Nat) : State :=
  (s.dropPend ch 1 (fun _ => true)).modChan ch (fun c => { c with conv := .none_, lone := true, coldUntil := none })

/-- The use of SP that stands in the way of a failure ends, for the failure of another channel's modulator; the flag tells
whether SP is then available, which it is not in a warm takeover for retirement (R116). DESIGN CHOICE, log entry 118. -/
def State.freeSp (s : State) (cell ch : Nat) : State × Bool :=
  let c := s.cell cell
  match c.seam with
  | .takeover true _ _ _ => (s, false)
  | .seamless 1 a g _ => ((s.countFallback cell).gainChange a g (s.boundary cell) |>.spIdle cell, true)
  | .seamless _ a _ _ => ((s.switchCold a .own).spIdle cell, true)
  | _ =>
    match c.spUse with
    | .idle => (s, true)
    | .temp =>
      let a := 8 * cell + c.spCh
      let s := s.calDrop a 4
      let s := if a ≠ ch ∧ carried (s.chan a).conv then s.switchCold a .own else s
      (s.spIdle cell, true)
    | _ => (s, false)

/-- The failure of a channel's own modulator (R112 to R116). In a temporary carry before its seam the channel is taken by cold
switch, and a calibration that a failed modulator ends has result code 4. DESIGN CHOICE, log entry 118. -/
def State.ownFails (s : State) (cell m : Nat) : State :=
  let ch := 8 * cell + m
  let c := s.cell cell
  let s := s.dropGap ch
  let keeps := (c.spUse == .temp || c.spUse == .seamless) && c.spCh == m && (s.chan ch).conv == .spTemp
  let s :=
    if keeps then
      let s := if c.spUse = .temp then s.calDrop ch 4 else s
      let s := s.modChan ch (fun c => { c with conv := .spPerm })
      ((s.modCell cell (fun c => { c with spUse := .perm, seam := .none_ })).retire cell m).evConverter 0 cell m
    else match c.seam with
      | .seamless 1 a g _ =>
        if a = ch then
          ((s.setGain ch g (gridUp (s.cell cell).origin basePeriod (s.now + 1))).takeCold ch).evConverter 0 cell m
        else ((s.freeSp cell ch).1.takeCold ch).evConverter 0 cell m
      | .takeover true a _ _ =>
        if a = ch then (s.takeCold ch).evConverter 0 cell m else (s.loneFence ch).evConverter 1 cell m
      | _ =>
        let r := s.freeSp cell ch
        if r.2 then (r.1.takeCold ch).evConverter 0 cell m else (r.1.loneFence ch).evConverter 1 cell m
  s.report cell (cellDetail 1 m)

/-- SP fails: what it carried goes back, and SP is retired (R116). -/
def State.spFails (s : State) (cell : Nat) : State :=
  let c := s.cell cell
  let ch := 8 * cell + c.spCh
  let lone := c.spUse == .perm && !(match c.seam with
    | .handback true _ _ _ => true
    | _ => false)
  let s := match c.seam with
    | .handback true a _ _ => (s.switchCold a .own).unretire cell (a % 8)
    | .takeover true _ _ _ => s
    | .seamless 1 a g _ => (s.countFallback cell).gainChange a g (s.boundary cell)
    | .seamless _ a _ _ => s.switchCold a .own
    | _ =>
      match c.spUse with
      | .temp => (if (s.chan ch).conv = Conv.spTemp then s.switchCold ch .own else s).calDrop ch 5
      | .perm => s.loneFence ch
      | _ => s
  let s := s.modCell cell (fun c => { c with spUse := .failed, spCh := 0, seam := .none_ })
  let s := s.retire cell 8
  (s.evConverter (b2n lone) cell 8).report cell (cellDetail 1 8)

/-- MODULATOR_FAILURE (R112): only a modulator in service, not that of a channel fenced on its own; a retired one in a warm
handback aborts the handback (R110). In a fenced cell none is watched. DESIGN CHOICE, log entry 118. -/
def execModulatorFailure (t cell modulator : Nat) (s : State) : Host.Outcome State Fault Refusal :=
  onUnits .cell cell .modulator modulator t s (fun s =>
    if !s.cellRuns cell then s
    else if modulator = 8 then if s.isRetired cell 8 then s else s.spFails cell
    else if s.isRetired cell modulator then
      match (s.cell cell).seam with
      | .handback true a _ _ =>
        if a = 8 * cell + modulator then
          (s.modCell cell (fun c => { c with seam := .none_ })).evConverter 3 cell modulator
        else s
      | _ => s
    else if (s.chan (8 * cell + modulator)).conv = .none_ ∨ (s.chan (8 * cell + modulator)).pausedFrom.any (fun e => e ≤ s.now) = true then s
    else s.ownFails cell modulator)

/-- The output of a channel after a cold switch resumes with its slot of instant u: CALSWAP, and SETTLE from there (R111, R156). -/
def State.coldResume (s : State) (ch u : Nat) : State :=
  match (s.chan ch).coldUntil with
  | some e =>
    if e ≤ u ∧ s.outAt ch u = true then
      ((s.modChan ch (fun c => { c with coldUntil := none })).calswapAt ch u).openSettle ch u
    else s
  | none => s

/-- COLD_SWITCH_RESUME (R111): at the first output-sample boundary at or after f + 64. -/
def execColdSwitchResume (t ch : Nat) (s : State) : Host.Outcome State Fault Refusal :=
  onUnit .channel ch t s (fun s => s.coldResume ch s.now)

/-- The answer to a write of SP_ASSIGN (R106). -/
def State.spAssignStatus (s : State) (cell val : Nat) : Nat :=
  let c := s.cell cell
  let ch := fld val 0 4
  let seam : Bool := match c.seam with
    | .takeover true _ _ _ => true
    | .handback true _ _ _ => true
    | _ => false
  let retired := (List.range 8).any (s.isRetired cell)
  if ch ≠ 0xF ∧ (8 ≤ ch ∨ bit val 8 = false) then stParamRange
  else if c.spUse = .temp ∨ c.spUse = .seamless ∨ seam then stRetry
  else if c.spUse = .failed ∨ (ch ≠ 0xF ∧ c.spUse = .perm ∧ c.spCh ≠ ch) ∨ (ch = 0xF ∧ !retired) then stDenied
  else stOk

/-- SP takes for good a channel that was fenced on its own: by cold switch, at the channel's configured gain, and its first
sample carries FENCED (R93, R106). -/
def State.takeLone (s : State) (ch : Nat) : State :=
  let now := s.now
  let g := s.cfgGain ch
  let s := s.modChan ch (fun c => { c with lone := false, fencedFrom := some now, gain := g, gainWas := g })
  (s.takeCold ch).evConverter 2 (cellOfCh ch) (ch % 8)

/-- The effect of an accepted write of SP_ASSIGN; a channel of a fenced cell, or one that an offline test has fenced, is retired at
once (R106).
DESIGN CHOICE, log entry 118. -/
def State.doSpAssign (s : State) (cell val : Nat) : State :=
  let n := fld val 0 4
  let ch := 8 * cell + n
  let s := s.modCell cell (fun c => { c with spAssign := BitVec.ofNat 32 val })
  if n = 0xF then
    match (s.cell cell).spUse with
    | .perm => s.startHandback true (8 * cell + (s.cell cell).spCh)
    | _ => s
  else if (s.cell cell).spUse = .perm then s
  else if (s.chan ch).conv = .none_ then s.takeLone ch
  else if s.chanRuns ch then (s.dropGap ch).startTakeover true ch
  else
    let g := s.cfgGain ch
    let s := s.modCell cell (fun c => { c with spUse := .perm, spCh := n, spGain := g })
    s.retire cell n

/-- SP_ASSIGN (R106). -/
def execSpAssign (t : Nat) (h : Hdr) (cell : Nat) (val : Word) (s : State) : Host.Outcome State Fault Refusal :=
  itemCommand (pid 0x10 cell 0x120) val.toNat h t s (fun s => s.spAssignStatus cell val.toNat)
    (fun s => s.doSpAssign cell val.toNat)

/-- The seam of a warm takeover: the chain takes SP's stream (R106, R107, R109). -/
def State.takeoverSeam (s : State) (perm : Bool) (cell ch : Nat) : State :=
  let s := (s.seamTo ch (if perm then .spPerm else .spTemp) (s.chan ch).gain).calswapAt ch s.now
  let s := s.modCell cell (fun c => { c with seam := .none_, spUse := if perm then .perm else c.spUse })
  if perm then (s.retire cell (ch % 8)).evConverter 2 cell (ch % 8) else s

/-- Whether the gain ratio of a fit lies outside ±0.5 % (R110). -/
def ratioOut (x : Rat × Rat) : Bool := decide (x.2 < 995 / 1000 ∨ 1005 / 1000 < x.2)

/-- The seam of a warm handback, or its abort, with which the channel stays on SP (R106, R107, R109, R110). -/
def State.handbackSeam (s : State) (perm : Bool) (cell ch : Nat) : State :=
  if ratioOut (s.seamCorr ch .own (s.chan ch).gain) then
    (s.modCell cell (fun c => { c with seam := .none_, overlap := [] })).evConverter 3 cell (ch % 8)
  else
    let s := (s.seamTo ch .own (s.chan ch).gain).calswapAt ch s.now
    let s := s.spIdle cell
    let s := if perm then
        ((s.modCell cell (fun c => { c with spUse := .idle })).unretire cell (ch % 8)).evConverter 2 cell (ch % 8) else s
    s.calKick cell

end Sys2Proof.Machine
end

