-- ==== Sys2Proof/Machine/VibWire.lean ====
section
/-! DEFINITION. The meanings of a vibrating-wire reading (R70 to R73). -/

namespace Sys2Proof.Machine

/-- The channel bound to a source: the lowest-numbered one of its cell with the source in SERVED and SRC 0 (R70).
DEDUCED, log entry 26. -/
def State.boundCh (s : State) (src : Nat) : Option Nat :=
  (chansOf (src / 4)).find? (fun ch =>
    bit (s.cfgF 0x11 ch 0x020 10 4) (src % 4) && s.cfgF 0x11 ch 0x020 8 2 == 0)

/-- The status of a VW_READ (R72, R393). A bound channel that an offline test fences on its own does not stop the reading.
DESIGN CHOICE, log entry 118. -/
def State.vwReadStatus (s : State) (src : Nat) : Nat :=
  if 192 ≤ src then stParamRange
  else if !s.running then stNotCommitted
  else match s.boundCh src with
    | none => stParamRange
    | some ch =>
      if s.cfgF 0x17 src 0 0 3 ≠ 4 then stParamRange
      else if s.cellFenced (src / 4) || !s.pd 11 || (s.chan ch).conv == .none_ then stDenied
      else if (s.src src).vw ≠ .idle then stRetry
      else stOk

/-- A reading is asked for: it begins at the first base-rate boundary after the request, and a calibration in the channel's natural
gap is abandoned (R28, R72, R73). DEDUCED, log entry 26. -/
def State.vwStart (s : State) (src : Nat) : State :=
  match s.boundCh src with
  | none => s
  | some ch =>
    let s := s.abandonGap ch
    let e := gridUp (s.cell (src / 4)).origin basePeriod (s.now + 1)
    s.modSrc src (fun c => { c with
      vw := .asked, vwSince := e, vwCh := ch, vwSum := 0, vwN := 0, coil := 0, coilStatus := 0 })

/-- VW_READ (R72). -/
def execVwRead (t : Nat) (h : Hdr) (src : Nat) (s : State) : Host.Outcome State Fault Refusal :=
  packet 0x0301 h t s (fun s =>
    let st := s.vwReadStatus src
    if st ≠ stOk then s.finish h 0x0301 st else (s.vwStart src).accept h 0x0301 (.vw src))

/-- The coil's status from one evaluation: 1 OPEN, 2 SHORT (R64, R73). -/
def State.coilCheck (s : State) (src : Nat) (m : Monitor) : Nat :=
  let c := s.monitorConds src m
  if c.1 then 1 else if c.2.1 then 2 else 0

/-- The coil resistance: the mean R_LOAD of step 1, that of the coil check where step 1 had no evaluation (R73).
DEDUCED, log entry 26. -/
def coilMean (c : Src) (m : Monitor) : Nat :=
  if c.vwN = 0 then loadOf m else min 0xFFFFFFFF (rne c.vwSum c.vwN).toNat

/-- The result entry of a reading that ended at its coil check (R187, R188). -/
def State.coilResult (s : State) (e : Nat → Nat → List Byte) (src : Nat) : List Byte :=
  let c := s.src src
  resultBytes e 2 c.vwCh (s.chan c.vwCh).gain 0 0 s.stamp 0 0 {} c.coil 10 c.coilStatus 0

/-- A reading ends: the cell's configured routing applies again, the entry enters the stream and LAST_MEAS, and the final
reply carries it (R73, R189, R349). DEDUCED, log entry 26. -/
def State.vwFinish (s : State) (src : Nat) (l b : List Byte) : State :=
  let ch := (s.src src).vwCh
  let s := s.modSrc src (fun c => { c with vw := .idle, mode := 0, iSet := 0 })
  ((s.openPoints (src / 4) (s.boundary (src / 4))).putResult ch l).finalReply (.vw src) stOk 0 b

/-- Whether now is a base-rate boundary of a source's cell, ms milliseconds or more after its reading's step began. -/
def State.vwStepEnds (s : State) (src ms : Nat) : Bool :=
  decide ((s.src src).vwSince + ms * 1000000 ≤ s.now) && onGrid (s.cell (src / 4)).origin basePeriod s.now

/-- VW_RESISTANCE_END (R73, steps 1 and 2): the blanking time and 10 ms of evaluations have passed; one evaluation checks the
coil, at a base-rate boundary. -/
def execVwResistanceEnd (t src : Nat) (m : Monitor) (s : State) : Host.Outcome State Fault Refusal :=
  onUnit .source src t s (fun s =>
    let c := s.src src
    if c.vw ≠ .resistance ∨ s.vwStepEnds src (s.effF 0x17 src 0x016 0 10 + 10) = false then s
    else
      let st := s.coilCheck src m
      let s := s.modSrc src (fun c => { c with coil := coilMean c m, coilStatus := st, vw := .pluckWait })
      if st = 0 then s
      else (s.vwFinish src (s.coilResult le src) (s.coilResult be src)).inputChange c.vwCh s.now)

/-- VW_PLUCK_START (R73, step 3): at a base-rate boundary the sweep begins. -/
def execVwPluckStart (t src : Nat) (s : State) : Host.Outcome State Fault Refusal :=
  onUnit .source src t s (fun s =>
    if (s.src src).vw ≠ .pluckWait ∨ s.vwStepEnds src 0 = false then s
    else
      let now := s.now
      let i := s.setCurrent src
      s.modSrc src (fun c => { c with vw := .pluck, vwSince := now, mode := 4, iSet := i }))

/-- The output samples of the capture window of a channel (R73). -/
def State.captureLen (s : State) (ch : Nat) : Nat := s.effF 0x11 ch 0x030 0 11 * 1000000 / s.outPeriod ch

/-- A commanded span that a reading's capture displaces ends with every measurement invalid for BUSY (R182, R187). -/
def State.spanBusy (s : State) (ch : Nat) : State :=
  match (s.chan ch).span with
  | none => s
  | some p =>
    let l := s.resultOf le ch p true 0xFFFFFFFF 0
    let b := s.resultOf be ch p true 0xFFFFFFFF 0
    ((s.modChan ch (fun c => { c with span := none })).putResult ch l).finalReply (.meas ch) stOk 0 b

/-- VW_LISTEN_START (R73, step 4): at the boundary that ends the burst the source stops and its crosspoints open; the
channel's inputs close 250 ns later. -/
def execVwListenStart (t src : Nat) (s : State) : Host.Outcome State Fault Refusal :=
  onUnit .source src t s (fun s =>
    let c := s.src src
    if c.vw ≠ .pluck ∨ s.vwStepEnds src (s.effF 0x17 src 4 0 7) = false then s
    else
      let n := s.captureLen c.vwCh
      let now := s.now
      let s := s.modSrc src (fun c => { c with vw := .listen, vwSince := now, mode := 0, iSet := 0 })
      let s := (s.openPoints (src / 4) now).spanBusy c.vwCh
      (s.inputChange c.vwCh now).modChan c.vwCh (fun c => { c with span := some {
        typ := 2, t0 := now, xs := [], n := 0, left := some n, flags := 0, gap := false, recNum := 0, epoch := 0
        ended := false, since := now, gain := c.gain } }))

/-- VW_CAPTURE_END (R73, step 5): the capture window's last sample has been taken. -/
def execVwCaptureEnd (t src : Nat) (s : State) : Host.Outcome State Fault Refusal :=
  onUnit .source src t s (fun s =>
    let c := s.src src
    match c.vw, (s.chan c.vwCh).span with
    | .listen, some p =>
      if p.left ≠ some 0 then s
      else
        let l := s.resultOf le c.vwCh p false c.coil c.coilStatus
        let b := s.resultOf be c.vwCh p false c.coil c.coilStatus
        (s.modChan c.vwCh (fun c => { c with span := none })).vwFinish src l b
    | _, _ => s)

end Sys2Proof.Machine
end

