-- ==== Sys2Proof/Machine/Samples.lean ====
section
/-! DEFINITION. The meanings of output samples, coarse values, bank swaps, gait changes, interval reductions, commanded
spans and gap entries (R118 to R164, R165 to R197). -/

namespace Sys2Proof.Machine

/-! Flags of a sample. -/

/-- Whether something that marks the base-rate period ending at e lies in the output interval of length p that ends at t
(R76, R80, R89). -/
def inInterval (p t e : Nat) : Bool := decide (t < e + p) && decide (e ≤ t)

/-- Whether a recovery from a to b overlaps the output interval of length p that ends at t (R95, R96). -/
def rangeIn (r : Option (Nat × Nat)) (p t : Nat) : Bool :=
  match r with
  | some (a, b) => decide (a < t) && decide (t < b + p)
  | none => false

/-- Whether a reading holds a channel's inputs open (R73, steps 1 to 3). -/
def State.vwOpen (s : State) (ch : Nat) : Bool :=
  (srcsOf (cellOfCh ch)).any (fun n =>
    let c := s.src n
    c.vwCh == ch && (c.vw == .resistance || c.vw == .pluckWait || c.vw == .pluck))

/-- The flags of the sample that represents instant t, its output interval being p long (R66, R80, R89, R95, R109, R121,
R122, R156). -/
def State.slotFlags (s : State) (ch p t : Nat) : BitVec 8 :=
  let c := s.chan ch
  flIf ((c.settle != 0 && decide (c.settleFrom ≤ t)) || s.vwOpen ch) flSettle
    ||| flIf (rangeIn c.rangeTail p t) flRange
    ||| flIf (c.calswapFrom.any (fun e => e ≤ t)) flCalswap
    ||| flIf (c.spliceEnd.any (inInterval p t)) flSplice
    ||| flIf (inInterval p t c.clipAt && c.clipAt != 0) flClip
    ||| flIf (s.time.state == .holdover) flHoldover
    ||| flIf (s.sensorBad ch || (c.sensorTill != 0 && decide (t < c.sensorTill + p))) flSensor
    ||| flIf (c.fencedFrom.any (fun e => e < t)) flFenced

/-! The format stage. -/

/-- v rounded with ties to even and saturated to n bits without the lowest code, and whether it was saturated (R118,
R119). -/
def fmtRound (n : Nat) (v : Rat) : Int × Bool :=
  let r := rneQ v
  let m : Int := 2 ^ (n - 1) - 1
  (clampI (-m) m r, decide (r < -m) || decide (m < r))

/-- A value of the chain, in U, at a gain code in LSB of S32R (R77, R118). -/
def inLsb (gain : Nat) (v : Rat) : Rat := v * 2 ^ gain / 128

/-- Whether a value in LSB of S32R saturates in a word format (R119). -/
def fmtClips (fmt : Nat) (v : Rat) : Bool := if fmt = 1 then (fmtRound 24 (v / 256)).2 else (fmtRound 32 v).2

/-- The S32R value. -/
def s32r (v : Rat) : Int := (fmtRound 32 v).1

/-- The sample word in a format, with its flag byte in S24L when FLAGS is set (R118). -/
def fmtWord (fmt : Nat) (flags : Bool) (v : Rat) (fl : BitVec 8) : Word :=
  if fmt = 1 then BitVec.ofNat 32 (code 24 (fmtRound 24 (v / 256)).1 <<< 8 ||| (if flags then fl.toNat else 0))
  else if fmt = 2 then BitVec.ofNat 32 (code 32 (s32r v)) ^^^ 0x80000000
  else BitVec.ofNat 32 (code 32 (s32r v))

/-! Base-rate periods (R80, R81, R88, R95, R108, R124, R147, R162). -/

/-- The modulator samples of a period: 256, the oldest read as 0 where some are missing. DESIGN CHOICE, log entry 12. -/
def modSamples (xs : List Int) : List Int := List.replicate (256 - xs.length) 0 ++ xs.drop (xs.length - 256)

/-- The last n periods; the oldest read as 0 where some are missing. DESIGN CHOICE, log entry 12. -/
def lastPeriods (n : Nat) (ps : List BasePer) : List BasePer :=
  List.replicate (n - ps.length) ({} : BasePer) ++ ps.drop (ps.length - n)

/-- The reference's phase accumulator with PHASE at instant t, and its increment (R58, R161, R162, R319, R320). -/
def State.refPhase (s : State) (ch t : Nat) (k : Chain) : Nat × Nat :=
  let off := fld k.ref 16 16 <<< 16
  if fld k.ref 0 2 = 2 then
    let o := s.osAt (fld k.ref 2 4) t
    (phaseAt 0 o.phase0 o.freq t + off, o.freq)
  else
    let n := 4 * cellOfCh ch + fld k.ref 2 2
    let f := s.effF 0x17 n 2 0 24
    (phaseAt (s.src n).phase (s.src n).phaseAt f t + off, f)

/-- The modulator-rate values of the period that ends at u as the decimators of a chain take them: on a lock-in gait times the
reference (R124, R162). -/
def State.mixed (s : State) (ch u : Nat) (k : Chain) (xs : List Rat) : List Rat :=
  if k.lock then
    let r := s.refPhase ch (u - basePeriod) k
    mixWith k.square r.1 r.2 xs
  else xs

/-- A chain takes one base-rate period: its own converter's modulator-rate values and SP's, corrected by what the converter that
feeds it needs (sp: it is SP), held back while hold is set. It gives the chain, the two values of the base-rate stream and the
samples that emerge (R92, R95, R108, R124). -/
def Chain.period (k : Chain) (corr : Rat × Rat) (sp hold : Bool) (own spare : List Rat) : Chain × (Rat × Rat) × List (Nat × Rat) :=
  let a := k.own.feed own
  let b := k.sp.feed spare
  let r := Chain.pass (stagesOf k.d) hold { k with own := a.1, sp := b.1 } (corrected corr (if sp then b.2 else a.2))
  (r.1, (a.2, b.2), r.2)

/-- The slots waiting for delivery with the values that have emerged for those whose instants satisfy f. -/
def fillPend (f : Nat → Bool) (vs : List (Nat × Rat)) (l : List Pend) : List Pend :=
  l.map (fun p => if p.v = none ∧ f p.t = true then { p with v := tfind vs p.t } else p)

/-- Whether the base-rate period of a channel that ends at u lies in its matching overlap, and whether SP is then the converter
that comes in (R97, R107). -/
def State.matching (s : State) (ch u : Nat) : Option Bool :=
  let within := fun (c b hi : Nat) (sp : Bool) =>
    if c = ch ∧ b + 64 * basePeriod < u ∧ u ≤ b + hi * basePeriod then some sp else none
  match (s.cell (cellOfCh ch)).seam with
  | .none_ => none
  | .seamless 1 c _ b => within c b 256 true
  | .seamless _ c _ b => within c b 4160 false
  | .takeover _ c b _ => within c b 4160 true
  | .handback _ c b _ => within c b 4160 false

/-- Whether a base-rate sample x of the period ending at u is clipped: beyond full scale, the overload detector of the converter
fired, or an input out of range; in a recovery the value is not the modulator's (R80, R81, R95). -/
def State.clipped (s : State) (ch u : Nat) (hold ovl outside : Bool) (x : Rat) : Bool :=
  ovl || outside || (!hold && decide (fullScale ((s.chan ch).gainOn u) ≤ x ∨ x ≤ -fullScale ((s.chan ch).gainOn u)))

/-- Whether a base-rate sample x of the period ending at u is no quiet one: its magnitude is at or above DOWN_LEVEL percent of the
full scale at the next higher gain code (R101). -/
def State.loud (s : State) (ch u : Nat) (x : Rat) : Bool :=
  decide ((s.effF 0x11 ch 0x040 16 7 : Rat) * fullScale ((s.chan ch).gainOn u + 1) ≤ 100 * max x (-x))

/-- Whether a base-rate sample of the incoming converter of a match is beyond full scale at that converter's gain (R80, R97,
R108). -/
def State.inClips (s : State) (ch : Nat) (sp : Bool) (x : Rat) : Bool :=
  let g := if sp then (s.cell (cellOfCh ch)).spGain else (s.chan ch).gain
  decide (fullScale g ≤ x ∨ x ≤ -fullScale g)

/-- A running channel takes the base-rate period that ends at u (R80, R88, R95, R97, R100, R101, R107, R108, R124, R147).
DEDUCED, log entry 116. -/
def State.takePeriod (s : State) (ch u : Nat) (p : BasePer) : State :=
  let c := s.chan ch
  let sp := carried c.conv
  let hold := decide (c.recover.1 < u) && decide (u ≤ c.recover.2)
  let own := spliceAll c.resets c.splice u (modSamples p.own)
  let spare := spliceAll c.resets c.splice u (modSamples p.sp)
  let run := fun (k : Chain) (a b : List Rat) => k.period c.corr sp hold (s.mixed ch u k a) (s.mixed ch u k b)
  let old := c.old.map (fun k =>
    run k (spliceAll c.resetsOld c.spliceOld u (modSamples p.own)) (spliceAll c.resetsOld c.spliceOld u (modSamples p.sp)))
  let new := if c.chain.start < u then run c.chain own spare else (c.chain, (0, 0), [])
  let live := if c.chain.start < u then some new.2.1 else old.map (fun r => r.2.1)
  let x := (live.map (fun v => corrected c.corr (if sp then v.2 else v.1))).getD 0
  let clip := s.clipped ch u hold (if sp then p.spOvl else p.ovl) p.outside x
  let loud := live.isSome && !hold && s.loud ch u x
  let reset := c.resets.any (Splice.inPeriod u)
  let left := foldSplices u c.resets c.splice
  let leftOld := foldSplices u c.resetsOld c.spliceOld
  let pair := match s.matching ch u, live with
    | some inSp, some v =>
      let y := if inSp then v.2 else v.1
      if clip || p.ovl || p.spOvl || reset || s.inClips ch inSp y then [] else [(x, y)]
    | _, _ => []
  let k := if c.chain.start < u then c.chain else c.old.getD c.chain
  let s := s.modCell (cellOfCh ch) (fun d => { d with overlap := d.overlap ++ pair })
  s.modChan ch (fun c => { c with
    old := old.map Prod.fst
    chain := new.1
    pend := fillPend (fun t => c.chain.start < t) new.2.2
      (fillPend (fun t => t ≤ c.chain.start) ((old.map (fun r => r.2.2)).getD []) c.pend)
    fast := (c.fast ++ s.mixed ch u k (if sp then spare else own)).drop (c.fast.length + 256 - 2048)
    clipAt := if clip then u else c.clipAt
    clips := (if clip then [u] else []) ++ c.clips.filter (fun e => u < e + 3 * basePeriod)
    quietFrom := if loud then max u c.quietFrom else c.quietFrom
    spliceEnd := if reset then some u else c.spliceEnd
    resets := left.1
    splice := left.2
    resetsOld := leftOld.1
    spliceOld := leftOld.2 })

/-! Output slots. -/

/-- Whether a channel takes nothing in the period that ends at u: it is fenced on its own, or it returns from a fence, or is switched
cold, only later (R111, R115, R308, R520). -/
def Chan.idleAt (c : Chan) (u : Nat) : Bool :=
  c.conv == .none_ || c.pausedFrom.any (fun e => e < u) || c.fencedFrom.any (fun e => u ≤ e) || (c.coldUntil.isSome && decide (u ≤ c.chain.start))

/-- Why a channel produces no sample in its slot of instant u, by cause of R192; 0 when it does (R111, R115, R308, R520). -/
def State.slotCause (s : State) (ch u : Nat) : Nat :=
  let c := s.chan ch
  if s.cellFenced (cellOfCh ch) || c.conv == .none_ || c.pausedFrom.any (fun e => e < u) || c.fencedFrom.any (fun e => u ≤ e)
  then 1
  else if c.coldUntil.isSome then (if c.fencedFrom.isSome then 1 else 3)
  else 0

/-- The sequence number of a channel goes on; the mark of R166 is written at each multiple of 2^28. -/
def State.nextSeq (s : State) (ch t : Nat) : State :=
  let n := (s.chan ch).seq + 1
  let s := s.modChan ch (fun c => { c with seq := n, slotAt := t })
  if n % 2 ^ 28 = 0 ∧ s.boot.seqMark.getD 0 < n then { s with boot := { s.boot with seqMark := some n } } else s

/-- The chain whose output grid gives the slots of a channel at instant u (R156). -/
def Chan.chainAt (c : Chan) (u : Nat) : Chain := if u ≤ c.chain.start then c.old.getD c.chain else c.chain

/-- The output slot of a channel that represents instant u, with the flags it has then, waits for its value (R76, R121, R128,
R165). DEDUCED, log entry 116. -/
def State.newSlot (s : State) (ch u : Nat) : State :=
  let s := (s.dueEffects ch u).coldResume ch u
  let c := s.chan ch
  let k := c.chainAt u
  let cause := s.slotCause ch u
  let fl := if cause = 0 then s.slotFlags ch (k.d * basePeriod) u else 0
  let here : Bool := cause == 0
  let s := s.modChan ch (fun c => { c with
    pend := c.pend ++ [{ seq := c.seq, t := u, fl := fl, gain := c.gainOn u, cause := cause, head := k.head }]
    settle := if here && decide (c.settleFrom ≤ u) then c.settle - 1 else c.settle
    calswapFrom := if here && c.calswapFrom.any (fun e => e ≤ u) then none else c.calswapFrom
    fencedFrom := if here && c.fencedFrom.any (fun e => e < u) then none else c.fencedFrom
    rangeTail := match c.rangeTail with
      | some r => if r.2 ≤ u then none else some r
      | none => none })
  s.nextSeq ch u

/-- Whether a channel has an output slot at instant u: in HELD it has none (R392). -/
def State.slotDue (s : State) (ch u : Nat) : Bool :=
  let c := s.chan ch
  let k := c.chainAt u
  s.running && decide (c.slotAt < u) && onGrid k.org (k.d * basePeriod) u && decide (k.org < u)

/-! Delivery. -/

/-- Closes the intervals of a channel that end at the grid's present slot, accumulators first (R174, R176). -/
def State.closeGrid (s : State) (ch : Nat) : State :=
  let ends := fun (n : Nat) => n != 0 && (s.chan ch).gridSlot % n == 0
  if !(s.chan ch).gridDue then s
  else
    let s := s.modChan ch (fun c => { c with gridDue := false })
    let s := if s.redEn ch 0 && ends (s.cfgN 0x11 ch 0x061) then s.closeAcc ch {} else s
    if s.redEn ch 1 && ends (s.cfgN 0x11 ch 0x062) then s.closeMm ch {} else s

/-- The reductions of a channel take an entry; intervals that the grid ended before it close first (R174, R176). -/
def State.reduceNext (s : State) (ch : Nat) (e : Entry) : State := (s.closeGrid ch).reduce ch e

/-- What was marked for a channel up to before its slot of instant t happens to intervals reduced from the fine path (R175). -/
def State.takeMarks (s : State) (ch t : Nat) : State :=
  let l := (s.chan ch).marks.filter (fun m => m.1 < t)
  let s := s.modChan ch (fun c => { c with marks := c.marks.filter (fun m => t ≤ m.1) })
  if s.redEn ch 2 then s
  else
    forAll l (fun s m => match m.2 with
      | .split => s.splitIntervals ch
      | .restart resync => s.restartIntervals ch resync) s

/-- A commanded or vibrating-wire span takes a slot; the latter begins with the first sample after the SETTLE window (R73,
R181). -/
def spanTake (gap : Bool) (w : RingWord) (p : Span) : Span :=
  if p.typ = 2 ∧ p.n = 0 ∧ w.cause = 0 ∧ hasFl w.fl flSettle = true then p else spanWord gap w p

/-- A slot of a channel is delivered: the stream, the ring, the open records, the spans and the reductions take it (R165, R170,
R181, R213, R214). -/
def State.slotIn (s : State) (ch : Nat) (w : RingWord) : State :=
  let r := s.streamSlot ch w
  let s := r.1.modChan ch (fun c => { c with
    ring := ringPush c.ring w, pieces := addPiece c.pieces w.seq w.t w.period, span := c.span.map (spanTake r.2 w) })
  let s := forAll (List.range 16) (fun s k => (s.memberTake k ch w).memberCheck k ch) s
  let v := if w.cause = 0 then some (w.x, w.fl, w.fl) else none
  if s.redEn ch 2 then s
  else s.reduceNext ch { v := v, t := w.t, seq := w.seq, gain := w.gain, gap := r.2 || w.cause != 0 }

/-- The head of a channel's waiting slots is delivered: a slot that was not produced, or its sample; intervals that end with the
slot before it close first (R118 to R121, R128, R174 to R176). -/
def State.deliverOne (s : State) (ch : Nat) (p : Pend) : State :=
  let s := (if s.redEn ch 2 then s else s.closeGrid ch).takeMarks ch p.t
  let h := s.formed ch p.head
  match (if p.cause = 0 then p.v else none) with
  | none => s.slotIn ch { seq := p.seq, t := p.t, w := 0, fl := 0, gain := p.gain, cause := p.cause, head := h }
  | some v =>
    let v := inLsb p.gain v
    let fl := p.fl ||| flIf (fmtClips h.fmt v) flClip
    let w : RingWord := {
      seq := p.seq, t := p.t, w := fmtWord h.fmt h.flags v fl, fl := fl, x := s32r v, gain := p.gain, head := h }
    let s := (s.modChan ch (fun c => { c with lastWord := w })).slotIn ch w
    s.slotValues ch true (w.x.tdiv (2 ^ p.gain)) (hasFl fl flSettle) p.t

/-- Delivers the slots of a channel that are ready, in order (R129, R165). -/
def State.deliver (s : State) (ch : Nat) : Nat → State
  | 0 => s
  | n + 1 =>
    match (s.chan ch).pend with
    | [] => s
    | p :: r =>
      if p.cause = 0 ∧ p.v = none then s
      else ((s.modChan ch (fun c => { c with pend := r })).deliverOne ch p).deliver ch n

/-- A channel takes the base-rate period that ends at u: its converters' samples while it runs, then its output slot, if one
ends there, and what can be delivered (R115, R124, R128, R129). -/
def State.feedOne (s : State) (ch u : Nat) (p : BasePer) : State :=
  let s := s.gapDue (cellOfCh ch)
  let s := if (s.chan ch).pausedFrom.any (fun e => e < u) then s.dropPend ch 1 (fun _ => true) else s
  let s := if s.cellRuns (cellOfCh ch) && !(s.chan ch).idleAt u then s.takePeriod ch u p else s
  let s := s.modChan ch (fun c => { c with fedAt := u })
  let s := if s.slotDue ch u then s.newSlot ch u else s
  let s := s.deliver ch ((s.chan ch).pend.length)
  s.modChan ch (fun c => { c with
    old := if c.pend.any (fun p => p.cause == 0 && p.v.isNone && decide (p.t ≤ c.chain.start)) || decide (u ≤ c.chain.start)
      then c.old else none })

/-- A channel takes the base-rate periods since the last one it took, the last of which ends now (R76).
DESIGN CHOICE, log entry 12. -/
def State.feed (s : State) (ch : Nat) (ps : List BasePer) : State :=
  let now := s.now
  let n := (now - (s.chan ch).fedAt) / basePeriod
  forAll (lastPeriods n ps).zipIdx (fun s x => s.feedOne ch (now - (n - 1 - x.2) * basePeriod) x.1) s

/-- Whether a channel takes base-rate periods up to now: the hub runs and now is a base-rate boundary of its cell. -/
def State.feeds (s : State) (ch : Nat) : Bool :=
  s.running && onGrid (s.cell (cellOfCh ch)).origin basePeriod s.now

/-- OUTPUT_SAMPLE (R124, R128, R129): the base-rate periods of a channel up to a base-rate boundary, with the output samples that
follow from them. DESIGN CHOICE, log entry 12. -/
def execOutputSample (t ch : Nat) (ps : List BasePer) (s : State) : Host.Outcome State Fault Refusal :=
  onUnit .channel ch t s (fun s => whenB (s.feeds ch) (·.feed ch ps) s)

/-- WARM_SEAM (R107): the channel takes its base-rate periods up to the seam, which the match ends with (R108), and then the
incoming converter's stream. -/
def execWarmSeam (t cell : Nat) (ps : List BasePer) (s : State) : Host.Outcome State Fault Refusal :=
  onUnit .cell cell t s (fun s =>
    match (s.cell cell).seam with
    | .takeover p ch c true =>
      if s.seamAt ch c 4160 then (whenB (s.feeds ch) (·.feed ch ps) s).takeoverSeam p cell ch else s
    | .handback p ch c true =>
      if s.seamAt ch c 4160 then (whenB (s.feeds ch) (·.feed ch ps) s).handbackSeam p cell ch else s
    | _ => s)

/-! The coarse path. -/

/-- The coarse-flag byte: VALID, CLIP, SENSOR (R148). -/
def coarseFlags (valid clip sensor : Bool) : BitVec 8 := BitVec.ofNat 8 (b2n valid ||| b2n clip <<< 1 ||| b2n sensor <<< 2)

/-- Coarse flags at the places of the sample flags: VALID clear counts as SETTLE (R172). -/
def coarseAsSample (fl : BitVec 8) : BitVec 8 :=
  flIf (!hasFl fl 1) flSettle ||| flIf (hasFl fl 2) flClip ||| flIf (hasFl fl 4) flSensor

/-- The coarse value of a channel now: the sinc⁴ over the latest modulator-rate values, rounded to 4.096 V / 2^31 and saturated;
twice the product on a lock-in gait (R147, R148). DESIGN CHOICE, log entry 120. -/
def Chan.coarseNow (c : Chan) : Int :=
  let y := dot sincTaps c.fast.reverse / 2 ^ 36 / 128
  clampI (-(2 ^ 31)) (2 ^ 31 - 1) (rneQ (if c.chain.lock then 2 * y else y))

/-- The flag byte of a channel's coarse value of now, over its span of 0.5 ms (R42, R66, R80, R81, R148, R149). -/
def State.coarseFl (s : State) (ch : Nat) : BitVec 8 :=
  let c := s.chan ch
  let from_ := s.now - 500000
  coarseFlags (decide (c.coarseFrom ≤ s.now)) (decide (from_ < c.clipAt)) (s.sensorBad ch || decide (from_ < c.sensorTill))

/-- What was marked for a channel before its coarse value of now happens to intervals reduced from the coarse path (R175). -/
def State.takeCmarks (s : State) (ch : Nat) : State :=
  let now := s.now
  let l := (s.chan ch).cmarks.filter (fun m => m.1 < now)
  let s := s.modChan ch (fun c => { c with cmarks := c.cmarks.filter (fun m => now ≤ m.1) })
  if s.redEn ch 2 then forAll l (fun s m => s.restartIntervals ch m.2) s else s

/-- The reduction of a channel from the coarse path takes a value of now, or the absence of one on the grid. Its number is that of
the channel's next output slot, and a value off the 1 ms grid (R149) has no place in the grid (R170, R174, R177, R178).
DESIGN CHOICE, log entry 118. -/
def State.reduceCoarse (s : State) (ch : Nat) (v : Option (Int × BitVec 8)) : State :=
  let s := (if s.redEn ch 2 then s.closeGrid ch else s).takeCmarks ch
  let c := s.chan ch
  if s.redEn ch 2 then
    s.reduceNext ch {
      v := v.map (fun x => (x.1, coarseAsSample x.2, x.2)), t := s.now, seq := c.seq, gain := c.gain, gap := v.isNone
      onGrid := onGrid (s.cell (cellOfCh ch)).origin 1000000 s.now }
  else s

/-- COARSE_VALUE (R147 to R149): on the 1 ms grid, and 1 ms after a restart. -/
def execCoarseValue (t ch : Nat) (ps : List BasePer) (s : State) : Host.Outcome State Fault Refusal :=
  onUnit .channel ch t s (fun s =>
    let grid := onGrid (s.cell (cellOfCh ch)).origin 1000000 s.now
    if !s.feeds ch then s
    else
      let s := s.feed ch ps
      if !grid && s.now != (s.chan ch).coarseFrom then s
      else if !s.chanRuns ch then whenB grid (·.reduceCoarse ch none) s
      else
        let x := (s.chan ch).coarseNow
        let fl := s.coarseFl ch
        let s := s.modChan ch (fun c => { c with coarseV := BitVec.ofInt 32 x, coarseFl := fl })
        (s.slotValues ch false x (!hasFl fl 1) s.now).reduceCoarse ch (some (x, fl)))

/-! Swaps and gait changes. -/

/-- Why a swap of a gait fails now: 1 the inactive bank is empty, 2 it is a linear-phase user set with even N, 3 another swap
is pending, 0 not (R140). DEDUCED, log entry 99. -/
def State.swapWhy (s : State) (g : Nat) : Nat :=
  let hdr := s.cfgN 0x12 g (0x010 + b2n (!(s.gait g).active))
  let b := bankOf hdr
  if b.1 = 0 then 1 else if fld hdr 28 3 = 0 ∧ b.2.1 = false ∧ b.1 % 2 = 0 then 2
  else if (s.gait g).pendingAt.isSome then 3 else 0

/-- The status of a written swap (R140). -/
def State.swapStatus (s : State) (g : Nat) : Nat :=
  match s.swapWhy g with
  | 0 => stOk
  | 3 => stRetry
  | _ => stParamRange

/-- The first base-rate boundary of a channel's cell at or after instant t. -/
def State.boundaryAt (s : State) (ch t : Nat) : Nat := gridUp (s.cell (cellOfCh ch)).origin basePeriod t

/-- The base-rate boundary of R28 for a write that reaches a channel's cell now. -/
def State.afterNow (s : State) (ch : Nat) : Nat := s.boundaryAt ch (s.now + 1)

/-- A swap becomes pending: it takes effect at the first output boundary at or after instant b (R139). -/
def State.doSwap (s : State) (g b : Nat) (written : Bool) : State :=
  s.modGait g (fun c => { c with pendingAt := some b, written := written })

/-- SWAP (R28, R139, R140). -/
def execSwap (t : Nat) (h : Hdr) (gait : Nat) (s : State) : Host.Outcome State Fault Refusal :=
  itemCommand (pid 0x12 gait 0x012) 1 h t s (fun s => s.swapStatus gait) (fun s => s.doSwap gait (s.now + 1) true)

/-- A channel takes gait g now, at an output boundary of its old rate: its intervals restart, its histories clear and its SETTLE
window opens (R134, R154, R156, R175). -/
def State.takeGait (s : State) (ch g : Nat) : State :=
  let now := s.now
  let s := (s.mark ch now (.restart false)).modChan ch (fun c => { c with gait := g, d := s.cfgN 0x12 g 0, gaitPend := none })
  s.clearingRestart ch now

/-- The channels that run on a gait. -/
def State.onGait (s : State) (g : Nat) : List Nat :=
  (List.range 384).filter (fun ch => (s.chan ch).gait == g && s.chanRuns ch)

/-- The write of v to an item of cell c (48 + g for gait g) is issued: until it takes effect the old value is in force
(R28, R156, R366). DEDUCED, log entry 75. -/
def State.issue (s : State) (c id v : Nat) : State :=
  let w : Issued := ⟨s.cmds.writes, c, BitVec.ofNat 32 id, BitVec.ofNat 32 v, BitVec.ofNat 32 (s.effAt id), s.now⟩
  { s with cmds := { s.cmds with issued := s.cmds.issued ++ [w], writes := s.cmds.writes + 1 } }

/-- The write of v to an item of gait g, for every channel that runs on it from its first base-rate boundary at or after t on: a change of DECIM or
of LOCKIN EN is a gait change, one of HP or REFWAVE waits for an output boundary, and one of the inactive bank's header, a
staged item, changes nothing at work and waits for nothing (R28, R156, R366). -/
def State.gaitWrite (s : State) (t g id v : Nat) : State :=
  let old := s.cfgAt id
  let k := pidItem id
  let s := (if k ≤ 2 then s.issue (48 + g) id v else s).setCfg id v
  let each := fun (f : State → Nat → State) => forAll (s.onGait g) f s
  if (k = 0 ∧ old ≠ v) ∨ (k = 2 ∧ bit old 0 ≠ bit v 0) then
    each (fun s ch =>
      let b := s.boundaryAt ch t
      s.modChan ch (fun c => { c with gaitPend := some (c.gaitPend.getD (g, b)) }))
  else if k = 1 ∧ old ≠ v then each (fun s ch => s.atOutput ch (s.boundaryAt ch t) 0x1201)
  else if k = 2 ∧ old ≠ v then each (fun s ch => s.atOutput ch (s.boundaryAt ch t) 0x1202)
  else s

/-- A channel's samples after its first output boundary at or after b are computed with the active bank (R139, R141). -/
def State.bankFrom (s : State) (b ch : Nat) : State :=
  let g := (s.chan ch).gait
  let coefs := s.bankCoefs g (s.gait g).active
  (s.modChan ch (fun c =>
    let k := c.chain
    let u := gridUp k.org (k.d * basePeriod) b
    { c with chain := { k with past := k.past ++ [(u, k.filt)], filt := { k.filt with coefs := coefs } } })).resizeSettle ch

/-- The effect of a swap pending since instant b: the other bank is active; equal alignment keeps everything, another one is a gait
change of every channel at its output boundary (R139 to R142, R157). DEDUCED, log entry 99. -/
def State.swapNow (s : State) (g b : Nat) : State :=
  let old := s.activeBank g
  let s := s.modGait g (fun c => { active := !c.active })
  let new := s.activeBank g
  let s := s.bump (pid 0x12 g 0x013) 16 16
  if alignHalf old = alignHalf new then forAll (s.onGait g) (State.bankFrom · b ·) s
  else
    forAll (s.onGait g) (fun s ch =>
      if s.outAt ch s.now then s.takeGait ch g
      else s.modChan ch (fun c => { c with gaitPend := some (c.gaitPend.getD (g, b)) })) s

/-- Whether now is an output boundary of a channel that runs on a gait; with none any instant is. -/
def State.gaitBoundary (s : State) (g : Nat) : Bool :=
  (s.onGait g).isEmpty || (s.onGait g).any (fun ch => s.outAt ch s.now)

/-- A channel takes the gait that it waits for, at the first output boundary of its old rate at or after the change's base-rate
boundary (R134, R156). -/
def State.pendingGait (s : State) (ch : Nat) : State :=
  match (s.chan ch).gaitPend with
  | none => s
  | some (g, b) => if s.chanRuns ch && decide (b ≤ s.now) && s.outAt ch s.now then s.takeGait ch g else s

/-- Whether now is a base-rate boundary for a commit: of every cell that runs, else of the first; of the timescale in HELD,
once power-up calibration has ended (R383, R391, R394). DEDUCED, log entry 82. -/
def State.onBoundary (s : State) : Bool :=
  if s.running then
    let l := (List.range 48).filter s.cellRuns
    (if l.isEmpty then [0] else l).all (fun c => onGrid (s.cell c).origin basePeriod s.now)
  else s.boot.phase == .ready && s.stamp % basePeriod == 0

/-- Whether every configuration write completed before an IMG_COMMIT was taken has taken effect (R386). -/
def State.commitReady (s : State) : Bool :=
  match s.cmds.issued.find? (fun w => w.cell == 56) with
  | some c => s.cmds.issued.all (fun w => w.cell == 56 || c.seq ≤ w.seq || !s.stillIssued w)
  | none => true

/-- Whether a commit under way is at its boundary now (R383, R386). DEDUCED, log entry 81. -/
def State.commitNow (s : State) : Bool := s.image.commitAt.any (fun e => e ≤ s.now) && s.onBoundary && s.commitReady

/-- Whether something that comes before gait changes and swaps on one boundary is still to happen now: an entry fires, or a
commit is at its boundary (R271). -/
def State.boundaryWaits (s : State) : Bool := s.firesNow || s.commitNow

/-- SWAP_EFFECT (R139): at an output boundary, after the gait changes of that boundary (R271); a written swap is checked again
and dropped with event 0x12 when it fails (R140). DEDUCED, log entry 99. -/
def execSwapEffect (t gait : Nat) (s : State) : Host.Outcome State Fault Refusal :=
  onUnit .gait gait t s (fun s =>
    let c := s.gait gait
    match c.pendingAt with
    | none => s
    | some b =>
      if s.boundaryWaits || s.now < b || !s.gaitBoundary gait then s
      else
        let s := forAll (List.range 384) State.pendingGait s
        let s := s.modGait gait (fun c => { c with pendingAt := none, written := false })
        if c.written && s.swapWhy gait != 0 then s.raise 0x12 [(gait, 3), (s.swapWhy gait, 2)]
        else s.swapNow gait b)

/-- GAIT_CHANGE (R156): at an output boundary of the old rate. -/
def execGaitChange (t ch : Nat) (s : State) : Host.Outcome State Fault Refusal :=
  onUnit .channel ch t s (fun s => if s.boundaryWaits then s else s.pendingGait ch)

/-! Reductions and measurements. -/

/-- The status of a write of RED_CTL (R169). -/
def redCtlStatus (val : Nat) : Nat := if bit val 2 && bit val 3 then stParamRange else stOk

/-- A write of RED_CTL (R169, R175). -/
def State.doRedCtl (s : State) (ch val : Nat) : State :=
  let s := if bit val 0 then s.closeAcc ch { manual := true } else s
  let s := if bit val 1 then s.closeMm ch { manual := true } else s
  let s := if bit val 2 then
      let c := s.chan ch
      s.latchReductions ch (s.stampAcc c.acc) (s.accReason ch {}).toNat (s.stampMm c.mm) (s.mmReason ch {}).toNat
        (fld (s.redCfg ch) 3 6)
    else s
  if bit val 3 then
    let c := s.chan ch
    let a := c.accLast.getD ({}, 0, fld (s.redCfg ch) 3 6)
    let m := c.mmLast.getD ({}, 0)
    s.latchReductions ch a.1 a.2.1 m.1 m.2 a.2.2
  else s

/-- RED_CLOSE_ACC (R175). -/
def execRedCloseAcc (t : Nat) (h : Hdr) (ch : Nat) (s : State) : Host.Outcome State Fault Refusal :=
  itemCommand (pid 0x11 ch 0x063) 1 h t s noCheck (fun s => s.doRedCtl ch 1)

/-- RED_CLOSE_MM (R175). -/
def execRedCloseMm (t : Nat) (h : Hdr) (ch : Nat) (s : State) : Host.Outcome State Fault Refusal :=
  itemCommand (pid 0x11 ch 0x063) 2 h t s noCheck (fun s => s.doRedCtl ch 2)

/-- RED_LATCH_LIVE (R169). -/
def execRedLatchLive (t : Nat) (h : Hdr) (ch : Nat) (s : State) : Host.Outcome State Fault Refusal :=
  itemCommand (pid 0x11 ch 0x063) 4 h t s noCheck (fun s => s.doRedCtl ch 4)

/-- RED_LATCH_LAST (R169). -/
def execRedLatchLast (t : Nat) (h : Hdr) (ch : Nat) (s : State) : Host.Outcome State Fault Refusal :=
  itemCommand (pid 0x11 ch 0x063) 8 h t s noCheck (fun s => s.doRedCtl ch 8)

/-- INTERVAL_CLOSE (R174, R176): accumulators first. -/
def execIntervalClose (t ch : Nat) (s : State) : Host.Outcome State Fault Refusal :=
  onUnit .channel ch t s (fun s => s.closeGrid ch)

/-- The status of a write of MEAS_CMD (R182). -/
def State.measStatus (s : State) (ch : Nat) : Nat := if (s.chan ch).span.isSome then stRetry else stOk

/-- A commanded span starts with the first output sample after the base-rate boundary of R28 (R181); the channel is then not
idle (R289). -/
def State.doMeas (s : State) (ch : Nat) : State :=
  let n := s.cfgN 0x11 ch 0x085
  let b := s.afterNow ch
  (s.abandonGap ch).modChan ch (fun c => { c with span := some {
    typ := 3, t0 := b, xs := [], n := 0, left := some n, flags := 0, gap := false, recNum := 0, epoch := 0, ended := false
    since := b, gain := c.gain } })

/-- MEAS_CMD (R181 to R183, R351): answered ACCEPTED. -/
def execMeasCmd (t : Nat) (h : Hdr) (ch : Nat) (s : State) : Host.Outcome State Fault Refusal :=
  packet opWriteParam h t s (fun s =>
    let st := s.itemStatus (pid 0x11 ch 0x084) 1
    let st := if st = stOk then s.measStatus ch else st
    if st ≠ stOk then s.finish h opWriteParam st else (s.doMeas ch).accept h opWriteParam (.meas ch))

/-- Whether the record that a record span belongs to has ended for its channel. -/
def State.memberEnded (s : State) (ch : Nat) (p : Span) : Bool :=
  match s.trig.recs.find? (fun r => r.2.num == p.recNum && r.2.epoch == p.epoch) with
  | none => true
  | some r => r.2.members.any (fun m => m.ch == ch && m.finished)

/-- SPAN_END (R185). -/
def execSpanEnd (t ch : Nat) (ofRecord : Bool) (s : State) : Host.Outcome State Fault Refusal :=
  onUnit .channel ch t s (fun s =>
    if ofRecord then
      match (s.chan ch).recSpan with
      | some p => if p.left == some 0 || s.memberEnded ch p then s.modChan ch (fun c => { c with recSpan := some { p with ended := true } }) else s
      | none => s
    else
      match (s.chan ch).span with
      | some p => if p.left = some 0 then s.modChan ch (fun c => { c with span := some { p with ended := true } }) else s
      | none => s)

/-- The result of a record span: stream, LAST_MEAS and the record's trailer (R189). -/
def State.recResult (s : State) (ch : Nat) (p : Span) : State :=
  let b := s.resultOf le ch p false 0xFFFFFFFF 0
  let s := s.modChan ch (fun c => { c with recSpan := none })
  let s := { s with trig := { s.trig with recs := s.trig.recs.map (fun (r : Nat × Record) =>
    if r.2.num = p.recNum ∧ r.2.epoch = p.epoch then (r.1, { r.2 with results := r.2.results ++ [(ch, b)] }) else r) } }
  s.putResult ch b

/-- The result of a commanded span: stream, LAST_MEAS and the final reply of its MEAS_CMD (R183, R189). -/
def State.cmdResult (s : State) (ch : Nat) (p : Span) : State :=
  let l := s.resultOf le ch p false 0xFFFFFFFF 0
  let b := s.resultOf be ch p false 0xFFFFFFFF 0
  ((s.modChan ch (fun c => { c with span := none })).putResult ch l).finalReply (.meas ch) stOk 0 b

/-- MEAS_RESULT (R189); a vibrating-wire span's result is given at VW_CAPTURE_END. -/
def execMeasResult (t ch : Nat) (ofRecord : Bool) (s : State) : Host.Outcome State Fault Refusal :=
  onUnit .channel ch t s (fun s =>
    if ofRecord then
      match (s.chan ch).recSpan with
      | some p => if p.ended then s.recResult ch p else s
      | none => s
    else
      match (s.chan ch).span with
      | some p => if p.ended && p.typ == 3 then s.cmdResult ch p else s
      | none => s)

/-- What is left of a gap after an entry with CONT at instant now, the next slot being seq at instant t (R193). -/
def gapRest (g : Gap) (now t : Nat) : Gap := ⟨g.cause, g.first + g.count, 0, t, now, g.head⟩

/-- Whether a gap has lasted 60 s since its last entry. -/
def gapDue (g : Gap) (now : Nat) : Bool := g.count != 0 && decide (g.since + 60000000000 ≤ now)

/-- GAP_ENTRY_CONT (R193): in the stream, and in the records the channel is a member of. -/
def execGapEntryCont (t ch : Nat) (s : State) : Host.Outcome State Fault Refusal :=
  onUnit .channel ch t s (fun s =>
    let now := s.now
    let next := s.nextT ch
    let s := match (s.chan ch).gap with
      | some g =>
        if gapDue g now && s.pd 2 then
          (s.putGap ch none g true).modChan ch (fun c => { c with gap := some (gapRest g now next) })
        else s
      | none => s
    forAll (List.range 16) (fun s k =>
      match (tfind s.trig.recs k).bind (fun r => r.members.find? (fun m => m.ch == ch)) with
      | some m =>
        match m.gap with
        | some g =>
          if gapDue g now && s.pd 2 then
            (s.putGap ch (some k) g true).modRec k (modMember ch (fun m =>
              { m with gap := some (gapRest g now next), gapSlots := m.gapSlots + g.count }))
          else s
        | none => s
      | none => s) s)

/-! Latched reads. -/

/-- The word LAST_INFO shows of the latest sample (R196). -/
def State.lastInfo (s : State) (ch : Nat) : Nat :=
  let w := (s.chan ch).lastWord
  w.fl.toNat ||| w.gain <<< 8 ||| (w.seq % 2 ^ 16) <<< 16

/-- A read of LAST_SAMPLE: the value, with LAST_INFO frozen (R197). -/
def State.readLastSample (s : State) (ch : Nat) : State × Nat :=
  let w := (s.chan ch).lastWord
  (s.modChan ch (fun c => { c with infoFrozen := some (BitVec.ofNat 32 (s.lastInfo ch)) }), code 32 w.x)

/-- A read of LAST_COARSE: the value, with LAST_CFLAGS frozen (R197). -/
def State.readLastCoarse (s : State) (ch : Nat) : State × Nat :=
  let c := s.chan ch
  (s.modChan ch (fun c => { c with coarseFrozen := some c.coarseFl }), c.coarseV.toNat)

/-- A READ_PARAM of one latching item: the answer carries the value read (R352). -/
def latchRead (ok : Bool) (h : Hdr) (t : Nat) (s : State) (f : State → State × Nat) : Host.Outcome State Fault Refusal :=
  packet 0x0200 h t s (fun s =>
    if ok then (f s).1.finish h 0x0200 stOk 0 (be 4 (f s).2) else s.finish h 0x0200 stParamRange)

/-- LAST_SAMPLE_READ (R197). -/
def execLastSampleRead (t : Nat) (h : Hdr) (ch : Nat) (s : State) : Host.Outcome State Fault Refusal :=
  latchRead (decide (ch < 384)) h t s (fun s => s.readLastSample ch)

/-- LAST_COARSE_READ (R197). -/
def execLastCoarseRead (t : Nat) (h : Hdr) (ch : Nat) (s : State) : Host.Outcome State Fault Refusal :=
  latchRead (decide (ch < 384)) h t s (fun s => s.readLastCoarse ch)

end Sys2Proof.Machine
end

