-- ==== Sys2Proof/Machine/Records.lean ====
section
/-! DEFINITION. The meanings of slot results, trigger events, records and network triggers (R204 to R230). -/

namespace Sys2Proof.Machine

/-- Whether a profile with EN set keeps the limits of R213 on each member's configured gait, and has members. -/
def State.profileOk (s : State) (p : Nat) : Bool :=
  let pre := s.cfgN 0x15 p 1
  let post := s.cfgN 0x15 p 2
  let ms := s.profMembers p
  !ms.isEmpty && ms.all (fun ch =>
    let d := s.cfgN 0x12 (s.cfgF 0x11 ch 0x050 0 3) 0
    decide (cdiv pre d ≤ 8064) && decide (d ≤ pre + post))

/-- The status of a write of MANUAL (R213, R215). -/
def State.manualStatus (s : State) (p : Nat) : Nat :=
  if s.cfgB 0x15 p 0 0 && s.profileOk p then stOk else stParamRange

/-- Whether a manual record would be broadcast (R211, R221). -/
def State.wantsNet (s : State) (p : Nat) (net : Bool) : Bool := net || s.cfgB 0x15 p 0 2

/-- A manual trigger of a profile at the base-rate boundary of R28 of its first member (R215). DEDUCED, log entry 100. -/
def State.doManual (s : State) (p : Nat) (net : Bool) : State × Option Nat :=
  s.trigger p {
    origin := 2
    t := s.afterNow ((s.profMembers p).headD 0)
    bcast := s.wantsNet p net && s.time.state != .unlocked }

/-- MANUAL (R215). -/
def execManual (t : Nat) (h : Hdr) (profile : Nat) (net : Bool) (s : State) : Host.Outcome State Fault Refusal :=
  itemCommand (pid 0x15 0x1FF 4) (profile ||| b2n net <<< 4) h t s (fun s => s.manualStatus profile)
    (fun s => (s.doManual profile net).1)

/-- The open record of a profile that a local trigger opened. -/
def State.localRec (s : State) (p : Nat) : Option Record :=
  ((s.trig.recs.map Prod.snd).find? (fun r => r.profile == p && r.origin != 3))

/-- The reply data of RECORD_MANUAL. -/
def recReply (epoch num : Nat) : List Byte := be 2 epoch ++ be 4 num

/-- A taken RECORD_MANUAL: the record opened, or the open one that counts a retrigger; NO_SPACE when it is missed; detail 1
when the hub is UNLOCKED and the record would have been broadcast (R349). -/
def State.recordManual (s : State) (h : Hdr) (p : Nat) (net : Bool) : State :=
  let mute := b2n (s.wantsNet p net && s.time.state == .unlocked)
  match s.localRec p with
  | some r => (s.doManual p net).1.finish h 0x0400 stOk 0 (recReply r.epoch r.num)
  | none =>
    let e := s.trig.epoch
    let r := s.doManual p net
    match r.2 with
    | some n => r.1.finish h 0x0400 stOk mute (recReply e n)
    | none => r.1.finish h 0x0400 stNoSpace 1

/-- RECORD_MANUAL (R349, R393). -/
def execRecordManual (t : Nat) (h : Hdr) (profile : Nat) (net : Bool) (s : State) : Host.Outcome State Fault Refusal :=
  packet 0x0400 h t s (fun s =>
    if !s.running then s.finish h 0x0400 stNotCommitted
    else if 16 ≤ profile ∨ s.manualStatus profile ≠ stOk then s.finish h 0x0400 stParamRange
    else s.recordManual h profile net)

/-- The record in slot k closes: each member ends at its first output boundary at or after the base-rate boundary of R28, if that
comes first; a record whose members had all ended before stays one that reached POST (R216, R230). DEDUCED, log entry 100. -/
def State.doRctl (s : State) (k : Nat) : State :=
  match tfind s.trig.recs k with
  | none => s
  | some r =>
    let fin := fun (m : Member) =>
      if m.finished then m.endAt
      else min m.endAt (gridUp (s.chan m.ch).chain.org (s.outPeriod m.ch) (s.afterNow m.ch))
    let ms := r.members.map (fun m => { m with endAt := fin m })
    let cut := r.members.any (fun m => fin m < m.endAt)
    let s := s.modRec k (fun r => { r with
      members := ms, closedBy := if cut then 2 else r.closedBy, endAt := some (maxOf 0 (ms.map Member.endAt)), phase := 2 })
    forAll ms (fun s m => s.memberCheck k m.ch) s

/-- The status of a write of RCTL (R211). -/
def State.rctlStatus (s : State) (k : Nat) : Nat := if (tfind s.trig.recs k).isSome then stOk else stDenied

/-- RCTL (R211, R216). -/
def execRctl (t : Nat) (h : Hdr) (slot : Nat) (s : State) : Host.Outcome State Fault Refusal :=
  itemCommand (pid 0x15 (0x100 + slot) 5) 1 h t s (fun s => s.rctlStatus slot) (fun s => s.doRctl slot)

/-- RECORD_CLOSE (R349, R393). -/
def execRecordClose (t : Nat) (h : Hdr) (slot : Nat) (s : State) : Host.Outcome State Fault Refusal :=
  packet 0x0401 h t s (fun s =>
    if !s.running then s.finish h 0x0401 stNotCommitted
    else if 16 ≤ slot then s.finish h 0x0401 stParamRange
    else if s.rctlStatus slot ≠ stOk then s.finish h 0x0401 (s.rctlStatus slot)
    else (s.doRctl slot).finish h 0x0401 stOk)

/-- The combiner takes a result of instant trig from slot n: it joins the event that forms for trig, or starts one, with
LATE when an event for trig has been before (R205). -/
def State.combine (s : State) (n trig : Nat) : State :=
  let now := s.now
  let joins := fun (f : Forming) => f.trig == trig && decide (now ≤ f.first + 100000)
  let m := BitVec.ofNat 512 (2 ^ n)
  if s.trig.forming.any joins then
    { s with trig := { s.trig with
        forming := s.trig.forming.map (fun f => if joins f then { f with mask := f.mask ||| m } else f) } }
  else
    let late := s.trig.evaluated.contains trig || s.trig.forming.any (fun f => f.trig == trig)
    { s with trig := { s.trig with forming := s.trig.forming ++ [⟨trig, now, m, late⟩] } }

/-- SLOT_RESULT (R205): a slot's oldest result reaches the combiner; without PD2 nothing takes it (R31). -/
def execSlotResult (t slot : Nat) (s : State) : Host.Outcome State Fault Refusal :=
  onUnit .slot slot t s (fun s =>
    match (if s.pd 2 then (s.slot slot).results else []) with
    | [] => s
    | x :: r => (s.modSlot slot (fun c => { c with results := r })).combine slot x)

/-- TRIGGER_EVENT (R205): the merge window of the event for trig has ended. -/
def execTriggerEvent (t trig : Nat) (s : State) : Host.Outcome State Fault Refusal :=
  at_ t s (fun s =>
    match (if s.pd 2 then s.trig.forming.find? (fun f => f.trig == trig && decide (f.first + 100000 ≤ s.now)) else none) with
    | none => s
    | some f =>
      let s := { s with trig := { s.trig with
        forming := s.trig.forming.erase f
        evaluated := if s.trig.evaluated.contains trig then s.trig.evaluated else trig :: s.trig.evaluated } }
      s.evalTrigger f)

/-- The trailer's view of a record: results in ascending channel order (R230). -/
def trailerOf (r : Record) : Record :=
  { r with results := r.results.foldl (fun l x => insertBy (fun a b => a.1 < b.1) x l) [] }

/-- RECORD_END (R216): the trailer is written and the slot freed, 125 us after it was taken at the earliest; a trailer
that finds no room waits (R412). -/
def execRecordEnd (t slot : Nat) (s : State) : Host.Outcome State Fault Refusal :=
  onUnit .record slot t s (fun s =>
    match tfind s.trig.recs slot with
    | none => s
    | some r =>
      if r.members.all Member.finished && decide (r.want ≤ r.results.length) && decide (r.taken + 125000 ≤ s.now) then
        let i := Item.trailer (trailerOf r)
        if s.admitOther (itemSize 0 false i) then
          let s := s.putLone 0x13 r.profile i
          { s with trig := { s.trig with recs := tdel s.trig.recs slot } }
        else s
      else s)

/-- The EXT slots whose SRC is n (R198, R204). -/
def State.extSlots (s : State) (n : Nat) : List Nat :=
  (List.range 512).filter (fun k => s.slotKind k == 5 && s.cfgF 0x13 k 8 0 2 == n)

/-- A network trigger message is accepted: matching EXT slots see it, and each matching profile opens a record (R204,
R222). -/
def State.acceptNet (s : State) (m : NetTrig) : State :=
  let x := runtimeAt s.time m.trig
  let s := { s with trig := { s.trig with triples := ((m.hub, m.epoch, m.number) :: s.trig.triples).take 64 } }
  let s := forAll ((s.extSlots 2).filter (fun k => s.cfgF 0x13 k 8 16 16 == m.ncode))
    (fun s k => s.extMessage k x) s
  forAll ((List.range 16).filter (fun p =>
      s.cfgB 0x15 p 0 0 && s.cfgB 0x15 p 0 3 && s.cfgF 0x15 p 0 16 16 == m.ncode))
    (fun s p => (s.trigger p {
      origin := 3
      t := x
      oHub := m.hub
      oEpoch := m.epoch
      oNum := m.number
      ncode := m.ncode
      tStamp := some m.trig }).1) s

/-- A network trigger message delivered to this hub (R220, R222, R392). -/
def State.takeNet (s : State) (m : NetTrig) : State :=
    if !s.running then s
    else if s.time.state = .unlocked then s.missed 2 0 m.ncode
    else if m.island ≠ s.time.island then s.missed 3 0 m.ncode
    else if s.trig.triples.contains (m.hub, m.epoch, m.number) then s
    else s.acceptNet m

/-- A network trigger broadcast with sequence q that came in on a port after some hops: new, it is delivered and forwarded
(R485). -/
def State.netTrigger (s : State) (port q hops : Nat) (m : NetTrig) : State :=
  if !s.bcastNew m.hub q then s
  else
    let s := s.bcastSeen m.hub q
    let s := if hops + 1 < 1023 then
        s.flood port ⟨0x22, 5, true, 1023, m.hub, q, hops + 1, netTrigBytes m, true⟩ else s.rxDrop port
    s.takeNet m

/-- NETWORK_TRIGGER_RECEIVE (R220, R222, R392, R485). -/
def execNetworkTriggerReceive (t port seq hops : Nat) (m : NetTrig) (s : State) : Host.Outcome State Fault Refusal :=
  onUnit .port port t s (fun s => if s.carries port then s.netTrigger port seq hops m else s)

/-- BLOCK_FLUSH (R228). -/
def execBlockFlush (t ch : Nat) (slot : Option Nat) (s : State) : Host.Outcome State Fault Refusal :=
  onUnit .channel ch t s (fun s =>
    match s.openOf ch slot with
    | some b => if b.opened + s.cfgF 0x11 ch 0x0B0 16 16 * 1000000 ≤ s.now then s.closeOpen ch slot else s
    | none => s)

end Sys2Proof.Machine
end

