-- ==== Sys2Proof/Machine/TimeOps.lean ====
section
/-! DEFINITION. The shared operations of Bridle: the servo, the time state machine, islands, and the choice of lead and
parent (R242 to R265). -/

namespace Sys2Proof.Machine

/-- HOLDOVER is entered from LOCKED: counted, and source 75 reported with detail 1 (R243, R255). -/
def State.enterHoldover (s : State) : State :=
  let e0 := s.bound
  let n := s.ntime
  let r := s.now
  let s := s.modTime (fun m => { m with
    state := .holdover
    good := 0
    bad := 0
    holdEntry := n
    lostAt := none
    lonelySince := if m.parent = 7 then some r else none
    limitPassed := false })
  let s := s.bump (pid 0x02 0 0x028) 0 15
  let s := if s.time.parent = 7 then s.startSegment e0 else s
  s.report 75 1

/-- The state becomes LOCKED. -/
def State.setLocked (s : State) : State :=
  s.modTime (fun m => { m with state := .locked, good := 0, bad := 0, everLocked := true, limitPassed := false })

/-- LOCKED is reached by updates from a parent, with an event (R243). DEDUCED, log entry 19. -/
def State.enterLocked (s : State) : State := s.setLocked.evTime 1

/-- The island number changes; every open block closes (R247). -/
def State.setIsland (s : State) (n : Nat) : State :=
  if s.time.island = n then s else s.closeAllOpen.modTime (fun m => { m with island := n })

/-- The lead becomes x; a change is counted and raises an event (R256, R401). -/
def State.setLead (s : State) (x prio cls : Nat) : State :=
  let new := s.time.known != some x
  let s := s.modTime (fun m => { m with lead := x, leadPrio := prio, leadCls := cls, known := some x })
  if new then ((s.bump (pid 0x02 0 0x028) 16 15).modTime (fun m => { m with newLead := true })).evTime 2 else s

/-! First acquisition (R245, R246). -/

/-- The time field of a result entry given in RUNTIME becomes NTIME (R188, R245). -/
def restampResult (m : Time) (b : List Byte) : List Byte := b.take 8 ++ le 8 (ntimeAt m (fle b 8 8)) ++ b.drop 16

/-- The times of a record and of its result entries given in RUNTIME become NTIME (R245). -/
def restampRec (m : Time) (r : Record) : Record :=
  { r with decided := ntimeAt m r.decided, results := r.results.map (fun (x : Nat × List Byte) => (x.1, restampResult m x.2)) }

/-- The times of an item given in RUNTIME become NTIME; those of an interval without valid samples stay 0 (R179, R245). -/
def restampItem (m : Time) : Item → Item
  | .acc why a g k => .acc why { a with t0 := ntimeAt m a.t0 } g k
  | .mm why x g =>
    let at_ := fun (t : Nat) => if x.count = 0 then t else ntimeAt m t
    .mm why { x with t0 := ntimeAt m x.t0, tMin := at_ x.tMin, tMax := at_ x.tMax } g
  | .gap c f n t k => .gap c f n (ntimeAt m t) k
  | .meas b => .meas (restampResult m b)
  | .openBlk r => .openBlk { r with decided := ntimeAt m r.decided }
  | .trailer r => .trailer (restampRec m r)
  | .run f xs => .run f xs
  | .tag e n => .tag e n

/-- A block still held with RUNTIME stamps takes NTIME, time state HOLDOVER and the island number (R245). -/
def restampBlk (m : Time) (b : Blk) : Blk :=
  if b.ts = 0 ∧ b.spilled = false then
    { b with ts := 2, island := m.island, t0 := ntimeAt m b.t0, items := b.items.map (restampItem m) }
  else b

/-- An entry that waits behind a two-pass result takes NTIME. -/
def restampWait (m : Time) : Wait → Wait
  | .entry i => .entry (restampItem m i)
  | .slot w => .slot w

/-- The hold store's blocks, those that wait for the archive, the open records and the entries that wait behind two-pass results
are stamped again (R189, R245). -/
def State.restamp (s : State) : State :=
  let m := s.time
  { s with
    chans := s.chans.map (fun (x : Nat × Chan) => (x.1, { x.2 with behind := x.2.behind.map (restampWait m) }))
    hold := { s.hold with openBlks := s.hold.openBlks.map (restampBlk m), blks := s.hold.blks.map (restampBlk m) }
    arc := { s.arc with openBlks := s.arc.openBlks.map (fun (x : Nat × List Blk) => (x.1, x.2.map (restampBlk m))) }
    trig := { s.trig with recs := s.trig.recs.map (fun (r : Nat × Record) => (r.1, restampRec m r.2)) } }

/-- NTIME is n0 now, with fractional frequency y (R245, R250). -/
def State.setMap (s : State) (n0 : Nat) (y : Int) : State :=
  let r := s.now
  s.modTime (fun m => { m with mapSet := true, r0 := r, n0 := n0, y := y })

/-- The lock map is published in MAP_R0, MAP_N0 and MAP_Y (R245, R256); founding publishes none. DEDUCED, log entry 19. -/
def State.publishMap (s : State) (n0 : Nat) (y : Int) : State :=
  ((s.setStat2 (pid 0x02 0 0x020) s.now).setStat2 (pid 0x02 0 0x022) n0).setStat (pid 0x02 0 0x024) (code 32 y)

/-- The first valid update after power-up, with offset e ps of RUNTIME from the lead's NTIME (R245, R246). -/
def State.acquire (s : State) (e y : Int) : State :=
  let r := s.now
  let n0 := code 64 ((r : Int) - rne e 1000)
  let s := (s.setMap n0 y).publishMap n0 y
  let s := s.modTime (fun m => { m with
    state := .holdover, phaseErr := 0, integ := 0, lastUpdate := r, newLead := false, holdEntry := n0 })
  (s.raise 0x0B [(r, 64), (n0, 64), (code 32 y, 32)]).restamp.alignGrid

/-! The servo (R248). -/

/-- One iteration of the loop on e in ps; the offset is limited to 10^-7. DEDUCED, log entry 20. -/
def State.servo (s : State) (e : Int) : State :=
  let bw := s.cfgF 0x02 0 1 0 4
  let r := s.now
  s.modTime (fun m =>
    let sum := m.integ + e * ((r : Int) - m.lastUpdate)
    { m with
      integ := sum
      lastUpdate := r
      phaseErr := clampI (-(2 ^ 31)) (2 ^ 31 - 1) e
      steer := clampI (-100000) 100000 (-(2 * e / 2 ^ bw) - sum / (10 ^ 9 * 4 ^ bw)) })

/-- The state machine after an update with error e in LOCKED (R243). DEDUCED, log entry 20. -/
def State.lockedUpdate (s : State) (e : Int) : State :=
  let big : Bool := decide (4 * s.lockPs < e.natAbs)
  let away : Bool := s.time.newLead && decide (s.lockPs < e.natAbs)
  let s := s.modTime (fun m => { m with
    bad := if big then m.bad + 1 else 0
    newLead := false
    lostAt := if e.natAbs ≤ s.lockPs then none else m.lostAt })
  if away || decide (s.lockN ≤ s.time.bad) then (s.slewTo e).enterHoldover else s

/-- The state machine after an update with error e in HOLDOVER (R243). DEDUCED, log entry 20. -/
def State.holdoverUpdate (s : State) (e : Int) : State :=
  let s := s.modTime (fun m => { m with newLead := false })
  if s.lockPs < e.natAbs then (s.slewTo e).modTime (fun m => { m with good := 0 })
  else
    let s := s.modTime (fun m => { m with good := m.good + 1 })
    if s.lockN ≤ s.time.good ∧ s.slewTotal = 0 then s.enterLocked else s

/-- A bound that has fallen back to HOLD_LIMIT can pass it again (R243, R255). -/
def State.limitBack (s : State) : State :=
  if s.holdLimit < s.bound then s else s.modTime (fun m => { m with limitPassed := false })

/-- One update: offset e in ps of the local timescale from the lead's, the parent's bound, and the frequency y measured
(R243, R248). -/
def State.timeUpdate (s : State) (e y : Int) (bound : Nat) : State :=
  let s := s.modTime (fun m => { m with parentBound := bound, hadParent := true })
  (match s.time.state with
  | .unlocked => s.acquire e y
  | .locked => (s.servo e).lockedUpdate e
  | .holdover => (s.servo e).holdoverUpdate e).limitBack

/-- An update of a lead from its PTP master: the servo alone (R248, R263); a hub still UNLOCKED takes NTIME from it and is then
in holdover without a parent, its E0 the unknown bound (R249, R254). DEDUCED, log entry 19. -/
def State.ptpUpdate (s : State) (e y : Int) : State :=
  let e0 := s.bound
  let s := s.modTime (fun m => { m with ptpLost := false })
  if s.time.state = .unlocked then (s.acquire e y).startSegment e0 else s.servo e

/-! Founding (R250). -/

/-- Since when LEAD_WAIT is counted. -/
def State.leadWaitFrom (s : State) : Nat := if s.time.hadParent then s.time.lonelySince.getD s.now else 0

/-- An announcement: rank (PRIO, class, lead), island, hops and port. -/
structure Announce where
  prio : Nat
  cls : Nat
  lead : Nat
  island : Nat
  hops : Nat
  port : Nat
  deriving DecidableEq, Repr

/-- Whether rank a is better than rank b: lower PRIO, then lower class, then lower hub ID (R262). -/
def outranks (a b : Nat × Nat × Nat) : Bool :=
  decide (a.1 < b.1) || (a.1 == b.1 && (decide (a.2.1 < b.2.1) || (a.2.1 == b.2.1 && decide (a.2.2 < b.2.2))))

/-- The rank of an announcement. -/
def Announce.rank (a : Announce) : Nat × Nat × Nat := (a.prio, a.cls, a.lead)

/-- The announcements heard: of other hubs that may lead, on ports that are up (R262, R263). -/
def State.announces (s : State) : List Announce :=
  ((List.range 6).filter (fun p =>
    let l := s.link p
    s.up p && l.lead != 0xFFFF && decide (l.hops < 255) && l.cls != 255 && some l.lead != s.net.id)).map
    (fun p =>
      let l := s.link p
      ⟨l.prio, l.cls, l.lead, l.island, l.hops, p⟩)

/-- The announcements of a lead on ports with PARENT_EN: those that may give a parent (R264). -/
def State.offers (s : State) (lead : Nat) : List Announce :=
  s.announces.filter (fun a => a.lead == lead && s.cfgB 0x02 (0x010 + a.port) 0 1)

/-- The better of two announcements: by rank, then fewest hops, then lowest port (R262, R264). -/
def betterAnn (a b : Announce) : Announce :=
  if outranks a.rank b.rank then a
  else if outranks b.rank a.rank then b
  else if b.hops < a.hops then b else a

/-- The best of a list of announcements. -/
def bestAnn : List Announce → Option Announce
  | [] => none
  | a :: r =>
    match bestAnn r with
    | none => some a
    | some b => some (betterAnn a b)

/-- The offer with the fewest hops, of those the lowest port, in a list in ascending order of ports (R264). -/
def nearest : List Announce → Option Announce
  | [] => none
  | a :: r =>
    match nearest r with
    | none => some a
    | some b => if b.hops < a.hops then some b else some a

/-- The announcement under which the Rein bus is the parent: REIN_CLK is there, and some port announces the lead and the island of
the Rein driver, which is the hub's chosen lead (R277). DESIGN CHOICE, log entry 107. -/
def State.reinOffer (s : State) (lead : Nat) : Option Announce :=
  let d := Config.reinDriver s.now
  if s.time.reinClk && d.1 == lead then nearest (s.announces.filter (fun a => a.lead == d.1 && a.island == d.2)) else none

/-- The hub's own rank. -/
def State.ownRank (s : State) : Nat × Nat × Nat := (s.cfgF 0x02 0 0 16 8, s.ownClass, s.hubId)

/-- The hub takes lead with an island number (R247, R250, R262). -/
def State.takeLead (s : State) (island : Nat) : State :=
  let s := (s.slewFold true).modTime (fun m => { m with
    slewRem := 0
    isLead := true
    parent := 7
    hops := 0
    lostAt := none
    lonelySince := none
    parentBound := 0
    phaseErr := 0 })
  let s := s.setIsland island
  let s := (s.setLead s.hubId (s.cfgF 0x02 0 0 16 8) s.ownClass).modTime (fun m => { m with newLead := false })
  if s.time.state = .locked then s else s.setLocked

/-- The hub founds an island (R247, R250). DEDUCED, log entry 19. -/
def State.found (s : State) : State :=
  let s := if s.time.state = .unlocked then
      (s.setMap (s.now + (s.cfgN 0x02 0 5 ||| s.cfgN 0x02 0 6 <<< 32)) 0).alignGrid
    else s
  s.takeLead (1 + s.hubId % 255)

/-- The parent is lost (R243). -/
def State.loseParent (s : State) : State :=
  if s.time.parent = 7 then s
  else
    let e0 := s.bound
    let r := s.now
    let s := if s.time.parent < 6 then s.modPtime s.time.parent (fun p => { p with role := 1 }) else s
    match s.time.state with
    | .unlocked => s.modTime (fun m => { m with parent := 7, lonelySince := some r })
    | .locked => s.modTime (fun m => { m with parent := 7, lostAt := some (m.lostAt.getD r) })
    | .holdover =>
      ((s.slewFold false).modTime (fun m => { m with parent := 7, lonelySince := some r })).startSegment e0

/-- The hub follows an announcement with the given parent; a yield has then found its new lead (R247, R262 to R265,
R543). DEDUCED, log entry 20. -/
def State.follow (s : State) (a : Announce) (parent : Nat) : State :=
  let r := s.now
  let far : Bool := decide (64 < s.time.hops)
  let s := if s.time.parent = parent then s
    else
      let s := if s.time.parent < 6 then s.modPtime s.time.parent (fun p => { p with role := 1 }) else s
      let s := if parent < 6 then s.modPtime parent (fun p => { p with role := 3 }) else s
      (s.slewFold true).modTime (fun m => { m with
        reinFrom := if parent = 6 then r else m.reinFrom
        parent := parent, integ := 0, lastUpdate := r, lonelySince := none, hadParent := true })
  let s := s.modTime (fun m => { m with isLead := false, hops := min 255 (a.hops + 1) })
  let s := { s with pair := { s.pair with yielding := false, retryAt := none } }
  let s := s.setIsland a.island
  let s := (s.setLead a.lead a.prio a.cls).limitBack
  if 64 < s.time.hops ∧ far = false then s.evTime 3 else s

/-- The hub's lead is one that no port with PARENT_EN offers: it has no parent, and takes its lead's island number (R243, R247,
R262, R264, R265). -/
def State.followNone (s : State) (a : Announce) : State :=
  let r := s.now
  let led := s.time.isLead
  let far : Bool := decide (64 < s.time.hops)
  let s := s.loseParent.modTime (fun m => { m with
    isLead := false, hops := min 255 (a.hops + 1), lostAt := if led then some r else m.lostAt })
  let s := ({ s with pair := { s.pair with yielding := false, retryAt := none } }.setIsland a.island).setLead a.lead a.prio a.cls
  if 64 < s.time.hops ∧ far = false then s.evTime 3 else s

/-- Whether this hub, as lead, keeps lead against an announcement: by rank, and in a pair of two leads by the lower hub
ID; one that yields follows its partner (R262, R265, R543, R546). -/
def State.keepsLead (s : State) (a : Announce) : Bool :=
  if s.pair.yielding && a.lead == s.cfgF 0x01 0 0x510 0 10 then false
  else if s.timePair && a.lead == s.cfgF 0x01 0 0x510 0 10 then decide (s.hubId < a.lead)
  else outranks s.ownRank a.rank

/-- Whether this hub, as follower, takes lead over as a handover: it is LOCKED and ranks above the best announced, and no
pair decides otherwise (R262, R544). -/
def State.takesOver (s : State) (a : Announce) : Bool :=
  s.leadEn && s.net.id.isSome && s.time.state == .locked && s.time.parent != 7 && !s.pair.yielding
    && !(s.timePair && a.lead == s.cfgF 0x01 0 0x510 0 10) && outranks s.ownRank a.rank

/-- A lead whose LEAD_EN has been cleared leads no longer: it is a hub without a parent (R243, R263). DEDUCED, log entry 20. -/
def State.giveUpLead (s : State) : State :=
  let r := s.now
  if s.time.isLead && !s.leadEn then s.modTime (fun m => { m with isLead := false, hops := 255, lostAt := some r }) else s

/-- Chooses lead and parent again from the announcements heard: the best lead, and of the ports that may give a parent and offer
it the one with the fewest hops (R262 to R265, R277). -/
def State.refreshLead (s : State) : State :=
  let s := s.giveUpLead
  match bestAnn s.announces with
  | none => if s.time.isLead then s else s.loseParent
  | some a =>
    if s.time.isLead && s.keepsLead a then s
    else if !s.time.isLead && s.takesOver a then s.takeLead s.time.island
    else
      match if s.cfgB 0x02 0 0 9 then s.reinOffer a.lead else nearest (s.offers a.lead) with
      | some o => s.follow o (if s.cfgB 0x02 0 0 9 then 6 else o.port)
      | none => s.followNone a

/-! Item words (R256). -/

/-- TSTATE. -/
def State.tstateWord (s : State) : Nat :=
  let m := s.time
  let cls := if m.isLead || m.parent == 7 then s.ownClass else m.leadCls
  m.state.num ||| b2n (s.slewTotal != 0) <<< 2 ||| b2n m.refclkOk <<< 3 ||| b2n (m.parent == 6) <<< 4
    ||| m.island <<< 8 ||| m.hops <<< 16 ||| cls <<< 24

/-- LEAD. -/
def State.leadWord (s : State) : Nat := s.time.lead ||| s.time.parent <<< 16 ||| s.time.leadPrio <<< 24

end Sys2Proof.Machine
end

