-- ==== Sys2Proof/Machine/Time.lean ====
section
/-! DEFINITION. The meanings of the reference clock, time messages, PTP, the time state machine and the Rein bus (R231 to
R265, R274 to R279, R489). -/

namespace Sys2Proof.Machine

/-- A segment of holdover without a parent starts anew (R254). -/
def State.newSegment (s : State) : State := if s.alone then s.startSegment s.bound else s

/-- REFCLK_LOST (R234, R254, R542). -/
def execRefclkLost (t cause : Nat) (s : State) : Host.Outcome State Fault Refusal :=
  at_ t s (fun s =>
    if s.time.refclkOk then
      ((s.modTime (fun m => { m with refclkOk := false })).newSegment.report 74 (BitVec.ofNat 32 cause)).yieldLead
    else s)

/-- REFCLK_RETURN (R234, R254). -/
def execRefclkReturn (t : Nat) (s : State) : Host.Outcome State Fault Refusal :=
  at_ t s (fun s =>
    if s.time.refclkOk then s
    else
      let s := (s.modTime (fun m => { m with refclkOk := true })).newSegment
      s.pairEnds 74)

/-- The 56 bytes of a TIME frame (R489). -/
def timeBytes (kind : Nat) (m : TimeMsg) : List Byte :=
  be 1 kind ++ be 1 m.exch ++ be 1 m.state ++ be 1 m.island ++ be 2 m.lead ++ be 2 0
    ++ stampField m.t1 ++ stampField m.t2 ++ stampField m.t3 ++ stampField m.t4 ++ be 4 m.bound ++ be 4 m.d

/-- Whether time messages run on a port: a BK port that is up with TIME_EN (R259, R260). -/
def State.timeOn (s : State) (p : Nat) : Bool := s.up p && !s.ethMode p && s.cfgB 0x02 (0x010 + p) 0 0

/-- The mean path delay of an exchange, in ps (R259). -/
def meanDelay (t1 t2 t3 t4 : Nat) : Int := (((t2 : Int) - t1) + ((t4 : Int) - t3)) * 1000 / (2 * 65536)

/-- The offset of the local timescale in ps: the receive interval less the mean path delay and half of ASYM (R259). -/
def State.offsetOf (s : State) (p : Nat) (t1 t2 : Nat) (d : Int) : Int :=
  ((t2 : Int) - t1) * 1000 / 65536 - d - signed 32 (s.cfgN 0x02 (0x010 + p) 1) / 2

/-- A TIME message of this hub. -/
def State.timeMsg (s : State) (exch t1 t2 t3 t4 d : Nat) : TimeMsg :=
  ⟨exch, s.tstate, s.time.island, s.time.lead, t1, t2, t3, t4, s.bound, d⟩

/-- Sends a TIME frame on a port. -/
def State.sendTime (s : State) (p kind : Nat) (m : TimeMsg) : State := s.sendLocal p 0x03 (timeBytes kind m)

/-- Compares the partner's mean path delay, a signed word, with this end's: more than 100 ps apart is counted (R259). -/
def State.compareDelay (s : State) (p : Nat) (d : Nat) : State :=
  if d ≠ 0 ∧ 100 < ((s.ptime p).delay - signed 32 d).natAbs then s.bump (pid 0x02 (0x010 + p) 3) 16 16 else s

/-- SYNC_SEND (R259, R489): 16 times per second; the lane writes t1 as the frame leaves. -/
def execSyncSend (t port : Nat) (s : State) : Host.Outcome State Fault Refusal :=
  onUnit .port port t s (fun s =>
    let now := s.now
    if s.timeOn port && s.time.state != .unlocked && s.time.parent != port && s.elapsed (s.ptime port).syncAt 62500000 then
      let x := ((s.ptime port).exch + 1) % 256
      (s.modPtime port (fun p => { p with exch := x, t1 := 0, syncAt := some now })).sendTime port 1
        (s.timeMsg x 0 0 0 0 (code 32 (s.ptime port).delay))
    else s)

/-- SYNC_RECEIVE (R259, R489): the child stamps and answers, the lane writing t3 as the answer leaves; with the Rein bus as parent
the message only gives the seconds and the bound (R277). -/
def execSyncReceive (t port : Nat) (m : TimeMsg) (s : State) : Host.Outcome State Fault Refusal :=
  onUnit .port port t s (fun s =>
    let t2 := s.rxStamp port
    if !s.timeOn port || m.state == 0 then s
    else if s.time.parent = port then
      (s.modPtime port (fun p => { p with exch := m.exch, t1 := m.t1, t2 := t2, t3 := 0 })).sendTime port 2
        (s.timeMsg m.exch 0 t2 0 0 (code 32 (s.ptime port).delay))
    else if s.time.parent = 6 ∧ m.lead = s.time.lead ∧ m.island = s.time.island then
      (s.modPtime port (fun p => { p with t1 := m.t1, t2 := t2 })).modTime (fun x => { x with parentBound := m.bound })
    else s)

/-- DELAY_REQ_RECEIVE (R259, R489). -/
def execDelayReqReceive (t port : Nat) (m : TimeMsg) (s : State) : Host.Outcome State Fault Refusal :=
  onUnit .port port t s (fun s =>
    let p := s.ptime port
    if s.timeOn port && s.time.parent != port && m.exch == p.exch && s.time.state != .unlocked then
      let t4 := s.rxStamp port
      let d := meanDelay p.t1 m.t2 m.t3 t4
      let s := s.modPtime port (fun p => { p with role := 2, t2 := m.t2, t3 := m.t3, t4 := t4, delay := d })
      (s.compareDelay port m.d).sendTime port 3 (s.timeMsg m.exch p.t1 m.t2 m.t3 t4 (code 32 d))
    else s)

/-- DELAY_RESP_RECEIVE (R243, R259, R489): one update. -/
def execDelayRespReceive (t port : Nat) (m : TimeMsg) (y : Int) (s : State) : Host.Outcome State Fault Refusal :=
  onUnit .port port t s (fun s =>
    let p := s.ptime port
    if s.timeOn port && s.time.parent == port && m.exch == p.exch && m.state != 0 then
      let d := meanDelay m.t1 p.t2 p.t3 m.t4
      let s := s.modPtime port (fun p => { p with role := 3, t1 := m.t1, t4 := m.t4, delay := d })
      (s.compareDelay port m.d).timeUpdate (s.offsetOf port m.t1 p.t2 d) y m.bound
    else s)

/-! PTP (R258). -/

/-- Whether the hub takes its time from PTP: it leads, or may lead and has no parent (R263). -/
def State.ptpFollows (s : State) : Bool := s.leadEn && (s.time.isLead || s.time.parent == 7)

/-- An update from the port's stamps (R248, R258). -/
def State.ptpStep (s : State) (p : Nat) (y : Int) : State :=
  if s.ptpFollows then
    let q := s.ptime p
    s.ptpUpdate (s.offsetOf p q.t1 q.t2 q.delay) y
  else s

/-- The stamp of an exported time in 80 bits: 48 bits of seconds and 32 of nanoseconds, of a stamp in 2^-16 ns units (R240). -/
def stamp80 (x : Nat) : List Byte := be 6 (x / 65536 / 1000000000) ++ be 4 (x / 65536 % 1000000000)

/-- The flag field of a PTP message: twoStepFlag, and of an Announce the validity of the UTC offset and the PTP timescale.
PRESUMED, log entry 119. -/
def State.ptpFlags (s : State) (kind : Nat) (two : Bool) : Nat :=
  b2n two <<< 9 ||| (if kind = 11 then b2n (bit s.time.utcDist.toNat 16) <<< 2 ||| 8 else 0)

/-- The correction field in 2^-16 ns: the fraction of the stamp, which a receipt stamp gives back (R257).
PRESUMED, log entry 119. -/
def ptpCorr (kind x : Nat) : Nat := if kind = 9 then code 64 (-(x % 65536 : Nat)) else x % 65536

/-- What follows the header of a PTP message; peer is the port identity of a requester. PRESUMED, log entry 119. -/
def State.ptpBody (s : State) (m : PtpMsg) (peer : Nat) : List Byte :=
  stamp80 m.origin ++ (match m.kind with
    | 2 => zeros 10
    | 3 => be 10 peer
    | 9 => be 10 peer
    | 10 => be 10 peer
    | 11 => be 2 s.time.utcDist.toNat ++ zeros 1 ++ be 1 m.prio1 ++ be 1 m.cls ++ be 1 m.accuracy ++ be 2 m.variance ++ be 1 m.prio2
        ++ be 8 m.ident ++ be 2 m.steps ++ be 1 (if s.ptpSlaved then 0x40 else 0xA0)
    | _ => [])

/-- The bytes of a PTP message of port p, in IEEE 1588-2019's layout, big-endian (R11, R240, R258). PRESUMED, log entry 119. -/
def State.ptpBytes (s : State) (p : Nat) (m : PtpMsg) (two : Bool) (peer : Nat) : List Byte :=
  let body := s.ptpBody m peer
  let log := fun (k : Nat) => code 8 (if k = 11 then (s.cfgF 0x02 (0x010 + p) 0 20 4 : Int) else signed 4 (s.cfgF 0x02 (0x010 + p) 0 16 4))
  let control := match m.kind with
    | 0 => 0
    | 1 => 1
    | 8 => 2
    | 9 => 3
    | _ => 5
  be 1 m.kind ++ be 1 0x12 ++ be 2 (34 + body.length) ++ be 1 m.domain ++ zeros 1 ++ be 2 (s.ptpFlags m.kind two)
    ++ be 8 (ptpCorr m.kind m.origin) ++ zeros 4 ++ be 10 m.sender ++ be 2 m.seq ++ be 1 control
    ++ be 1 (if m.kind = 0 ∨ m.kind = 8 ∨ m.kind = 11 then log m.kind else 0x7F) ++ body

/-- The EtherType, or with UDP the port, by which a PTP message leaves: event messages by 319, the others by 320 (R258). -/
def State.ptpVia (s : State) (p kind : Nat) : Nat :=
  if !s.cfgB 0x02 (0x010 + p) 0 5 then 0x88F7 else if kind < 4 then 319 else 320

/-- Sends a PTP message with an origin stamp in 2^-16 ns units; two says that a Follow_Up comes, peer is the requester answered
(R258, R263). -/
def State.ptpSend (s : State) (p kind seq origin : Nat) (two : Bool := false) (peer : Nat := 0) : State :=
  let m : PtpMsg := {
    kind := kind, seq := seq, origin := origin, rx := 0, cls := s.ownClass, prio1 := s.cfgF 0x02 0 0 16 8, ident := s.ident.eui
    sender := s.portIdent p, domain := s.cfgF 0x02 (0x010 + p) 0 8 8, udp := s.cfgB 0x02 (0x010 + p) 0 5 }
  let line := (s.ptpVia p kind, s.ptpBytes p m two peer)
  s.modPtime p (fun q => { q with ptpOut := q.ptpOut ++ [m], ptpLine := q.ptpLine ++ [line] })

/-- Whether delays are measured by peer delay (P2P). -/
def State.p2p (s : State) (p : Nat) : Bool := s.cfgB 0x02 (0x010 + p) 0 4

/-- A stamp moved by a correction, in 2^-16 ns units. -/
def ptpCorrected (x : Nat) (c : Int) : Nat := ((x : Int) + c).toNat

/-- The mean path delay of a peer delay exchange whose responder held the request for turn, with the corrections (R258). -/
def peerDelay (q : PortTime) (turn : Int) : Int := ((q.p4 : Int) - q.p1 - turn) * 1000 / (2 * 65536)

/-- A PTP message received on port p, from the port's master when sl holds: 0 Sync, 1 Delay_Req, 2 Pdelay_Req,
3 Pdelay_Resp, 8 Follow_Up, 9 Delay_Resp, 10 Pdelay_Resp_Follow_Up, 11 Announce; others are ignored. A two-step message waits for its
follow-up; a one-step Pdelay_Resp holds the turnaround time in its correction. PRESUMED, log entry 119. -/
def State.ptpTake (s : State) (p : Nat) (m : PtpMsg) (y : Int) (sl : Bool) : State :=
  let q := s.ptime p
  let mine : Bool := sl && m.seq == q.exch
  match m.kind with
  | 0 =>
    if !sl then s
    else
      let s := s.modPtime p (fun q => { q with exch := m.seq, t1 := ptpCorrected m.origin m.corr, t2 := m.rx, corr := m.corr })
      if !m.twoStep && s.p2p p then s.ptpStep p y else s
  | 1 => if sl || s.time.state == .unlocked then s else s.ptpSend p 9 m.seq m.rx false m.sender
  | 2 => (s.ptpSend p 3 m.seq m.rx true m.sender).ptpSend p 10 m.seq (s.txStamp p) false m.sender
  | 3 => s.modPtime p (fun q =>
      let q := { q with p2 := m.origin, p4 := m.rx, corr := m.corr }
      if m.twoStep || !s.p2p p then q else { q with delay := peerDelay q m.corr })
  | 8 =>
    if !mine then s
    else
      let s := s.modPtime p (fun q => { q with t1 := ptpCorrected m.origin (m.corr + q.corr) })
      if s.p2p p then s.ptpStep p y else s
  | 9 =>
    if mine && !s.p2p p then
      let t4 := ptpCorrected m.origin (-m.corr)
      (s.modPtime p (fun q => { q with t4 := t4, delay := meanDelay q.t1 q.t2 q.t3 t4 })).ptpStep p y
    else s
  | 10 =>
    if s.p2p p then
      s.modPtime p (fun q => { q with delay := peerDelay q ((m.origin : Int) - q.p2 + m.corr + q.corr) })
    else s
  | 11 =>
    if s.cfgB 0x02 (0x010 + p) 0 6 then s
    else
      (s.modPtime p (fun q => { q with master := some m })).ptpCheck
  | _ => s

/-- PTP_MESSAGE_RECEIVE (R258, R263). -/
def execPtpMessageReceive (t port : Nat) (m : PtpMsg) (y : Int) (s : State) : Host.Outcome State Fault Refusal :=
  onUnit .port port t s (fun s => if s.ptpMine port m then s.ptpTake port m y (s.ptpSlave == some port) else s)

/-- PTP_MESSAGE_SEND (R258): a Sync (0) or Announce (11) towards slaves, a Delay_Req (1) towards the master, or a
Pdelay_Req (2). -/
def execPtpMessageSend (t port kind : Nat) (s : State) : Host.Outcome State Fault Refusal :=
  onUnit .port port t s (fun s =>
    let sl : Bool := s.ptpSlave == some port
    let x := s.txStamp port
    let n := (s.ptime port).exch
    let up : Bool := s.time.state != .unlocked
    if !s.ptpOn port then s
    else match kind with
      | 0 =>
        if sl || !up then s
        else
          let k := (n + 1) % 65536
          let s := s.modPtime port (fun q => { q with exch := k })
          if s.cfgB 0x02 (0x010 + port) 0 3 then (s.ptpSend port 0 k 0 true).ptpSend port 8 k x else s.ptpSend port 0 k x
      | 1 => if sl && !s.p2p port then (s.modPtime port (fun q => { q with t3 := x })).ptpSend port 1 n 0 else s
      | 2 => if s.p2p port then (s.modPtime port (fun q => { q with p1 := x })).ptpSend port 2 n 0 else s
      | 11 => if sl || !up then s else s.ptpSend port 11 n 0
      | _ => s)

/-! The state machine. -/

/-- PARENT_LOSS (R243): of a lead, the loss of its PTP master (R263). -/
def execParentLoss (t : Nat) (s : State) : Host.Outcome State Fault Refusal :=
  at_ t s (fun s => if s.time.parent = 7 then (s.ptpDown 0).ptpDown 1 else s.loseParent)

/-- PARENT_REPLACE_TIMEOUT (R243). -/
def execParentReplaceTimeout (t : Nat) (s : State) : Host.Outcome State Fault Refusal :=
  at_ t s (fun s =>
    match s.time.lostAt with
    | some x =>
      if s.time.state = .locked ∧ s.time.isLead = false ∧ x + 250000000 ≤ s.now then s.enterHoldover else s
    | none => s)

/-- LEAD_WAIT_EXPIRY (R250). -/
def execLeadWaitExpiry (t : Nat) (s : State) : Host.Outcome State Fault Refusal :=
  at_ t s (fun s =>
    let above : Bool := match bestAnn s.announces with
      | some a => outranks a.rank s.ownRank
      | none => false
    if s.leadEn && s.net.id.isSome && s.time.parent == 7 && !s.time.isLead && s.time.state != .locked && !above
        && decide (s.leadWaitFrom + s.cfgF 0x02 0 1 24 8 * 100000000 ≤ s.now) then s.found
    else s)

/-- HOLD_LIMIT_PASSED (R243, R255). DEDUCED, log entry 21. -/
def execHoldLimitPassed (t : Nat) (s : State) : Host.Outcome State Fault Refusal :=
  at_ t s (fun s =>
    if s.time.state = .holdover ∧ s.time.limitPassed = false ∧ s.holdLimit < s.bound then
      (s.modTime (fun m => { m with limitPassed := true })).report 75 2
    else s.limitBack)

/-- SLEW_COMPLETE (R243, R246, R252). DEDUCED, log entry 18. -/
def execSlewComplete (t : Nat) (s : State) : Host.Outcome State Fault Refusal :=
  at_ t s (fun s =>
    if s.time.slewFrom.isSome && s.slewTotal == 0 then
      let s := s.slewFold false
      if s.time.state == .holdover && s.time.parent != 7 && decide (s.lockN ≤ s.time.good) then s.enterLocked else s
    else s)

/-! Reads of time and UTC (R256, R349). -/

/-- A read of NTIME_LAT's low word latches both times (R256). -/
def State.readNtimeLat (s : State) : State × Nat :=
  let n := s.ntime
  let r := s.now
  (s.modTime (fun m => { m with latN := n, latR := r }), n % 2 ^ 32)

/-- NTIME_LAT_READ (R256). -/
def execNtimeLatRead (t : Nat) (h : Hdr) (s : State) : Host.Outcome State Fault Refusal :=
  latchRead true h t s State.readNtimeLat

/-- The status of a write of UTC: only a lead without a PTP source takes one (R256). -/
def State.utcStatus (s : State) : Nat := if s.time.isLead && !s.ptpSlaved then stOk else stDenied

/-- UTC takes a value, which is in effect on this lead and stays configured (R256, R385). -/
def State.doUtc (s : State) (v : Nat) : State :=
  (s.setCfg (pid 0x02 0 7) v).modTime (fun m => { m with utcDist := BitVec.ofNat 32 v })

/-- UTC (R256). -/
def execUtc (t : Nat) (h : Hdr) (val : Word) (s : State) : Host.Outcome State Fault Refusal :=
  itemCommand (pid 0x02 0 7) val.toNat h t s State.utcStatus (fun s => s.doUtc val.toNat)

/-- The 32 bytes of TIME_READ (R349). -/
def State.timeReply (s : State) : List Byte :=
  be 8 s.ntime ++ be 8 s.now ++ be 4 s.tstateWord ++ be 4 s.bound ++ be 4 s.leadWord ++ be 4 0

/-- TIME_READ (R349). -/
def execTimeRead (t : Nat) (h : Hdr) (s : State) : Host.Outcome State Fault Refusal :=
  packet 0x0502 h t s (fun s => s.finish h 0x0502 stOk 0 s.timeReply)

/-! The Rein bus (R274 to R278). -/

/-- The direction of a line: 0 high-impedance, 1 input, 2 driven (R275). -/
def State.reinDir (s : State) (line : Nat) : Nat := s.cfgF 0x02 (0x200 + line) 0 0 2

/-- The delay that COMP of a line stands for, in ns (R276). -/
def State.reinComp (s : State) (line : Nat) : Nat := s.cfgF 0x02 (0x200 + line) 0 16 12 * 15625 / 24576

/-- Source 113 with line and case (R278, R496). -/
def State.reinFault (s : State) (line kase : Nat) : State := s.report 113 (BitVec.ofNat 32 (line ||| kase <<< 2))

/-- The distance in ns of the hub's NTIME at RUNTIME r from the nearest whole second. -/
def State.offSecond (s : State) (r : Nat) : Int :=
  let x := ntimeAt s.time r % 1000000000
  if x ≤ 500000000 then (x : Int) else (x : Int) - 1000000000

/-- The offset of RUNTIME r from the whole second that a REIN_SYNC edge marks, as the seconds announced on a port give it;
none while no port has given them (R277). -/
def State.secondFrom (s : State) (r : Nat) : Option Int :=
  match (List.range 6).find? (fun p => (s.ptime p).t1 != 0) with
  | none => none
  | some p =>
    let q := s.ptime p
    let n : Int := (q.t1 / 65536 : Nat) + ((r : Int) - (q.t2 / 65536 : Nat))
    some ((r : Int) - rne n 1000000000 * 1000000000)

/-- A rising edge of REIN_SYNC at RUNTIME r: more than 50 ns off a whole second while LOCKED is a fault, and with the Rein
bus as parent it is an update (R243, R277, R278). DESIGN CHOICE, log entry 107. -/
def State.syncEdge (s : State) (r : Nat) : State :=
  let off := s.offSecond r
  let s := if s.time.state = .locked ∧ 50 < off.natAbs then s.reinFault 1 3 else s
  if s.time.parent ≠ 6 then s
  else if s.time.state = .unlocked then
    match s.secondFrom r with
    | none => s
    | some e =>
      let f := s.takeFree
      f.2.timeUpdate (e * 1000) (signed 32 f.1.toNat) s.time.parentBound
  else s.timeUpdate (off * 1000) 0 s.time.parentBound

/-- The EXT slots of a line see an edge at RUNTIME r, their selected one or the opposite, with the next base-rate boundary of their
cell as its instant (R202, R204). -/
def State.lineSlots (s : State) (src r : Nat) (rising : Bool) : State :=
  forAll (s.extSlots src) (fun s k =>
    s.extSee k (gridUp (s.cell (k % 48)).origin basePeriod r) (s.cfgB 0x13 k 8 2 != rising)) s

/-- The distance in ps of the hub's sample clock from an edge of REIN_CLK at RUNTIME r: that of NTIME from the nearest multiple of
244.140625 ns (R236, R277). -/
def State.clkError (s : State) (r : Nat) : Int :=
  let x := ntimeAt s.time r * 64 % 15625
  (if 2 * x ≤ 15625 then (x : Int) else (x : Int) - 15625) * 1000 / 64

/-- A rising edge of REIN_CLK at RUNTIME r: with it back the Rein bus can be the parent again, and as the parent it steers phase and
frequency, which is no update of R243 (R277). DESIGN CHOICE, log entry 107. -/
def State.clkEdge (s : State) (r : Nat) : State :=
  let s := if s.time.reinClk then s else (s.modTime (fun m => { m with reinClk := true })).refreshLead
  if s.time.parent = 6 ∧ s.time.state ≠ .unlocked then s.servo (s.clkError r) else s

/-- What the hub does with an edge of a line that is an input, at RUNTIME r (R204, R276, R277). -/
def State.edgeIn (s : State) (line r : Nat) (rising : Bool) : State :=
  match line with
  | 0 => if rising then s.clkEdge r else s
  | 1 => if rising then s.syncEdge r else s
  | _ => s.lineSlots (line - 2) r rising

/-- REIN_EDGE (R275 to R277, R204): an edge at the pin; one that reads back what the hub drives itself has been counted there, but
those of REIN_CLK, which has no command of its own. DESIGN CHOICE, log entry 107. -/
def execReinEdge (t line : Nat) (rising : Bool) (s : State) : Host.Outcome State Fault Refusal :=
  onUnit .reinLine line t s (fun s =>
    if s.reinDir line = 2 ∧ (s.line line).level = rising then s
    else if s.reinDir line ≠ 1 then s.lineEdge line rising
    else (s.lineEdge line rising).edgeIn line (s.now - s.reinComp line) rising)

/-- Whether the hub drives REIN_CLK high at RUNTIME r: the sample clock, COMP earlier (R274, R276). -/
def State.clkDriven (s : State) (r : Nat) : Bool :=
  s.reinDir 0 == 2 && !(s.line 0).fault && s.time.state != .unlocked
    && decide (ntimeAt s.time (r + s.reinComp 0) * 64 % 15625 * 2 < 15625)

/-- Whether now is the instant, COMP before a whole NTIME second, at which REIN_SYNC is raised (R274, R276). -/
def State.syncDue (s : State) : Bool := ntimeAt s.time (s.now + s.reinComp 1) % 1000000000 == 0

/-- REIN_SYNC_DRIVE (R274, R276). -/
def execReinSyncDrive (t : Nat) (s : State) : Host.Outcome State Fault Refusal :=
  at_ t s (fun s =>
    let now := s.now
    if s.reinDir 1 = 2 ∧ (s.line 1).fault = false ∧ s.time.state ≠ .unlocked ∧ s.syncDue = true then
      (s.lineEdge 1 true).modLine 1 (fun l => { l with pulseEnd := some (now + 1000000) })
    else s)

/-- REIN_PULSE_END (R274). -/
def execReinPulseEnd (t line : Nat) (s : State) : Host.Outcome State Fault Refusal :=
  onUnit .reinLine line t s (fun s =>
    match (s.line line).pulseEnd with
    | some e => if e ≤ s.now ∧ (s.line line).level = true then s.lineEdge line false else s
    | none => s)

/-- REIN_CLK_MISSING (R277, R278): no edge for 1 us while it is the parent. -/
def execReinClkMissing (t : Nat) (s : State) : Host.Outcome State Fault Refusal :=
  at_ t s (fun s =>
    if s.time.parent = 6 ∧ (s.line 0).edgeAt + 1000 ≤ s.now then
      ((s.modTime (fun m => { m with reinClk := false })).reinFault 0 2).loseParent
    else s)

/-- REIN_SYNC_MISSING (R278): no edge for 1.1 s while it is the parent. -/
def execReinSyncMissing (t : Nat) (s : State) : Host.Outcome State Fault Refusal :=
  at_ t s (fun s =>
    if s.time.parent = 6 ∧ max (s.line 1).riseAt s.time.reinFrom + 1100000000 ≤ s.now then s.reinFault 1 4 else s)

/-- REIN_READBACK_FAULT (R278). -/
def execReinReadbackFault (t line : Nat) (s : State) : Host.Outcome State Fault Refusal :=
  onUnit .reinLine line t s (fun s =>
    if s.reinDir line = 2 ∧ (s.line line).fault = false then
      (s.modLine line (fun l => { l with fault := true, level := false })).reinFault line 1
    else s)

/-- REIN_LINE_STUCK_HIGH (R278): high for more than 1 ms, whoever drives it. -/
def execReinLineStuckHigh (t line : Nat) (s : State) : Host.Outcome State Fault Refusal :=
  onUnit .reinLine line t s (fun s =>
    if 2 ≤ line ∧ (s.line line).level = true ∧ (s.line line).riseAt + 1000000 < s.now then s.reinFault line 5 else s)

end Sys2Proof.Machine
end

