-- ==== Sys2Proof/Machine/Calibration.lean ====
section
/-! DEFINITION. The meanings of calibration, triangulation, the drift log and the self-tests (R280 to R312). -/

namespace Sys2Proof.Machine

/-! Objects and event CALIBRATION. -/

/-- The number of an object in its kind. -/
def objNum : CalObj → Nat
  | .conv c k => convKey c k
  | .source n => n
  | .amp c q => 2 * c + q

/-- The kind of an object in event CALIBRATION: 1 converter, 2 source, 3 amplifier (4 is a quadrant, 0 the hub). -/
def objKind : CalObj → Nat
  | .conv _ _ => 1
  | .source _ => 2
  | .amp _ _ => 3

/-- Event CALIBRATION: object and code (R401). -/
def State.evCal (s : State) (kind num c : Nat) : State := s.raise 0x0E [(kind, 3), (num, 9), (c, 8)]

/-! Plausibility (R295). -/

/-- The two lists position by position. -/
def pairUp : List Int → List Int → List (Int × Int)
  | a :: r, b :: q => (a, b) :: pairUp r q
  | _, _ => []

/-- Whether every code lies in the inner 90 % of a trim range of n bits. -/
def absOk (n : Nat) (l : List Int) : Bool := l.all (fun x => decide (x.natAbs * 10 ≤ 9 * 2 ^ (n - 1)))

/-- The drift of a quadrant's reference and the quadrant's die temperature, as the latest run measured them. -/
def State.driftTemp (s : State) (q : Nat) : Int × Int := (s.cal.drift.getD q 0, s.cal.temps.getD q 0)

/-- The last accepted offsets and gains of a converter of quadrant q, and the drift and temperature then; with no accepted
result it is what the converter has now. DESIGN CHOICE, log entry 123. -/
def State.lastAccepted (s : State) (q : Nat) (x : Trims) : List Int × List Int × Int × Int :=
  x.acc.getD (x.ofs, x.gain, s.driftTemp q)

/-- The temperature allowance of a gain change over a change of d in 0.01 K, in 0.001 ppm: 2 ppm/K. -/
def tempAllow (d : Int) : Nat := 20 * d.natAbs

/-- The first check that a result of a converter of quadrant q fails against its last accepted one: 16 offset step, 17 gain step,
18 absolute, 19 triangulation agreement; 0 when it passes. -/
def State.convCheck (s : State) (q : Nat) (x : Trims) (c : CalOut) : Nat :=
  let old := s.lastAccepted q x
  let d := fun (p : Int × Int) => p.1 - p.2
  let ofs := (pairUp c.ofs old.1).map d
  let gain := (pairUp c.gain old.2.1).map d
  let drift := (s.driftTemp q).1 - old.2.2.1
  let allow := tempAllow ((s.driftTemp q).2 - old.2.2.2)
  let ofsStep := s.cfgF 0x16 0 2 0 16
  let gainStep := s.cfgF 0x16 0 1 0 16
  let tri := s.cfgF 0x16 0 1 16 16
  if !ofs.all (fun x => decide (x.natAbs * 5000 ≤ ofsStep * 32768)) then 16
  else if !gain.all (fun x => decide (x.natAbs * 5000000 ≤ (gainStep * 100 + allow) * 524288)) then 17
  else if !absOk 16 c.ofs || !absOk 20 c.gain then 18
  else if !gain.all (fun x =>
      decide ((x * 5000000 - drift * 524288).natAbs ≤ (tri * 100 + allow) * 524288)) then 19
  else 0

/-- The check of a source's result: 20 change or pair match, 18 absolute. -/
def sourceCheck (old : List Int) (c : CalOut) : Nat :=
  let steps := (pairUp c.gain old).map (fun p => p.1 - p.2)
  if !steps.all (fun x => decide (x.natAbs * 2000 ≤ 100 * 32768)) || decide (10 < c.pairMatch.natAbs) then 20
  else if !absOk 16 c.gain then 18
  else 0

/-- The check of an amplifier's result: 21 change, 18 absolute. -/
def ampCheck (old : List Int) (c : CalOut) : Nat :=
  if 1024 < (c.gain.headD 0 - old.headD 0).natAbs * 60 then 21
  else if !absOk 10 (c.gain.take 1) then 18
  else 0

/-! Power-up calibration (R283 to R285). -/

/-- The n production trims of an object. DESIGN CHOICE, log entry 11. -/
def fuseTrims (obj base n : Nat) : List Int := (List.range n).map (fun k => Config.fuseTrim obj (base + k))

/-- The trims a converter falls back on: the calibration record's, else the fuses' (R284).
DESIGN CHOICE, log entry 11. -/
def State.convFallback (s : State) (key : Nat) : Trims :=
  match s.boot.calRecord.bind (fun r => tfind r.1 key) with
  | some x => x
  | none => { ofs := fuseTrims key 0 8, gain := fuseTrims key 8 8 }

/-- The trims a source falls back on. DESIGN CHOICE, log entry 11. -/
def State.srcFallback (s : State) (n : Nat) : Trim1 :=
  match s.boot.calRecord.bind (fun r => tfind r.2.1 n) with
  | some x => x
  | none => { codes := fuseTrims (512 + n) 0 4 }

/-- The trim an amplifier falls back on. -/
def State.ampFallback (s : State) (n : Nat) : Trim1 :=
  match s.boot.calRecord.bind (fun r => tfind r.2.2 n) with
  | some x => x
  | none => { codes := fuseTrims (1024 + n) 0 1 }

/-- One replaced result (R284). -/
def State.puReplaced (s : State) (o : CalObj) : State :=
  ({ s with cal := { s.cal with puFallback := true } }).evCal (objKind o) (objNum o) 6

/-- What calibration after power-up makes of one object, given its result, if it has one: the result applied, or the fallback
in its place, which leaves the age of the last accepted result (R284, R290). -/
def State.puResult (s : State) (o : CalObj) (c : Option CalOut) : State :=
  match o with
  | .conv cell k =>
    let key := convKey cell k
    let q := quadOf cell
    let old := s.convFallback key
    match c.filter (fun c => s.convCheck q old c == 0) with
    | some c => s.modTrims key (fun _ => { ofs := c.ofs, gain := c.gain, result := 1, acc := some (c.ofs, c.gain, s.driftTemp q) })
    | none => (s.modTrims key (fun x => { x with
        ofs := old.ofs, gain := old.gain, acc := old.acc, result := 6, pending := none })).puReplaced o
  | .source n =>
    let old := s.srcFallback n
    match c.filter (fun c => sourceCheck old.accepted c == 0) with
    | some c => s.modSrcTrim n (fun _ => { codes := c.gain, result := 1 })
    | none => (s.modSrcTrim n (fun _ => { codes := old.accepted, result := 6 })).puReplaced o
  | .amp cell qa =>
    let n := 2 * cell + qa
    let old := s.ampFallback n
    match c.filter (fun c => ampCheck old.accepted c == 0) with
    | some c => s.modAmpTrim n (fun _ => { codes := c.gain, result := 1 })
    | none => (s.modAmpTrim n (fun _ => { codes := old.accepted, result := 6 })).puReplaced o

/-- The objects of a quadrant, in order (R283). -/
def quadObjects (q : Nat) : List CalObj :=
  ((cellsOf q).flatMap (fun c => (List.range 9).map (CalObj.conv c)))
    ++ ((cellsOf q).flatMap (fun c => (List.range 4).map (fun k => CalObj.source (4 * c + k))))
    ++ ((cellsOf q).flatMap (fun c => (List.range 2).map (CalObj.amp c)))

/-- Every object of a quadrant has its result, or the fallback where the results name none (R283, R284).
DESIGN CHOICE, log entry 123. -/
def State.puQuad (s : State) (results : List CalOut) (q : Nat) : State :=
  forAll (quadObjects q) (fun s o => s.puResult o (results.find? (fun (c : CalOut) => c.obj == o))) s

/-- The results of power-up calibration, of the quadrants that have their supply (R283). -/
def State.puResults (s : State) (results : List CalOut) : State :=
  forAll ((List.range 4).filter (fun q => s.pd (7 + q))) (fun s q => s.puQuad results q) s

/-- The cell of an object. -/
def objCell : CalObj → Nat
  | .conv c _ => c
  | .source n => n / 4
  | .amp c _ => c

/-- A quadrant's own calibration has finished: the fence that waits for it ends, and its cells run again when nothing else
holds them (R285, R520). -/
def State.quadReady (s : State) (q : Nat) : State :=
  let s := s.setCauses 3 q ((s.causes 3 q).filter (fun c => c != .calibrate))
  let s := if !s.unitFenced 3 q then forAll (cellsOf q) State.returnCell s else s
  s.unfenceReplies 3 q

/-! Requests (R291). -/

/-- Whether Cf calibration of amplifier n may run: its channel idle, marked MAY_PAUSE or fenced (R288). -/
def State.ampFree (s : State) (n : Nat) : Bool :=
  let ch := 8 * (n / 2) + 6 + n % 2
  s.natIdle ch || s.mayPause ch || s.cellFenced (n / 2) || (s.chan ch).conv == .none_ || (s.chan ch).pausedFrom.isSome

/-- How many targets a KIND has (R310). -/
def calTargets (kind : Nat) : Nat :=
  match kind with
  | 1 => 384
  | 2 => 48
  | 3 => 192
  | 4 => 96
  | 5 => 4096
  | 6 => 48
  | _ => 0

/-- The objects of a whole cell, as requests. -/
def State.cellObjects (s : State) (cell : Nat) : List (Nat × Nat) :=
  (((List.range 8).filter (fun k => !s.isRetired cell k)).map (fun k => (1, 8 * cell + k)))
    ++ (if s.isRetired cell 8 then [] else [(2, cell)])
    ++ ((List.range 4).map (fun k => (3, 4 * cell + k)))
    ++ (((List.range 2).filter (fun q => s.ampFree (2 * cell + q))).map (fun q => (4, 2 * cell + q)))

/-- The status of a calibration request (R291, R310). -/
def State.calStatus (s : State) (kind target : Nat) : Nat :=
  if calTargets kind ≤ target then stParamRange
  else if kind = 1 ∧ s.isRetired (target / 8) (target % 8) then stDenied
  else if kind = 5 then (if s.cal.running || s.cal.triDue.isSome then stRetry else stOk)
  else if kind = 6 then
    if (s.cellObjects target).any (fun q => s.cal.queue.contains q) || s.hasWork (fun w => w == .cal 6 target) then stRetry
    else stOk
  else if s.cal.queue.contains (kind, target) then stRetry
  else if kind = 4 ∧ s.ampFree target = false then stBusyLive
  else stOk

/-- The quadrants with no idle SP to measure on (R297). -/
def State.triBusy (s : State) : List Nat :=
  (List.range 4).filter (fun q => !(cellsOf q).any (fun c =>
    s.pd (3 + q) && s.pd (7 + q) && !s.cellFenced c && s.spFree c))

/-- A triangulation run starts, without the quadrants that have had no idle SP (R297). A run leaves the SP it measures on free for
other uses. DESIGN CHOICE, log entry 124. -/
def State.triStart (s : State) (skip : List Nat) : State :=
  let now := s.now
  let s := { s with cal := { s.cal with running := true, triAt := some now, triDue := none, triSkip := skip } }
  forAll skip (fun s q => s.evCal 4 q 0x20) s

/-- A run is requested: it starts at once, or is held until every quadrant has an idle SP (R291, R306). -/
def State.triAsk (s : State) : State :=
  let now := s.now
  if s.cal.running then s
  else if s.triBusy.isEmpty then s.triStart []
  else { s with cal := { s.cal with triDue := some (s.cal.triDue.getD now) } }

/-- A calibration request is taken: its objects wait their turn (R286, R291). -/
def State.doCal (s : State) (kind target : Nat) : State :=
  if kind = 5 then { s with cal := { s.cal with queue := s.cal.queue ++ [(5, target)] } }.triAsk
  else
    let new := if kind = 6 then s.cellObjects target else [(kind, target)]
    ({ s with cal := { s.cal with queue := s.cal.queue ++ new } }).calKick (calCell kind target)

/-- CAL_REQUEST (R291, R349, R393). DEDUCED, log entry 24. -/
def execCalRequest (t : Nat) (h : Hdr) (kind target : Nat) (s : State) : Host.Outcome State Fault Refusal :=
  packet 0x0600 h t s (fun s =>
    if !s.running && kind == 1 then s.finish h 0x0600 stNotCommitted
    else if s.calStatus kind target ≠ stOk then s.finish h 0x0600 (s.calStatus kind target)
    else (s.accept h 0x0600 (.cal kind target)).doCal kind target)

/-- CAL_REQ (R291): answered ACCEPTED. -/
def execCalReq (t : Nat) (h : Hdr) (kind target : Nat) (s : State) : Host.Outcome State Fault Refusal :=
  packet opWriteParam h t s (fun s =>
    let st := s.itemStatus (pid 0x16 0 4) (kind ||| target <<< 4)
    let st := if st = stOk then s.calStatus kind target else st
    if st ≠ stOk then s.finish h opWriteParam st else (s.accept h opWriteParam (.cal kind target)).doCal kind target)

/-- The effect of a write of BASELINE (R301). -/
def State.doBaseline (s : State) (v : Nat) : State :=
  if v = 1 then { s with cal := { s.cal with baseAsked := true } } else s

/-- BASELINE (R301). -/
def execBaseline (t : Nat) (h : Hdr) (val : Word) (s : State) : Host.Outcome State Fault Refusal :=
  itemCommand (pid 0x16 0 5) val.toNat h t s noCheck (fun s => s.doBaseline val.toNat)

/-- Whether the background calibration of an object is due: BG_PERIOD has passed since the last (R286). -/
def State.bgDue (s : State) (key : Nat) : Bool :=
  s.cfgB 0x16 0 0 0 && (tfind s.cal.bgAt key).all (fun a => a + s.cfgF 0x16 0 0 8 8 * 3600000000000 ≤ s.now)

/-- An object has had its background calibration of this period (R286). -/
def State.bgMark (s : State) (key : Nat) : State :=
  let now := s.now
  { s with cal := { s.cal with bgAt := tset 0 s.cal.bgAt key now } }

/-- BACKGROUND_CALIBRATION (R286): the cell's next channel, once in each BG_PERIOD, unless it is excluded or no method applies. -/
def execBackgroundCalibration (t cell : Nat) (s : State) : Host.Outcome State Fault Refusal :=
  onUnit .cell cell t s (fun s =>
    let ch := 8 * cell + (s.cell cell).bgNext
    let use := (s.cell cell).spUse
    if !s.coreUp || !s.bgDue (convKey cell (ch % 8)) || s.cellFenced cell || s.calBusy cell then s
    else
      let s := (s.bgMark (convKey cell (ch % 8))).modCell cell (fun c => { c with bgNext := (c.bgNext + 1) % 8 })
      let noWay : Bool := !s.natIdle ch && (use == .perm || use == .failed)
      if s.cfgB 0x16 (0x400 + ch) 0 1 || s.isRetired cell (ch % 8) || noWay || s.cal.queue.contains (1, ch) then s
      else ({ s with cal := { s.cal with queue := s.cal.queue ++ [(1, ch)] } }).calKick cell)

/-! Results (R292 to R296). -/

/-- A converter's result is not plausible: counted, an event, and after three in a row the cell's source (R296). -/
def State.convImplausible (s : State) (cell k why : Nat) : State :=
  let key := convKey cell k
  let s := (s.modTrims key (fun c => { c with result := 3 })).evCal 1 key why
  let s := if k < 8 then s.bump (pid 0x16 (0x400 + 8 * cell + k) 4) 16 16 else s
  let n := tget 0 (s.cell cell).implaus k + 1
  let s := s.modCell cell (fun c => { c with implaus := tset 0 c.implaus k (if n = 3 then 0 else n) })
  if n = 3 then s.report cell (cellDetail 4 k) else s

/-- A converter's result is accepted. -/
def State.convAccepted (s : State) (cell k : Nat) (o : CalOut) : State :=
  let was := s.driftTemp (quadOf cell)
  (s.modTrims (convKey cell k) (fun c => { c with
      result := 1, age := 0, overdue := false, acc := some (o.ofs, o.gain, was) })).modCell cell
    (fun c => { c with implaus := tset 0 c.implaus k 0 })

/-- The result of a channel's own modulator, calibrated in a natural gap or while SP carries the channel (R292 to R294). -/
def State.ownResult (s : State) (cell k : Nat) (c : CalOut) : State :=
  let s := s.gapDue cell
  let key := convKey cell k
  let ch := 8 * cell + k
  let d := s.cell cell
  let onSp : Bool := d.spUse == .temp && d.spCh == k && (s.chan ch).conv == Conv.spTemp
  if d.bgCh ≠ some ch ∧ onSp = false then s
  else
    let why := s.convCheck (quadOf cell) (s.trims key) c
    let s := if why ≠ 0 then s.convImplausible cell k why
      else
        let s := s.convAccepted cell k c
        if onSp then s.modTrims key (fun x => { x with ofs := c.ofs, gain := c.gain, pending := none }) else s.offerTrims key c.ofs c.gain
    let s := if onSp then s.startHandback false ch else s.gapClose cell
    (s.calDone 1 ch (if why = 0 then 1 else 3)).calKick cell

/-- Whether the object of a request and a background key is being calibrated: it is requested, or due in the background (R286,
R291). -/
def State.calWanted (s : State) (kind target key : Nat) : Bool := s.cal.queue.contains (kind, target) || s.bgDue key

/-- The result of SP, calibrated while it is idle (R286, R292). -/
def State.spResult (s : State) (cell : Nat) (c : CalOut) : State :=
  let key := convKey cell 8
  if (s.cell cell).spUse ≠ .idle ∨ s.calWanted 2 cell key = false then s
  else
    let why := s.convCheck (quadOf cell) (s.trims key) c
    let s := s.bgMark key
    let s := if why ≠ 0 then s.convImplausible cell 8 why else (s.convAccepted cell 8 c).offerTrims key c.ofs c.gain
    s.calDone 2 cell (if why = 0 then 1 else 3)

/-- The result of a source: new codes take effect at the next base-rate boundary, and the channels that it serves carry CALSWAP
there (R286, R292, R295, R296). -/
def State.sourceResult (s : State) (n : Nat) (c : CalOut) : State :=
  let why := sourceCheck (s.srcTrim n).accepted c
  let now := s.now
  let e := s.boundary (n / 4)
  if !s.calWanted 3 n (512 + n) then s
  else
  let s := s.bgMark (512 + n)
  if why = 0 then
    let s := s.modSrcTrim n (fun x => x.take now e c.gain)
    (forAll ((chansOf (n / 4)).filter (fun ch => (s.served ch).contains n)) (fun s ch => s.calswapAt ch (e + 1)) s).calDone 3 n 1
  else
    (((s.modSrcTrim n (fun x => { x with result := 3 })).bump (pid 0x16 (0x300 + n) 1) 16 16).evCal 2 n why).calDone 3 n 3

/-- The result of an amplifier, whose calibration is offline (R288, R292, R295, R296). -/
def State.ampResult (s : State) (n : Nat) (c : CalOut) : State :=
  let why := ampCheck (s.ampTrim n).accepted c
  let now := s.now
  let e := s.boundary (n / 2)
  if !s.ampFree n || !s.calWanted 4 n (1024 + n) then s
  else
  let s := s.bgMark (1024 + n)
  if why = 0 then
    ((s.modAmpTrim n (fun x => x.take now e c.gain)).calswapAt (8 * (n / 2) + 6 + n % 2) (e + 1)).calDone 4 n 1
  else ((s.modAmpTrim n (fun x => { x with result := 3 })).evCal 3 n why).calDone 4 n 3

/-- CALIBRATION_RESULT (R292 to R296). -/
def execCalibrationResult (t : Nat) (c : CalOut) (s : State) : Host.Outcome State Fault Refusal :=
  match c.obj with
  | .conv cell k =>
    onUnits .cell cell .modulator k t s (fun s =>
      if !s.coreUp || s.cellFenced cell then s
      else if k < 8 then s.ownResult cell k c else s.spResult cell c)
  | .source n =>
    onUnit .source n t s (fun s => if s.coreUp && !s.cellFenced (n / 4) then s.sourceResult n c else s)
  | .amp cell q => onUnits .cell cell .amplifier q t s (fun s => if s.coreUp then s.ampResult (2 * cell + q) c else s)

/-- The pending trims of converter k of a cell take effect at boundary b = now; the sample of the channel it carries whose
output interval contains the base-rate period that starts at b is marked (R292). -/
def State.applyTrims (s : State) (cell k : Nat) : State :=
  let key := convKey cell k
  match (s.trims key).pending with
  | none => s
  | some (o, g) =>
    let s := s.modTrims key (fun c => { c with ofs := o, gain := g, pending := none })
    match s.channelOf cell k with
    | some ch => s.calswapAt ch (s.now + 1)
    | none => s

/-- TRIM_APPLY (R292, R293): at a base-rate boundary outside a matching overlap. -/
def execTrimApply (t cell conv : Nat) (s : State) : Host.Outcome State Fault Refusal :=
  onUnits .cell cell .modulator conv t s (fun s =>
    if onGrid (s.cell cell).origin basePeriod s.now && !s.inOverlap cell conv then s.applyTrims cell conv else s)

/-! Triangulation (R297 to R301) and the drift log (R303 to R305). -/

/-- TRIANGULATION_RUN (R297): every TRI_PERIOD, or as requested; while a quadrant has no idle SP the run waits, for at most one
TRI_PERIOD. DEDUCED, log entry 25. -/
def execTriangulationRun (t : Nat) (s : State) : Host.Outcome State Fault Refusal :=
  command t s (fun s =>
    let period := s.cfgF 0x16 0 0 16 8 * 60000000000
    let due := s.cal.triDue.getD ((s.cal.triAt.map (· + period)).getD 0)
    if s.cal.running || decide (s.now < due) then s
    else if s.triBusy.isEmpty || decide (due + period ≤ s.now) then s.triStart s.triBusy
    else s)

/-- Twice the median of four numbers (R300). -/
def median2 (l : List Int) : Int :=
  let q := l.foldl (fun a x => insertBy (fun x y => decide (x < y)) x a) []
  q.getD 1 0 + q.getD 2 0

/-- The log takes an entry: when it is full, the oldest above number 1023 goes (R305). DEDUCED, log entry 25. -/
def State.logPut (s : State) (e : LogEntry) : State :=
  if s.cal.log.length < 32768 then { s with cal := { s.cal with log := s.cal.log ++ [e] } }
  else
    let was := s.cal.logFull
    let s := { s with cal := { s.cal with log := s.cal.log.eraseP (fun x => decide (1023 < x.num)) ++ [e], logFull := true } }
    if was then s else s.evCal 0 0 0x23

/-- A log entry with the given bits [6:3] beside the others is written; where the flash does not take it, source 94 is reported
and the latest such entry is kept (R303 to R305). -/
def State.logWrite (s : State) (ok : Bool) (bits closure : Nat) : State :=
  let c := s.cal
  let used : Bool := s.cfgB 0x16 0 0 1 && !c.refSuspect
  let e : LogEntry := {
    bits := BitVec.ofNat 7 (s.tstate ||| b2n used <<< 2 ||| bits <<< 3 ||| b2n c.refSuspect <<< 6)
    island := s.islandNo, num := c.logNum, t := s.stamp
    drift := c.drift, corr := c.corr, temps := c.temps, closure := closure }
  let s := { s with cal := { s.cal with logNum := (c.logNum + 1) % 2 ^ 32 } }
  let now := s.now
  if ok then s.logPut e
  else { s with cal := { s.cal with unwritten := some e, unwrittenAt := now } }.report 94 1

/-- The day of the hub's timescale (R303). -/
def State.logDay (s : State) : Nat := s.stamp / 86400000000000

/-- Six ratios between quadrants: where that of quadrants i < j stands (R297). -/
def pairAt (i j : Nat) : Nat := if i = 0 then j - 1 else if i = 1 then j + 1 else 5

/-- The ratio of quadrant i to quadrant j in a run. -/
def triRatio (o : TriOut) (i j : Nat) : Rat :=
  if i = j then 1 else if i < j then o.pairs.getD (pairAt i j) 1 else 1 / o.pairs.getD (pairAt j i) 1

/-- The deviation of a ratio from what it was, in 0.001 ppm. -/
def ppb (now was : Rat) : Int := rneQ ((now / was - 1) * 1000000000)

/-- The ratio at the baseline, key 0 to 5 between quadrants and 6 to 9 to REFIN; one that has none is its own. DESIGN CHOICE, log
entry 124. -/
def State.baseOf (s : State) (key : Nat) (now : Rat) : Rat := (tfind s.cal.bases key).getD now

/-- The ratio of quadrant i to quadrant j at the baseline. -/
def State.baseRatio (s : State) (o : TriOut) (i j : Nat) : Rat :=
  if i = j then 1 else if i < j then s.baseOf (pairAt i j) (triRatio o i j) else 1 / s.baseOf (pairAt j i) (triRatio o j i)

/-- The quadrants that a run leaves out: those with no idle SP, and those without supply (R297). -/
def State.triLeft (s : State) : List Nat := (List.range 4).filter (fun q => s.cal.triSkip.contains q || !s.pd (7 + q))

/-- The quadrants that a run measures. -/
def State.triMeasured (s : State) : List Nat := (List.range 4).filter (fun q => !s.triLeft.contains q)

/-- The largest deviation from 1 of a product of three ratios around measured quadrants (R298). -/
def State.closureOf (s : State) (o : TriOut) : Rat :=
  let m := s.triMeasured
  let dev := fun (i j k : Nat) =>
    let x := triRatio o i j * triRatio o j k * triRatio o k i - 1
    max x (-x)
  ([(0, 1, 2), (0, 1, 3), (0, 2, 3), (1, 2, 3)].filter (fun (p : Nat × Nat × Nat) =>
    m.contains p.1 && m.contains p.2.1 && m.contains p.2.2)).foldl (fun a p => max a (dev p.1 p.2.1 p.2.2)) 0

/-- The drift of quadrant q against REFIN since the baseline, one left out keeping its own (R298, R300). -/
def State.vsRefin (s : State) (o : TriOut) (q : Nat) : Int :=
  if s.triLeft.contains q then s.cal.vsRef.getD q 0
  else ppb (o.refs.getD q 1) (s.baseOf (6 + q) (o.refs.getD q 1))

/-- The drift of quadrant q against the mean of the measured quadrants since the baseline (R298). -/
def State.vsMean (s : State) (o : TriOut) (q : Nat) : Int :=
  let m := s.triMeasured
  let mean := fun (r : Nat → Nat → Rat) => (m.map (fun j => r j q)).foldl (· + ·) 0
  ppb (mean (s.baseRatio o)) (mean (triRatio o))

/-- REFIN after a run: a median that moves by more than REFIN_TOL makes it suspect, ten runs within it clear that (R300). -/
def State.judgeRefin (s : State) (o : TriOut) : State :=
  let ref := (List.range 4).map (s.vsRefin o)
  let m := median2 ref
  let tol := s.cfgF 0x16 0 3 16 16 * 10
  let moved : Bool := match s.cal.lastMedian with
    | some x => decide (2 * tol < (m - x).natAbs)
    | none => false
  let was := s.cal.refSuspect
  let runs := if moved then 0 else s.cal.suspectRuns + 1
  let now : Bool := moved || (was && decide (runs < 10))
  let s := { s with cal := { s.cal with lastMedian := some m, suspectRuns := runs, refSuspect := now, vsRef := ref } }
  if now && !was then s.evCal 0 1 0x22 else s

/-- A list with element i replaced by x. -/
def setNth {α : Type} : List α → Nat → α → List α
  | [], _, _ => []
  | _ :: r, 0, x => x :: r
  | a :: r, i + 1, x => a :: setNth r i x

/-- The drifts of an accepted run, the quadrants left out keeping theirs (R298). -/
def State.takeDrift (s : State) (o : TriOut) : State :=
  let new := fun (q : Nat) => if s.cfgB 0x16 0 0 1 && !s.cal.refSuspect then s.vsRefin o q else s.vsMean o q
  { s with cal := { s.cal with
    drift := (List.range 4).map (fun q => if s.triLeft.contains q then s.cal.drift.getD q 0 else new q) } }

/-- The baseline ratios after an accepted run: all that it measured when it is the baseline, else those that had none.
DESIGN CHOICE, log entry 124. -/
def State.takeBases (s : State) (o : TriOut) (all : Bool) : State :=
  let m := s.triMeasured
  let pairs := ([(0, 1), (0, 2), (0, 3), (1, 2), (1, 3), (2, 3)].filter (fun (p : Nat × Nat) => m.contains p.1 && m.contains p.2)).map
    (fun p => (pairAt p.1 p.2, triRatio o p.1 p.2))
  let refs := if s.cfgB 0x16 0 0 1 then m.map (fun q => (6 + q, o.refs.getD q 1)) else []
  let new := (pairs ++ refs).filter (fun x => all || (tfind s.cal.bases x.1).isNone)
  { s with cal := { s.cal with bases := new.foldl (fun l x => tset 0 l x.1 x.2) s.cal.bases } }

/-- The baseline: every drift is zero from now on, also in what the last accepted results are held against, and the corrections
in force are part of the stored trims (R295, R301). -/
def State.takeBase (s : State) : State :=
  let d := fun (key : Nat) => s.cal.drift.getD (quadOf (key / 9)) 0
  { s with cal := { s.cal with
    baseAsked := false
    convs := s.cal.convs.map (fun x => (x.1, { x.2 with
      acc := x.2.acc.map (fun a => (a.1, a.2.1, a.2.2.1 - d x.1, a.2.2.2)) }))
    drift := [0, 0, 0, 0]
    vsRef := [0, 0, 0, 0]
    corr := [0, 0, 0, 0]
    trimDue := []
    lastMedian := if s.cfgB 0x16 0 0 1 then some 0 else none } }

/-- The quadrants whose drift differs from the correction in force by APPLY_STEP or more (R299). -/
def State.dueQuads (s : State) : List Nat :=
  (List.range 4).filter (fun q =>
    decide (s.cfgF 0x16 0 3 0 16 ≤ (s.cal.drift.getD q 0 - s.cal.corr.getD q 0).natAbs))

/-- The first whole second of the hub's timescale at least 100 ms from now, in RUNTIME (R299). -/
def State.nextSecond (s : State) : Nat :=
  s.now + 100000000 + (1000000000 - (s.stamp + 100000000) % 1000000000) % 1000000000

/-- The trim updates that an accepted run calls for (R299). -/
def State.armTrims (s : State) (due : List Nat) : State :=
  let e := s.nextSecond
  forAll due (fun s q => { s with cal := { s.cal with
    trimFrom := e
    trimDue := tset 0 s.cal.trimDue q (s.cal.drift.getD q 0 - s.cal.corr.getD q 0) } }) s

/-- The log entry of an accepted run, on the occasions of R303: the run of power-up step 1, a baseline, a change of
REFIN_SUSPECT, the first run of a day. -/
def State.triLog (s : State) (o : TriOut) (base suspect : Bool) : State :=
  let day := s.logDay
  let s := if base || !s.cal.puDone || suspect || day != s.cal.logDay then
      s.logWrite o.logOk (b2n (!s.cal.puDone) ||| b2n base <<< 2) s.cal.closure else s
  { s with cal := { s.cal with logDay := day } }

/-- The final reply to a request of a triangulation run, with a result code (R291, R311). -/
def State.triDone (s : State) (res : Nat) : State :=
  match s.cal.queue.find? (fun q => q.1 == 5) with
  | some q => s.calDone 5 q.2 res
  | none => s

/-- An accepted run (R298 to R301, R303). -/
def State.triAccepted (s : State) (o : TriOut) : State :=
  let base := s.cal.baseAsked
  let was := s.cal.refSuspect
  let s := if s.cfgB 0x16 0 0 1 then s.judgeRefin o else { s with cal := { s.cal with lastMedian := none } }
  let suspect : Bool := s.cal.refSuspect != was
  let s := (s.takeDrift o).takeBases o base
  let s := if base then s.takeBase else s
  let due := if base || s.cal.refSuspect then [] else s.dueQuads
  ((s.armTrims due).triLog o base suspect).triDone (if due.isEmpty then 2 else 1)

/-- A run whose closure residual is too large changes nothing (R298, R303). -/
def State.triRejected (s : State) (o : TriOut) : State :=
  (((s.bump (pid 0x16 0 0x010) 16 16).evCal 0 0 0x21).logWrite o.logOk (2 ||| b2n (!s.cal.puDone)) s.cal.closure).triDone 3

/-- TRIANGULATION_RESULT (R297, R298, R300). -/
def execTriangulationResult (t : Nat) (o : TriOut) (s : State) : Host.Outcome State Fault Refusal :=
  command t s (fun s =>
    if !s.cal.running then s
    else
      let c := s.closureOf o
      let s := { s with cal := { s.cal with
        running := false, temps := o.temps, closure := (rneQ (c * 1000000000)).toNat
        refin := if s.cfgB 0x16 0 0 1 then o.refin else s.cal.refin } }
      if c * 10000000 ≤ 1 then s.triAccepted o else s.triRejected o)

/-- A gain list with every code raised by k, within its 20 bits. -/
def raiseGain (k : Int) (l : List Int) : List Int := l.map (fun x => clampI (-524288) 524287 (x + k))

/-- A converter's gains rise by k codes; a change off its cell's base-rate boundaries or inside a matching overlap waits (R292, R293,
R299). -/
def State.triTrim (s : State) (cell conv : Nat) (k : Int) : State :=
  let key := convKey cell conv
  let c := s.trims key
  let ofs := (c.pending.map Prod.fst).getD c.ofs
  let gain := raiseGain k ((c.pending.map Prod.snd).getD c.gain)
  let s := s.offerTrims key ofs gain
  if onGrid (s.cell cell).origin basePeriod s.now && !s.inOverlap cell conv then s.applyTrims cell conv else s

/-- Whether the trim update of a quadrant is due now: at the first base-rate boundary of its cells from the whole second of the hub's
timescale on (R299). Cells whose grid a RESYNC has moved follow at their own boundary. DESIGN CHOICE, log entry 124. -/
def State.trimSecond (s : State) (quadrant : Nat) : Bool :=
  decide (s.cal.trimFrom ≤ s.now) && decide (s.now < s.cal.trimFrom + basePeriod)
    && (cellsOf quadrant).any (fun c => onGrid (s.cell c).origin basePeriod s.now)

/-- TRIANGULATION_TRIM_UPDATE (R299). -/
def execTriangulationTrimUpdate (t quadrant : Nat) (s : State) : Host.Outcome State Fault Refusal :=
  onUnit .quadrant quadrant t s (fun s =>
    match tfind s.cal.trimDue quadrant with
    | none => s
    | some d =>
      if !s.trimSecond quadrant then s else
      let k := rne (d * 524288) 5000000
      let s := { s with cal := { s.cal with
        trimDue := tset 0 s.cal.trimDue quadrant 0
        corr := setNth s.cal.corr quadrant (s.cal.corr.getD quadrant 0 + rne (k * 5000000) 524288) } }
      forAll (cellsOf quadrant) (fun s c => forAll (List.range 9) (fun s m => s.triTrim c m k) s) s)

/-- DRIFT_LOG_RETRY (R305): every hour. DEDUCED, log entry 25. -/
def execDriftLogRetry (t : Nat) (ok : Bool) (s : State) : Host.Outcome State Fault Refusal :=
  command t s (fun s =>
    match s.cal.unwritten with
    | none => s
    | some e =>
      let now := s.now
      if now < s.cal.unwrittenAt + 3600000000000 then s
      else if ok then (({ s with cal := { s.cal with unwritten := none } }).logPut e).pairEnds 94
      else { s with cal := { s.cal with unwrittenAt := now } }.report 94 1)

/-- The item that shows a converter's age (R310). -/
def ageItem (key : Nat) : Nat :=
  if key % 9 < 8 then pid 0x16 (0x400 + 8 * (key / 9) + key % 9) 3 else pid 0x16 (0x600 + key / 9) 3

/-- One hour more for a converter (R290, R312). -/
def State.ageOne (s : State) (limit key : Nat) : State :=
  let c := s.trims key
  let a := min 0xFFFF (c.age + 1)
  let late : Bool := decide (limit ≤ a) && !c.overdue
  let s := s.modTrims key (fun c => { c with age := a, overdue := c.overdue || late })
  let s := if a = 0xFFFF ∧ c.age < 0xFFFF then s.raise 0x10 (satFields (ageItem key) 0) else s
  if late then s.evCal 1 key 8 else s

/-- CAL_AGE_TICK (R290): every hour. -/
def execCalAgeTick (t : Nat) (s : State) : Host.Outcome State Fault Refusal :=
  command t s (fun s =>
    if s.elapsed s.cal.ageAt 3600000000000 then
      forAll (List.range 432) (fun s key => s.ageOne (4 * s.cfgF 0x16 0 0 8 8) key)
        { s with cal := { s.cal with ageAt := some s.now } }
    else s)

/-! Self-tests (R306 to R308). -/

/-- Whether a test is a live one. -/
def liveTest (test : Nat) : Bool := test == 1 || test == 2 || test == 3

/-- How many targets a test has. -/
def testTargets (test : Nat) : Nat :=
  match test with
  | 1 => 384
  | 2 => 4096
  | 3 => 192
  | 4 => 96
  | 5 => 48
  | 6 => 48
  | 7 => 192
  | _ => 0

/-- The cell an offline test works in. -/
def testCell (test target : Nat) : Nat :=
  match test with
  | 4 => target / 2
  | 7 => target / 4
  | _ => target

/-- The channels an offline test touches (R306). -/
def State.testChans (s : State) (test target : Nat) : List Nat :=
  match test with
  | 4 => [8 * (target / 2) + 6 + target % 2]
  | 5 => chansOf target
  | 6 => chansOf target
  | 7 => (chansOf (target / 4)).filter (fun ch => (s.served ch).contains target)
  | _ => []

/-- The status of a test request; an offline test in a cell where one runs waits for it. DESIGN CHOICE, log entry 123 (R307). -/
def State.testStatus (s : State) (test target : Nat) : Nat :=
  if testTargets test ≤ target then stParamRange
  else if test = 1 then
    if s.isRetired (target / 8) (target % 8) then stDenied
    else if s.cal.queue.contains (9, target) || s.cal.queue.contains (1, target) then stRetry
    else stOk
  else if test = 2 then (if s.cal.running || s.cal.triDue.isSome then stRetry else stOk)
  else if liveTest test then (if s.hasWork (fun w => w == .test test target) then stRetry else stOk)
  else if !s.cellFenced (testCell test target) && !(s.testChans test target).all s.mayPause then stBusyLive
  else if s.cal.tests.any (fun (x : Nat × Nat × List Nat) => testCell x.1 x.2.1 == testCell test target) then stRetry
  else stOk

/-- A test starts: a MOD_CHECK waits its turn, TRIANGULATE makes a run, an offline test fences each channel that it touches on its own
unless its cell is fenced (R306 to R308). -/
def State.doTest (s : State) (test target : Nat) : State :=
  if test = 1 then
    ({ s with cal := { s.cal with queue := s.cal.queue ++ [(9, target)] } }).calKick (target / 8)
  else if test = 2 then s.triAsk
  else if liveTest test then s
  else
    let l := if s.cellFenced (testCell test target) then [] else s.testChans test target
    let s := { s with cal := { s.cal with tests := s.cal.tests ++ [(test, target, l)] } }
    (forAll l State.pauseChan s).calKick (testCell test target)

/-- SELF_TEST (R307, R349, R393). -/
def execSelfTest (t : Nat) (h : Hdr) (test target : Nat) (s : State) : Host.Outcome State Fault Refusal :=
  packet 0x0601 h t s (fun s =>
    if !s.running && test == 1 then s.finish h 0x0601 stNotCommitted
    else if s.testStatus test target ≠ stOk then s.finish h 0x0601 (s.testStatus test target)
    else (s.accept h 0x0601 (.test test target)).doTest test target)

/-- TEST_REQ (R307): answered ACCEPTED. -/
def execTestReq (t : Nat) (h : Hdr) (test target : Nat) (s : State) : Host.Outcome State Fault Refusal :=
  packet opWriteParam h t s (fun s =>
    let st := s.itemStatus (pid 0x16 0 6) (test ||| target <<< 4)
    let st := if st = stOk then s.testStatus test target else st
    if st ≠ stOk then s.finish h opWriteParam st else (s.accept h opWriteParam (.test test target)).doTest test target)

/-- The MOD_CHECK of a channel's modulator ends: its gap closes or SP hands the channel back. -/
def State.modCheckEnd (s : State) (ch : Nat) : State :=
  let cell := cellOfCh ch
  let s := { s with cal := { s.cal with queue := s.cal.queue.erase (9, ch) } }
  let s := if (s.cell cell).bgCh = some ch then s.gapClose cell
    else if (s.cell cell).spUse = .temp ∧ (s.chan ch).conv = Conv.spTemp then s.startHandback false ch
    else s
  s.calKick cell

/-- A channel that an offline test had fenced returns at the next base-rate boundary with cleared histories; a retirement or release
that its fence interrupted starts again (R107, R308). -/
def State.unpauseChan (s : State) (ch : Nat) : State :=
  let cell := cellOfCh ch
  let b := s.boundary cell
  let s := s.modChan ch (fun c => { c with pausedFrom := none })
  if s.chanRuns ch then
    let s := s.startChan true b ch
    if (s.cell cell).seam.names ch then s.modCell cell (fun d => { d with seam := d.seam.again b, overlap := [] }) else s
  else s

/-- An offline test ends: its channels return (R308), and what waited for its cell's converters is served. -/
def State.offlineEnd (s : State) (test target : Nat) : State :=
  let mine := fun (x : Nat × Nat × List Nat) => x.1 == test && x.2.1 == target
  let l := (s.cal.tests.filter mine).flatMap (fun x => x.2.2)
  let s := { s with cal := { s.cal with tests := s.cal.tests.filter (fun x => !mine x) } }
  (forAll l State.unpauseChan s).calKick (testCell test target)

/-- SELF_TEST_END (R306, R308). -/
def execSelfTestEnd (t test target : Nat) (failed : Bool) (data : Nat) (s : State) : Host.Outcome State Fault Refusal :=
  command t s (fun s =>
    if !s.hasWork (fun w => w == .test test target) then s
    else
      let s := if test = 1 then s.modCheckEnd target else if liveTest test then s else s.offlineEnd test target
      s.finalReply (.test test target) stOk 0 (be 1 (b2n failed) ++ be 3 data))

end Sys2Proof.Machine
end

