-- ==== Sys2Proof/Machine/Blocks.lean ====
section
/-! DEFINITION. The bytes of blocks and their items on the wire and in storage (R225 to R230), and archive blocks with
their coding (R425 to R428). An encoder is be for the wire and le for the hold store and storage. -/

namespace Sys2Proof.Machine

/-- Turns the fields of the given widths around. -/
def swapFields : List Nat → List Byte → List Byte
  | [], _ => []
  | w :: ws, b => (b.take w).reverse ++ swapFields ws (b.drop w)

/-- The widths of the fields of a result entry (R188). -/
def measFields : List Nat := [1, 1, 2, 1, 1, 2, 8, 4, 4, 8, 8, 8, 8, 4, 4, 8, 8, 4, 1, 1, 2, 8]

/-- A result entry, held little-endian, in the byte order of e (R180). -/
def measIn (wire : Bool) (b : List Byte) : List Byte := if wire then swapFields measFields b else b

/-- The encoder of a place: the wire, or the hold store and storage (R225). -/
def encOf (wire : Bool) : Nat → Nat → List Byte := if wire then be else le

/-- A mask of n bytes: byte i, bit j stands for element 8i + j (R225). -/
def maskBytes (n m : Nat) : List Byte := le n m

/-- Pads to a multiple of 8 bytes (R227). -/
def pad8 (b : List Byte) : List Byte := b ++ zeros ((8 - b.length % 8) % 8)

/-- Whether a sample run carries flag bytes (R227). -/
def runFlags (fmt : Nat) (fl : Bool) : Bool := fl && fmt != 1

/-- The header of a sample run (R227). -/
def runHead (e : Nat → Nat → List Byte) (n : Nat) : List Byte := e 1 0 ++ zeros 1 ++ e 2 n ++ zeros 4

/-- The stamp of an instant of RUNTIME in a block of time state ts. -/
def stampIn (tm : Time) (ts r : Nat) : Nat := if ts = 0 then wrap 64 r else ntimeAt tm r

/-- The channels of a record's members as a mask. -/
def memberMask (r : Record) : Nat := maskOf (r.members.map Member.ch)

/-- An open block (R229). -/
def openBytes (e : Nat → Nat → List Byte) (tm : Time) (hub ts island : Nat) (r : Record) : List Byte :=
  e 1 0x12 ++ e 1 r.origin ++ e 2 hub ++ e 2 r.epoch ++ e 1 r.profile
    ++ e 1 (b2n r.late ||| b2n r.bcast <<< 1 ||| ts <<< 2) ++ e 4 r.num ++ e 1 island ++ zeros 3
    ++ e 8 (r.tStamp.getD (stampIn tm ts r.trig)) ++ e 4 r.pre ++ e 4 r.post ++ e 2 r.oHub ++ e 2 r.oEpoch ++ e 4 r.oNum
    ++ maskBytes 4 r.groups.toNat ++ e 2 r.primary ++ e 2 r.ncode ++ maskBytes 64 r.causes.toNat ++ maskBytes 48 (memberMask r)
    ++ e 8 r.decided ++ zeros 24

/-- A member entry of a trailer (R230). -/
def memberBytes (e : Nat → Nat → List Byte) (m : Member) : List Byte :=
  e 2 m.ch ++ e 1 m.flags.toNat ++ e 1 (b2n (m.shortfall != 0)) ++ e 4 m.shortfall ++ e 8 (wrap 48 m.firstSeq)
    ++ e 8 (wrap 48 m.gapSlots)

/-- A trailer (R230). -/
def trailerBytes (wire : Bool) (tm : Time) (hub ts : Nat) (r : Record) : List Byte :=
  let e := encOf wire
  e 1 0x13 ++ e 1 r.closedBy ++ e 2 hub ++ e 2 r.epoch ++ e 2 r.retrig ++ e 4 r.num ++ e 2 r.members.length
    ++ e 2 r.results.length ++ e 8 ((r.endAt.map (stampIn tm ts)).getD 0)
    ++ e 4 (r.members.filter (fun m => m.shortfall != 0)).length ++ zeros 4
    ++ (r.members.map (memberBytes e)).flatten ++ (r.results.map (fun (x : Nat × List Byte) => measIn wire x.2)).flatten

/-- What the bytes of an item depend on beside itself: the place, the hub and its time map, and the header of its block. -/
structure Ctx where
  wire : Bool
  hub : Nat
  tm : Time
  ch : Nat
  fmt : Nat
  flags : Bool
  ts : Nat
  island : Nat

/-- The bytes of an item (R178, R179, R188, R191, R227, R229, R230). -/
def itemBytes (c : Ctx) (i : Item) : List Byte :=
  let e := encOf c.wire
  match i with
  | .run _ xs => pad8 (runHead e xs.length ++ (xs.map (fun (x : Word × BitVec 8) => e 4 x.1.toNat)).flatten
      ++ (if runFlags c.fmt c.flags then xs.map Prod.snd else []))
  | .acc why a gain sh => e 1 1 ++ e 1 why.toNat ++ e 2 c.ch ++ e 1 gain ++ e 1 a.flags.toNat ++ e 1 sh ++ zeros 1
      ++ e 8 a.t0 ++ e 8 (wrap 48 a.seq0) ++ e 8 a.count ++ e 8 (code 64 a.sum) ++ e 8 a.sumsq
  | .mm why m gain => e 1 2 ++ e 1 why.toNat ++ e 2 c.ch ++ e 1 gain ++ e 1 m.flags.toNat ++ zeros 2 ++ e 8 m.t0
      ++ e 8 m.tMin ++ e 8 m.tMax ++ e 4 (code 32 m.min) ++ e 4 (code 32 m.max) ++ e 8 m.count
  | .meas b => measIn c.wire b
  | .gap cause first count t0 cont => e 1 4 ++ e 1 cause ++ e 2 c.ch ++ e 1 (b2n cont) ++ zeros 3 ++ e 8 (wrap 48 first)
      ++ e 8 (wrap 48 count) ++ e 8 t0
  | .tag ep num => e 1 6 ++ zeros 1 ++ e 2 ep ++ e 4 num
  | .openBlk r => openBytes e c.tm c.hub c.ts c.island r
  | .trailer r => trailerBytes c.wire c.tm c.hub c.ts r

/-- The place and the header data of a block's items. -/
def ctxOf (wire : Bool) (hub : Nat) (tm : Time) (b : Blk) : Ctx := ⟨wire, hub, tm, b.ch, b.fmt, b.flags, b.ts, b.island⟩

/-- Whether a block carries the header of R226. -/
def hasHead (b : Blk) : Bool := b.typ == 0x10 || b.typ == 0x11

/-- The header of a block up to its CRC, with a body of n bytes (R226). -/
def headBytes (wire : Bool) (hub : Nat) (b : Blk) (n : Nat) : List Byte :=
  let e := encOf wire
  e 1 b.typ ++ e 1 (b.fmt ||| b2n b.flags <<< 2) ++ e 2 hub ++ e 2 b.ch ++ e 1 b.ts ++ e 1 b.island ++ e 8 b.t0
    ++ e 6 (wrap 48 b.seq0) ++ e 2 b.d ++ e 4 n

/-- The bytes of a block (R225 to R230): its CRC covers it with the field taken as 0. -/
def blkBytes (wire : Bool) (hub : Nat) (tm : Time) (b : Blk) : List Byte :=
  let body := (b.items.map (itemBytes (ctxOf wire hub tm b))).flatten
  if hasHead b then
    let h := headBytes wire hub b body.length
    h ++ encOf wire 4 (crc32c (h ++ zeros 4 ++ body)) ++ body
  else body

/-! The coding of archive blocks (R427). -/

/-- The low n bits of v, least significant first. -/
def bitsLsb : Nat → Nat → List Bool
  | 0, _ => []
  | n + 1, v => (v % 2 == 1) :: bitsLsb n (v / 2)

/-- The bytes of a bitstream, padded with zeros. -/
def packBits (b : List Bool) : List Byte :=
  (List.range (cdiv b.length 8)).map (fun i =>
    BitVec.ofNat 8 (((b.drop (8 * i)).take 8).foldr (fun x a => 2 * a + b2n x) 0))

/-- The zigzag residuals of samples after the first, for a method (1 first difference, 2 second difference). -/
def residuals (method : Nat) : Option Nat → Nat → List Nat → List Nat
  | _, _, [] => []
  | p2, p1, x :: r =>
    let p := match p2 with
      | some q => if method = 2 then 2 * p1 + 2 ^ 32 - q else p1
      | none => p1
    let d := sdiff 32 x p
    let u := if d < 0 then (-2 * d - 1).toNat else (2 * d).toNat
    u :: residuals method (some p1) x r

/-- The code of one residual with parameter k. -/
def riceBits (k u : Nat) : List Bool :=
  let q := u >>> k
  if q < 24 then List.replicate q true ++ [false] ++ bitsLsb k u else List.replicate 24 true ++ bitsLsb 32 u

/-- The length of the code of one residual. -/
def riceLen (k u : Nat) : Nat := if u >>> k < 24 then (u >>> k) + 1 + k else 56

/-- The k of 0 to 31 that codes a group in the fewest bits, the least such. -/
def bestK (g : List Nat) : Nat :=
  let cost := fun k => (g.map (riceLen k)).sum
  (List.range 32).foldl (fun b k => if cost k < cost b then k else b) 0

/-- The groups of 16 residuals, each with its k; the fuel is the number of residuals. -/
def groupBits : Nat → List Nat → List Bool
  | 0, _ => []
  | _ + 1, [] => []
  | n + 1, g =>
    let a := g.take 16
    bitsLsb 5 (bestK a) ++ (a.map (riceBits (bestK a))).flatten ++ groupBits n (g.drop 16)

/-- The bitstream of a sample run. -/
def codeRun (method : Nat) (withFlags : Bool) (xs : List (Word × BitVec 8)) : List Byte :=
  match xs.map (fun (x : Word × BitVec 8) => x.1.toNat) with
  | [] => []
  | x :: r =>
    let u := residuals method none x r
    let marks := if withFlags then xs.map (fun (y : Word × BitVec 8) => y.2 != 0) else []
    packBits (bitsLsb 32 x ++ groupBits u.length u ++ marks)
      ++ (if withFlags then (xs.map Prod.snd).filter (· != 0) else [])

/-- The coded bytes of a block: headers and other items raw, sample runs coded. -/
def codeBlk (method hub : Nat) (tm : Time) (b : Blk) : List Byte :=
  let raw := blkBytes false hub tm b
  if hasHead b then
    raw.take 32 ++ (b.items.map (fun i => match i with
      | .run _ xs => runHead le xs.length ++ codeRun method (runFlags b.fmt b.flags) xs
      | i => itemBytes (ctxOf false hub tm b) i)).flatten
  else raw

/-- The content of an archive block (R426). -/
def contentOf (hub : Nat) (tm : Time) (l : List Blk) : List Byte := (l.map (blkBytes false hub tm)).flatten

/-- The method and body of an archive block with the given content: coded when that is allowed and shorter (R427, R433). -/
def bodyOf (comp : Bool) (hub : Nat) (tm : Time) (l : List Blk) : Nat × List Byte :=
  let raw := contentOf hub tm l
  let c1 := (l.map (codeBlk 1 hub tm)).flatten
  let c2 := (l.map (codeBlk 2 hub tm)).flatten
  if comp && min c1.length c2.length < raw.length then
    if c2.length < c1.length then (2, c2) else (1, c1)
  else (0, raw)

/-- Whether blocks fit one archive block (R425). -/
def fitsArc (comp : Bool) (hub : Nat) (tm : Time) (l : List Blk) : Bool :=
  decide ((bodyOf comp hub tm l).2.length ≤ 4080) && decide ((contentOf hub tm l).length ≤ 65535)

/-- The slots an item covers (R227). -/
def slotsIn : Item → Nat
  | .run _ xs => xs.length
  | .gap _ _ n _ _ => n
  | _ => 0

/-- The slots a block covers. -/
def slotsOf (b : Blk) : Nat := (b.items.map slotsIn).sum

/-- The first part of a block with the given items. -/
def firstPart (b : Blk) (is : List Item) : Blk := { b with items := is }

/-- The remainder of a block: its header restated, n slots on (R426). -/
def restPart (b : Blk) (n : Nat) (is : List Item) : Blk :=
  { b with items := is, seq0 := b.seq0 + n, t0 := wrap 64 (b.t0 + n * b.d * basePeriod) }

/-- The most samples of a run, at most n, with which the content still fits. -/
def fitRun (ok : List Item → Bool) (done : List Item) (f : Nat) (xs : List (Word × BitVec 8)) : Nat → Nat
  | 0 => 0
  | n + 1 => if ok (done ++ [.run f (xs.take (n + 1))]) then n + 1 else fitRun ok done f xs n

/-- Cuts items where they no longer fit: at an item boundary, or between the samples of a run (R426). -/
def cutItems (ok : List Item → Bool) : List Item → List Item → List Item × List Item
  | done, [] => (done, [])
  | done, i :: r =>
    if ok (done ++ [i]) then cutItems ok (done ++ [i]) r
    else match i with
      | .run f xs =>
        let n := fitRun ok done f xs xs.length
        if n = 0 then (done, i :: r) else (done ++ [.run f (xs.take n)], .run (f + n) (xs.drop n) :: r)
      | _ => (done, i :: r)

/-- Fills one archive block from waiting blocks: what it takes, what is left, and whether it is full (R424, R426). -/
def fillArc (comp : Bool) (hub : Nat) (tm : Time) : List Blk → List Blk → List Blk × List Blk × Bool
  | done, [] => (done, [], false)
  | done, b :: r =>
    if fitsArc comp hub tm (done ++ [b]) then fillArc comp hub tm (done ++ [b]) r
    else if hasHead b then
      let c := cutItems (fun is => fitsArc comp hub tm (done ++ [firstPart b is])) [] b.items
      if c.1.isEmpty then (done, b :: r, true)
      else
        let n := (c.1.map slotsIn).sum
        (done ++ [firstPart b c.1], restPart b n c.2 :: r, true)
    else (done, b :: r, true)

/-- An archive block's 4096 bytes (R425): typ 0xA1 data or 0xA2 directory. -/
def arcBytes (typ method pass content hub index : Nat) (body : List Byte) : List Byte :=
  let h := le 1 typ ++ le 1 (method ||| (pass % 64) <<< 2) ++ le 2 content ++ le 2 body.length ++ le 2 hub ++ le 4 index
  let full := body ++ zeros (4080 - body.length)
  h ++ le 4 (crc32c (h ++ full)) ++ full

/-- A directory entry of 16 bytes (R428). -/
def dirEntry (a : ArcBlk) : List Byte :=
  match a.blks with
  | [] => zeros 16
  | b :: _ =>
    let n := match b.items with
      | .openBlk r :: _ => r.num
      | .trailer r :: _ => r.num
      | .tag _ num :: _ => num
      | _ => b.seq0
    le 2 a.ch ++ le 1 (b.ts ||| b2n (b.typ != 0x10) <<< 2) ++ le 1 b.island ++ le 8 b.t0 ++ le 4 n

end Sys2Proof.Machine
end

