-- ==== Sys2Proof/Machine/Optical.lean ====
section
/-! DEFINITION. The meanings of the optical source drivers (R315 to R332). -/

namespace Sys2Proof.Machine

/-- A staged item of source n. -/
def State.osStaged (s : State) (n k : Nat) : Nat := s.cfgN 0x07 n k

/-- Event OPTICAL: source (16 for the driver) and status (R401). -/
def State.evOptical (s : State) (n st : Nat) : State := s.raise 0x0F [(n, 5), (st, 8)]

/-- The status of source n: 0 OK, 1 OPEN, 2 NB_SHORT (R331). -/
def State.osCode (s : State) (n : Nat) : Nat := if (s.os n).short then 2 else b2n (s.os n).openC

/-- The time of the sinks' frames at instant t: NTIME, and RUNTIME while NTIME is not set (R317). DESIGN CHOICE, log entry 122. -/
def State.frameTime (s : State) (t : Nat) : Nat := if s.time.mapSet then ntimeAt s.time t else t

/-- The first multiple of 62,500 ns of the frames' time at or after instant a: the base-rate boundary of the sinks (R316, R317,
R323). -/
def State.opticalEdge (s : State) (a : Nat) : Nat :=
  let x := s.frameTime a % basePeriod
  if x = 0 then a else a + (basePeriod - x)

/-- KD and KR of a class, in ppm/K (R331). -/
def State.tcomp (s : State) (cls : Nat) : Int × Int :=
  let w := s.cfgN 0x07 (0x020 + cls) 0
  (signed 16 (fld w 0 16), signed 16 (fld w 16 16))

/-- The current i_top of source n under settings x in 0.1 uA, and whether a limit of R316 clamped it. -/
def State.osTop (s : State) (n : Nat) (x : OsSet) : Rat × Bool :=
  if s.osDark n || x.mode == 0 then (0, false)
  else
    let k := s.tcomp x.cls
    let text := signed 16 (s.cfgF 0x07 0x010 3 0 16)
    let c0 := 100000000 + k.1 * (s.opt.tdrv - 2500) + k.2 * (text - 2500)
    let c := clampI 50000000 200000000 c0
    let knee : Int := s.cfgF 0x07 0x010 1 0 8 * 100
    let slope : Int := s.cfgF 0x07 0x010 1 8 16
    let r := if s.opt.tdrv ≤ knee then 1000000 else max 0 (1000000 - slope * (s.opt.tdrv - knee))
    let top : Rat := (1000000 * x.scale * x.set * c.toNat * r.toNat : Nat) / (255 * 4095 * 100000000 * 1000000 : Nat)
    (min top 1000000, c != c0 || decide (1000000 < top))

/-- Settings x of source n from boundary e on, with the level that they and the temperatures give; I_EFF shows it rounded (R316,
R331). -/
def State.withLevel (s : State) (n e : Nat) (x : OsSet) : OsSet :=
  let l := s.osTop n x
  let level := (rneQ (l.1 * x.dim / 65536)).toNat
  { x with
    top := l.1
    level := level
    limit := l.2
    darkSince := if level = 0 ∧ (s.osLast n).level ≠ 0 then e else x.darkSince }

/-- Source n takes, at boundary e, the level its settings and the temperatures give (R316). -/
def State.relevel (s : State) (e n : Nat) : State := s.stepOs n e (s.withLevel n e (s.osLast n))

/-- Every source takes its level at the next boundary of the sinks. DEDUCED, log entry 23. -/
def State.relevelAll (s : State) : State :=
  let e := s.opticalEdge s.now
  forAll (List.range 16) (fun s n => s.relevel e n) s

/-- A 12-bit slot index in bit-reversed order (R317). -/
def slotOrder (k : Nat) : Nat := (List.range 12).foldl (fun a i => 2 * a + k / 2 ^ i % 2) 0

/-- The current that sink n delivers at instant t, in 0.1 uA: i_top times DIM / 65536, in the spread-pulse region i_top / 16 in DIM of
the 4096 slots of a frame, and in modes 2 and 3 that times (1 + w) / 2 from the phase accumulator (R316 to R319). -/
def State.sinkCurrent (s : State) (n t : Nat) : Rat :=
  let o := s.osAt n t
  let slot := s.frameTime t % basePeriod * 4096 / basePeriod
  let steady : Rat :=
    if 4096 ≤ o.dim then o.top * o.dim / 65536
    else if slotOrder slot < o.dim then o.top / 16 else 0
  if 2 ≤ o.mode then steady * (1 + unitWave (o.mode == 3) (phaseAt 0 o.phase0 o.freq t)) / 2 else steady

/-- The channels paired with source n (R320). -/
def State.osChans (s : State) (n : Nat) : List Nat :=
  (List.range 384).filter (fun ch => s.cfgF 0x11 ch 0x052 0 2 == 2 && s.cfgF 0x11 ch 0x052 2 4 == n)

/-- The status of source n changes by f: counted, with one event; an entry into a fault reports its source (R327, R328,
R332). -/
def State.osStatus (s : State) (n : Nat) (f : Os → Os) : State :=
  let old := s.osCode n
  let s := s.sensorEnds (s.osChans n) (fun s => s.modOs n f)
  let new := s.osCode n
  if new = old then s
  else
    let s := (s.bump (pid 0x07 n 0x013) 16 16).evOptical n new
    if new = 0 then s.pairEnds (76 + n) else s.report (76 + n) (BitVec.ofNat 32 new)

/-- Whether a channel runs on a lock-in gait (R320). -/
def State.lockIn (s : State) (ch : Nat) : Bool := s.cfgB 0x12 (s.cfgF 0x11 ch 0x050 0 3) 2 0

/-- The status of an application of source n: modes 2 and 3 need DIM of 4096 or more, and a source that a lock-in channel
references stays in them (R318, R320). -/
def State.osCheck (s : State) (n : Nat) : Nat :=
  let mode := fld (s.osStaged n 0) 0 3
  if 2 ≤ mode ∧ s.osStaged n 2 < 4096 then stParamRange
  else if mode < 2 ∧ (s.osChans n).any s.lockIn then stParamRange
  else stOk

/-- The status of an application of the sources in a mask. -/
def State.osMaskStatus (s : State) (mask : Nat) : Nat :=
  (((bitsOf 16 mask).map s.osCheck).find? (fun st => st != stOk)).getD stOk

/-- Opens SETTLE at boundary e on the channels paired with source n (R321). -/
def State.osSettle (s : State) (e n : Nat) : State := forAll (s.osChans n) (fun s ch => s.sourceShift ch e) s

/-- The staged set of source n becomes its active set at boundary e (R319, R321, R323). DEDUCED, log entry 23. -/
def State.osApplyOne (s : State) (e n : Nat) : State :=
  let o := s.osLast n
  let w := s.osStaged n 0
  let mode := fld w 0 3
  let set := s.osStaged n 1
  let dim := s.osStaged n 2
  let freq := s.osStaged n 3
  let rst : Bool := mode != o.mode || freq != o.freq || bit w 8
  let change : Bool := rst || set != o.set || dim != o.dim
  let x := { o with
    mode := mode
    cls := fld w 4 2
    set := set
    dim := dim
    freq := freq
    phase0 := if rst then e else o.phase0 }
  let s := s.stepOs n e (s.withLevel n e x)
  if change then s.osSettle e n else s

/-- A staged SCALE that differs from the active one is applied to all sixteen sinks at boundary e (R321, R323). -/
def State.osApplyScale (s : State) (e : Nat) : State :=
  let v := s.cfgN 0x07 0x010 0
  if v = (s.osLast 0).scale then s
  else forAll (List.range 16) (fun s n =>
    (s.stepOs n e (s.withLevel n e { s.osLast n with scale := v })).osSettle e n) s

/-- Applies the staged sets of the sources in a mask at the sinks' first boundary at or after instant a (R323). -/
def State.doOsApply (s : State) (a mask : Nat) : State :=
  let e := s.opticalEdge a
  (forAll (bitsOf 16 mask) (fun s n => s.osApplyOne e n) s).osApplyScale e

/-- OS_APPLY (R323, R349, R393): it completes on application. -/
def execOsApply (t : Nat) (h : Hdr) (mask : Nat) (s : State) : Host.Outcome State Fault Refusal :=
  packet 0x0700 h t s (fun s =>
    if !s.running then s.finish h 0x0700 stNotCommitted
    else if s.osMaskStatus mask ≠ stOk then s.finish h 0x0700 (s.osMaskStatus mask)
    else (s.doOsApply (s.now + 1) mask).finishLate h 0x0700 (.instant (s.opticalEdge (s.now + 1))))

/-- OS_CTL APPLY (R323). -/
def execOsCtlApply (t : Nat) (h : Hdr) (os : Nat) (s : State) : Host.Outcome State Fault Refusal :=
  itemCommand (pid 0x07 os 4) 1 h t s (fun s => s.osCheck os) (fun s => s.doOsApply (s.now + 1) (2 ^ os))

/-- The pairs of neighbours that source n belongs to: pair p is OSp and OSp+1 (R328). -/
def osPairs (n : Nat) : List Nat := (List.range 15).filter (fun p => p == n || p + 1 == n)

/-- The sources of the pairs in a list. -/
def pairSources (l : List Nat) : List Nat := (List.range 16).filter (fun n => (osPairs n).any l.contains)

/-- The pairs found shorted become those of a list: their sources are latched dark with status NB_SHORT, others are released, each
with its level from the next boundary of the sinks on (R328). -/
def State.setShorted (s : State) (l : List Nat) : State :=
  let s := { s with opt := { s.opt with shorted := l } }
  let e := s.opticalEdge s.now
  forAll (List.range 16) (fun s n =>
    let on := (pairSources l).contains n
    if (s.os n).short = on then s
    else (s.osStatus n (fun o => { o with short := on, openC := o.openC && !on })).relevel e n) s

/-- A test of a pair has been completed (R328, R329). -/
def State.pairTested (s : State) (p : Nat) : State :=
  let now := s.now
  { s with opt := { s.opt with pairAt := tset 0 s.opt.pairAt p now, testedAt := tset 0 s.opt.testedAt p now } }

/-- The latch of the shorted pairs of a source is cleared and they are tested again at once: latched again when they are still
shorted, else the active settings take effect (R328). The one result of the test stands for each such pair. DESIGN CHOICE,
log entry 122. -/
def State.doOsClear (s : State) (n : Nat) (shorted : Bool) : State :=
  let l := (osPairs n).filter s.opt.shorted.contains
  let was := s.opt.shorted
  let s := forAll l State.pairTested (s.setShorted (was.filter (fun p => !l.contains p)))
  if shorted then s.setShorted was else s

/-- The status of CLEAR: DENIED when there is no latch (R331). -/
def State.osClearStatus (s : State) (n : Nat) : Nat := if (s.os n).short then stOk else stDenied

/-- The instant of the last completed test of a source's pairs, of two the earlier one (R329). DESIGN CHOICE, log entry 122. -/
def State.osTested (s : State) (n : Nat) : Nat :=
  (osPairs n).foldl (fun a p => min a (tget 0 s.opt.testedAt p)) s.now

/-- OS_CTL CLEAR (R328). -/
def execOsCtlClear (t : Nat) (h : Hdr) (os : Nat) (shorted : Bool) (s : State) : Host.Outcome State Fault Refusal :=
  itemCommand (pid 0x07 os 4) 2 h t s (fun s => s.osClearStatus os) (fun s => s.doOsClear os shorted)

/-- Derating and the driver's temperature (R326). -/
def State.takeTdrv (s : State) (tdrv : Int) : State :=
  let knee : Int := s.cfgF 0x07 0x010 1 0 8 * 100
  let was := s.opt.derated
  let now : Bool := if was then decide (knee - 200 < tdrv) else decide (knee < tdrv)
  let s := { s with opt := { s.opt with tdrv := tdrv, derated := now } }
  if now && !was then s.evOptical 16 8 else s

/-- Whether 10 ms have passed since the latest update (R316). -/
def State.updateDue (s : State) : Bool := s.opt.updAt.all (fun a => a + 10000000 ≤ s.now)

/-- An update of the driver: its temperature and every level (R316, R326). -/
def State.update (s : State) (tdrv : Int) : State :=
  let now := s.now
  (({ s with opt := { s.opt with updAt := some now } }).takeTdrv tdrv).relevelAll

/-- OPTICAL_UPDATE (R316, R326): each 10 ms. DEDUCED, log entry 23. -/
def execOpticalUpdate (t : Nat) (tdrv : Int) (s : State) : Host.Outcome State Fault Refusal :=
  at_ t s (fun s => if s.pd 12 && s.updateDue then s.update tdrv else s)

/-- Whether a current has been demanded of source n for 1 ms (R327). -/
def State.osLit (s : State) (n : Nat) : Bool :=
  (s.os n).level != 0 && (s.osAt n (s.now - 1000000)).level != 0

/-- OS_OPEN_DETECT (R327): the source has been out of regulation for 1 ms. The regulation is the driver's own measurement. DESIGN
CHOICE, log entry 122. -/
def execOsOpenDetect (t os : Nat) (s : State) : Host.Outcome State Fault Refusal :=
  onUnit .optical os t s (fun s =>
    let now := s.now
    if s.pd 12 && s.osLit os && !(s.os os).short && !(s.os os).openC then
      s.osStatus os (fun o => { o with openC := true, openAt := now }) else s)

/-- OS_OPEN_CLEAR (R327): the source has been in regulation for 100 ms. -/
def execOsOpenClear (t os : Nat) (s : State) : Host.Outcome State Fault Refusal :=
  onUnit .optical os t s (fun s =>
    if (s.os os).openC && decide ((s.os os).openAt + 100000000 ≤ s.now) then
      s.osStatus os (fun o => { o with openC := false }) else s)

/-- Whether a source had drawn zero current for 1 ms at instant t (R328). -/
def State.osIdle (s : State) (n t : Nat) : Bool := (s.osAt n t).level == 0 && decide ((s.osAt n t).darkSince + 1000000 ≤ t)

/-- Whether a pair may be tested in the 100 us up to now: at start-up always, in service every NS_PERIOD when NS_EN is set and
both sources had been dark for 1 ms (R328). -/
def State.pairDue (s : State) (pair : Nat) : Bool :=
  let from_ := s.now - 100000
  !s.running || (s.cfgB 0x07 0x010 2 16
    && decide (tget 0 s.opt.pairAt pair + s.cfgF 0x07 0x010 2 0 12 * 1000000000 ≤ s.now)
    && s.osIdle pair from_ && s.osIdle (pair + 1) from_)

/-- NEIGHBOUR_SHORT_TEST (R328, R329) of the pair OSp and OSp+1, which ends now, 100 us after its start. One in which a source is
given current is abandoned without result, and repeated after NS_PERIOD. -/
def execNeighbourShortTest (t pair : Nat) (shorted : Bool) (s : State) : Host.Outcome State Fault Refusal :=
  onUnit .opticalPair pair t s (fun s =>
    let now := s.now
    if !s.pd 12 || !s.pairDue pair then s
    else if (s.os pair).level ≠ 0 ∨ (s.os (pair + 1)).level ≠ 0 then
      { s with opt := { s.opt with pairAt := tset 0 s.opt.pairAt pair now } }
    else
      let s := s.pairTested pair
      if shorted && !s.opt.shorted.contains pair then s.setShorted (s.opt.shorted ++ [pair]) else s)

/-- The effect of a write of EXT_TEMP (R326). -/
def State.doExtTemp (s : State) (v : Nat) : State :=
  let now := s.now
  let s := s.setCfg (pid 0x07 0x010 3) v
  { s with opt := { s.opt with extAt := now, extStale := false } }

/-- EXT_TEMP (R326). -/
def execExtTemp (t : Nat) (h : Hdr) (val : Word) (s : State) : Host.Outcome State Fault Refusal :=
  itemCommand (pid 0x07 0x010 3) val.toNat h t s noCheck (fun s => s.doExtTemp val.toNat)

/-- EXT_TEMP_STALE (R326). -/
def execExtTempStale (t : Nat) (s : State) : Host.Outcome State Fault Refusal :=
  at_ t s (fun s =>
    if s.opt.extStale = false ∧ s.opt.extAt + 60000000000 < s.now then
      ({ s with opt := { s.opt with extStale := true } }).evOptical 16 64
    else s)

end Sys2Proof.Machine
end

