-- ==== Sys2Proof/Machine/Storage.lean ====
section
/-! DEFINITION. The meanings of the queue commands, of spilling, the storage ports, the archive and its jobs (R414 to
R434). -/

namespace Sys2Proof.Machine

/-! The queue block. -/

/-- QCTL of the queue block. -/
def qctlId : Nat := pid 0x08 0 3

/-- QCTL_CLEAR_UNDERRUN (R432). -/
def execQctlClearUnderrun (t : Nat) (h : Hdr) (s : State) : Host.Outcome State Fault Refusal :=
  itemCommand qctlId 1 h t s noCheck (fun s => { s with evq := { s.evq with underrun := false } })

/-- The notices of a watermark cleared. -/
def quietWm (w : Watermark) : Watermark := { w with up := false, down := false }

/-- QCTL_CLEAR_NOTICES (R408). -/
def execQctlClearNotices (t : Nat) (h : Hdr) (s : State) : Host.Outcome State Fault Refusal :=
  itemCommand qctlId 2 h t s noCheck (fun s =>
    { s with evq := { s.evq with wm0 := quietWm s.evq.wm0, wm1 := quietWm s.evq.wm1 } })

/-- QCTL_CLEAR_LOST (R432). -/
def execQctlClearLost (t : Nat) (h : Hdr) (s : State) : Host.Outcome State Fault Refusal :=
  itemCommand qctlId 4 h t s noCheck (fun s => { s with evq := { s.evq with lost := false } })

/-- QCTL_CLEAR_REPLY_UNDERRUN (R432). -/
def execQctlClearReplyUnderrun (t : Nat) (h : Hdr) (s : State) : Host.Outcome State Fault Refusal :=
  itemCommand qctlId 8 h t s noCheck (fun s => { s with cmds := { s.cmds with replyUnderrun := false } })

/-- Takes up to n entries for EVENT_READ, which never makes an underrun read: the state, their bytes, their number, and
how many events were found bad (R406, R430). -/
def State.takeEntries : Nat → State → List Ecc → State × List Byte × Nat × Nat
  | 0, s, _ => (s, [], 0, 0)
  | k + 1, s, e =>
    let a := s.popEntry e
    match a.2.1 with
    | none => (a.1, [], 0, a.2.2.1)
    | some x =>
      let r := State.takeEntries k a.1 a.2.2.2
      (r.1, be 8 x.toNat ++ r.2.1, r.2.2.1 + 1, a.2.2.1 + r.2.2.2)

/-- EVENT_READ (R430). DEDUCED, log entries 76, 89. -/
def execEventRead (t : Nat) (h : Hdr) (count : Nat) (ecc : List Ecc) (s : State) : Host.Outcome State Fault Refusal :=
  packet 0x0800 h t s (fun s =>
    if count = 0 ∨ 509 < count then s.finish h 0x0800 stParamRange
    else
      let r := State.takeEntries count s ecc
      let s := forAll (List.range r.2.2.2) (fun s _ => s.report 96 0) r.1.updWm
      s.finish h 0x0800 stOk r.2.2.1 r.2.1)

/-! Storage ports (R418 to R423). -/

/-- Whether storage port n can be written: ready, or being resilvered (R418, R422). -/
def State.stReady (s : State) (n : Nat) : Bool := s.pd 14 && (s.store n).st == 2

/-- Whether any storage port is ready. -/
def State.anyReady (s : State) : Bool := s.stReady 0 || s.stReady 1

/-- The hub ID that labels hold: the present one, or the one last stored in the boot flash (R419, R480). -/
def State.labelId (s : State) : Option Nat := s.net.id.orElse (fun _ => s.boot.hubId)

/-- The sectors of a GiB. -/
def gibSectors : Nat := 2097152

/-- The sectors before the archive area (R419). -/
def State.arcStart (s : State) : Nat := 10240 + (s.arc.spillGib + s.arc.exportGib) * gibSectors

/-- The archive positions on a port (R419, R428). DEDUCED, log entry 40. -/
def State.positionsOn (s : State) (n : Nat) : Nat := ((s.store n).cap - s.arcStart) / 8

/-- Whether a port takes part in the layout: ready or resilvering. -/
def State.inLayout (s : State) (n : Nat) : Bool := (s.store n).st == 2 || (s.store n).st == 3

/-- The positions of the archive ring (R420). -/
def State.ringSize (s : State) : Nat :=
  let ns := ([0, 1].filter s.inLayout).map s.positionsOn
  if s.arc.mode then ns.sum
  else match ns with
    | [] => 0
    | x :: r => r.foldl min x

/-- The port whose spill and export areas are in use (R420). -/
def State.areaPort (s : State) : Nat := if s.stReady 0 then 0 else 1

/-- Event STORAGE (R401). DEDUCED, log entry 42. -/
def State.evStorage (s : State) (n : Nat) : State := s.raise 0x31 [(n, 1), ((s.store n).st, 4)]

/-- The archive is mounted while a storage port is ready. -/
def State.mount (s : State) : State := { s with arc := { s.arc with mounted := s.anyReady } }

/-- Everything the archive holds is gone with its device's content. -/
def State.arcEmpty (s : State) : State :=
  { s with arc := { s.arc with written := [], head := 0, pass := 0, wrapped := false, exported := [] } }

/-- Whether a block is still to be read from a spill area that port n held alone (R416). -/
def lostSpill (n : Nat) (b : Blk) : Bool := b.spilled && !b.staged && b.spillPort == n

/-- The sectors that the resilvering of port n has copied by now: those of RESILVER_RATE since its start (R422).
DEDUCED, log entry 41. -/
def State.resilverPoint (s : State) (n : Nat) : Nat :=
  let d := s.store n
  if d.st = 3 then min (s.store (1 - n)).cap ((s.now - d.resFrom) * s.cfgF 0x04 0 3 0 8 / 512000) else d.resilver

/-- The survivor of a mirror fails while port n is resilvered: port n goes on with what was copied before the resilver point
and what was written since (R422). -/
def State.keepCopied (s : State) (n : Nat) : State :=
  let p := s.resilverPoint n
  let o := s.store (1 - n)
  let start := s.arcStart
  let spill := 10240 + s.arc.spillGib * gibSectors
  let s := s.modStore n (fun d => { d with
    st := 2
    cap := o.cap
    resilver := p
    cfg0 := d.cfg0.orElse (fun _ => if 6144 ≤ p then o.cfg0 else none)
    cfg1 := d.cfg1.orElse (fun _ => if 10240 ≤ p then o.cfg1 else none) })
  { s with
    hold := { s.hold with blks := s.hold.blks.map (fun b =>
      if b.spilled && b.spillPort == 1 - n && spill ≤ p then { b with spillPort := n } else b) }
    arc := { s.arc with
      exported := if start ≤ p then s.arc.exported else []
      written := (s.arc.written.filter (fun (a : ArcBlk) => !a.alone || decide (start + 8 * (a.index + 1) ≤ p))).map
        (fun a => { a with alone := false }) } }

/-- Whether an item names the record of its block (R227). -/
def isTag : Item → Bool
  | .tag .. => true
  | _ => false

/-- A block whose slots are covered by one gap entry of a cause, in the channel's stream or in the record; nothing when it covers no
slot (R416, R417). DEDUCED, log entry 101. -/
def gapBlk (cause : Nat) (b : Blk) : List Blk :=
  if slotsOf b = 0 then []
  else
    let g := { b with
      items := b.items.filter isTag ++ [Item.gap cause b.seq0 (slotsOf b) b.t0 false], spilled := false, staged := false }
    [{ g with size := blkSize g }]

/-- Replaces the blocks that p names by gap entries of a cause. DEDUCED, log entry 101. -/
def gapOut (cause : Nat) (p : Blk → Bool) (l : List Blk) : List Blk := l.flatMap (fun b => if p b then gapBlk cause b else [b])

/-- The slots of a lost block of a record that is still open count as missing there (R230). -/
def State.recLoses (s : State) (b : Blk) : State :=
  match b.slot with
  | none => s
  | some k => s.modRec k (fun r =>
      if b.items.contains (.tag r.epoch r.num) then modMember b.ch (fun m => { m with gapSlots := m.gapSlots + slotsOf b }) r else r)

/-- Counts the gap entries that replace blocks. -/
def State.countGaps (s : State) (l : List Blk) : State :=
  forAll (l.filter (fun b => slotsOf b != 0)) (fun s b => (s.countGap b.ch).recLoses b) s

/-- A storage port is lost: unsent spilled blocks that it alone held become NO_ROOM gaps, and in concatenated mode its
archive blocks are gone (R416, R421). DEDUCED, log entry 101. -/
def State.storeLost (s : State) (n : Nat) : State :=
  let lost := s.hold.blks.filter (lostSpill n)
  let blks := (gapOut 4 (lostSpill n) s.hold.blks).map (fun b =>
    if b.spilled && b.spillPort == 2 then { b with spillPort := 1 - n } else b)
  let n0 := s.positionsOn 0
  let here := fun (a : ArcBlk) => if n = 0 then decide (a.index < n0) else decide (n0 ≤ a.index)
  let s := { s with hold := { s.hold with blks := blks } }
  let s := if s.arc.mode then { s with arc := { s.arc with written := s.arc.written.filter (fun a => !here a) } } else s
  (s.countGaps lost).mount.updWm

/-- Whether the archive has written a block whole: nothing of it waits, and every archive block with a part of it is
durable (R413). -/
def State.arcHas (s : State) (order : Nat) : Bool :=
  s.arc.openBlks.all (fun (x : Nat × List Blk) => x.2.all (fun b => b.order != order))
    && s.arc.written.all (fun a => a.durable || a.blks.all (fun b => b.order != order))

/-- Blocks the archive has written whole no longer wait for it, and those nothing waits for leave (R413). -/
def State.arcFree (s : State) : State :=
  { s with hold := { s.hold with
      blks := (s.hold.blks.map (fun (b : Blk) => if b.arch && s.arcHas b.order then { b with arch := false } else b)).filter
        (fun (b : Blk) => b.arch || b.routes != 0) } }.updWm

/-- The work that answers a job request (R431). -/
def State.jobEnd (s : State) (st status detail : Nat) (data : List Byte) : State :=
  let s := { s with arc := { s.arc with jobSt := st, jobStatus := status % 256, job := none } }
  s.finalReply .job status detail data

/-- A job that needed a storage port which is gone ends with RETRY and detail 2; in mirrored mode the survivor is enough (R420,
R421, R431). -/
def State.jobLost (s : State) : State :=
  if s.arc.job.isSome && (s.arc.mode || !s.anyReady) then s.jobEnd 3 stRetry 2 [] else s

/-- Port n, which was in use, is gone: a port that was being resilvered from it keeps what it has, what n alone held is lost,
and so is a job that needed it (R416, R421, R422, R431). -/
def State.storeGone (s : State) (n : Nat) : State :=
  ((if (s.store (1 - n)).st = 3 then s.keepCopied (1 - n) else s).storeLost n).jobLost

/-- Port n leaves service for state st; the survivor carries on (R421, R422). DEDUCED, log entry 42. -/
def State.storeStops (s : State) (n st : Nat) : State :=
  let was := s.inLayout n
  let s := s.modStore n (fun d => { d with st := st, attach := false })
  if was then s.storeGone n else s.mount

/-- STORAGE_PORT_FAIL (R421, R434): three commands without an answer. -/
def execStoragePortFail (t st : Nat) (s : State) : Host.Outcome State Fault Refusal :=
  onUnit .storage st t s (fun s =>
    if s.pd 14 && decide (1 ≤ (s.store st).st) && decide ((s.store st).st ≤ 3) then
      ((s.bumpBy (pid 0x04 (1 + st) 1) 16 16 3).storeStops st 5).report (92 + st) 1
    else s)

/-- The effect of DETACH (R421). -/
def State.doDetach (s : State) (n : Nat) : State :=
  if decide (1 ≤ (s.store n).st) && decide ((s.store n).st ≤ 3) then
    let s := { s with arc := { s.arc with written := s.arc.written.map (fun (a : ArcBlk) => { a with durable := true }) } }
    s.arcFree.storeStops n 4
  else s

/-- ST_CTL_DETACH (R421). -/
def execStCtlDetach (t : Nat) (h : Hdr) (st : Nat) (s : State) : Host.Outcome State Fault Refusal :=
  itemCommand (pid 0x04 (1 + st) 0) 1 h t s noCheck (fun s => s.doDetach st)

/-- Whether both ports are detached, so that ATTACH labels them with the configured mode and sizes (R433). -/
def State.bothDetached (s : State) : Bool :=
  [0, 1].all (fun n => (s.store n).st == 4 || (s.store n).st == 0)

/-- MODE and the area sizes as configured come into use; a change of them empties the layout (R433). -/
def State.takeLayout (s : State) : State :=
  let mode := s.cfgB 0x04 0 0 1
  let sp := s.cfgF 0x04 0 0 8 8
  let ex := s.cfgF 0x04 0 0 16 12
  if mode = s.arc.mode ∧ sp = s.arc.spillGib ∧ ex = s.arc.exportGib then s
  else { s with arc := { s.arc with mode := mode, spillGib := sp, exportGib := ex } }.arcEmpty

/-- The effect of ATTACH: the port takes up its device again, and what it finds is labelled (R419, R422).
DEDUCED, log entry 41. -/
def State.doAttach (s : State) (n : Nat) : State :=
  if (s.store n).st = 4 ∨ (s.store n).st = 5 ∨ (s.store n).st = 0 then
    let s := if s.bothDetached then s.takeLayout else s
    s.modStore n (fun d => { d with st := 1, attach := true })
  else s

/-- ST_CTL_ATTACH (R419). -/
def execStCtlAttach (t : Nat) (h : Hdr) (st : Nat) (s : State) : Host.Outcome State Fault Refusal :=
  itemCommand (pid 0x04 (1 + st) 0) 2 h t s noCheck (fun s => s.doAttach st)

/-- The sectors in use of a device: up to 2 TiB (R36, R418). -/
def sectorsUsed (n : Nat) : Nat := min n (2 ^ 32)

/-- A device is labelled and used: beside a ready port in mirrored mode it is resilvered, or refused when it is too small;
else it starts empty, and so does the archive when no other port holds it (R419, R422). DEDUCED, log entry 41. -/
def State.labelDevice (s : State) (n cap : Nat) : State :=
  let id := s.labelId
  let now := s.now
  let put := fun (s : State) (st : Nat) => s.modStore n (fun d => { d with
    st := st, cap := cap, label := id, attach := false, resilver := 0, resFrom := now, cfg0 := none, cfg1 := none })
  if !s.arc.mode && s.stReady (1 - n) then
    if cap < (s.store (1 - n)).cap then (s.modStore n (fun d => { d with st := 5, attach := false })).evStorage n
    else put { s with
      hold := { s.hold with blks := s.hold.blks.map (fun b => { b with spillPort := 1 - n }) }
      arc := { s.arc with written := s.arc.written.map (fun (a : ArcBlk) => { a with alone := true }) } } 3
  else
    let s := if s.stReady (1 - n) then s else s.arcEmpty
    (put s 2).mount

/-- RESILVER_COMPLETE (R422): once the resilver point has reached the end, the replacement holds the survivor's areas and configuration copies. -/
def execResilverComplete (t st : Nat) (s : State) : Host.Outcome State Fault Refusal :=
  onUnit .storage st t s (fun s =>
    if (s.store st).st = 3 ∧ (s.store (1 - st)).cap ≤ s.resilverPoint st then
      let o := s.store (1 - st)
      let s := { s with
        hold := { s.hold with blks := s.hold.blks.map (fun (b : Blk) => { b with spillPort := 2 }) }
        arc := { s.arc with written := s.arc.written.map (fun (a : ArcBlk) => { a with alone := false }) } }
      (s.modStore st (fun d => { d with st := 2, cap := o.cap, resilver := o.cap, cfg0 := o.cfg0, cfg1 := o.cfg1 })).mount
    else s)

/-- LIFE_CHECK (R423): at mount and once per hour; event 0x31 when an estimate reaches WEAR_WARN, and when PRE_EOL_INFO reaches 2 or 3. -/
def execLifeCheck (t st lifeA lifeB eol : Nat) (s : State) : Host.Outcome State Fault Refusal :=
  onUnit .storage st t s (fun s =>
    let now := s.now
    if !s.inLayout st || !s.elapsed (s.store st).lifeAt 3600000000000 then s
    else
      let w := s.cfgF 0x04 0 4 0 4
      let o := s.store st
      let s := s.modStore st (fun d => { d with lifeA := lifeA % 16, lifeB := lifeB % 16, eol := eol % 4, lifeAt := some now })
      let reached := fun (old new : Nat) => decide (old < w) && decide (w ≤ new)
      let s := if reached o.lifeA lifeA || reached o.lifeB lifeB then s.evStorage st else s
      if o.eol < eol ∧ 2 ≤ eol then s.evStorage st else s)

/-! Spill (R414 to R416). -/

/-- Packs content into archive blocks; the fuel is the number of blocks. -/
def packArc (comp : Bool) (hub : Nat) (tm : Time) : Nat → List Blk → List (List Blk)
  | 0, _ => []
  | _ + 1, [] => []
  | n + 1, l =>
    let f := fillArc comp hub tm [] l
    f.1 :: packArc comp hub tm n f.2.1

/-- Whether a block is held in the spill area. -/
def Blk.inSpill (b : Blk) : Bool := b.spilled && !b.staged

/-- The bytes that blocks take in the spill area, coded as archive blocks, each of one channel or all of open and trailer blocks (R414,
R425, R426). -/
def State.spillBytes (s : State) (l : List Blk) : Nat :=
  4096 * (((l.map Blk.ch).dedup).map (fun ch =>
    let m := l.filter (fun b => b.ch == ch)
    (packArc true s.hubId s.time (2 * m.length) m).length)).sum

/-- Whether a block waits for a port alone and can be spilled (R414). DEDUCED, log entry 39. -/
def State.spillable (s : State) (b : Blk) : Bool :=
  !b.spilled && !b.arch && b.routes != 0 && !s.hold.sending.any (fun x => x.2.1 == b.order)

/-- The port that takes spilled blocks: that of the areas in use, or 2 for both of a mirror (R420). -/
def State.spillTo (s : State) : Nat := if !s.arc.mode && s.inLayout 0 && s.inLayout 1 then 2 else s.areaPort

/-- Spills the oldest blocks until the fill reaches SPILL_OFF or the spill area is full; the fuel is the number of blocks
(R414, R416). DEDUCED, log entry 39. -/
def State.spillMore : Nat → State → State
  | 0, s => s
  | n + 1, s =>
    if s.fill ≤ s.cfgF 0x08 0 7 12 12 * 4096 then s
    else match s.hold.blks.find? s.spillable with
      | none => s
      | some b =>
        if s.arc.spillGib * 2 ^ 30 < s.spillBytes (s.hold.blks.filter Blk.inSpill ++ [b]) then s
        else
          let p := s.spillTo
          State.spillMore n { s with hold := { s.hold with
            blks := s.hold.blks.map (fun x => if x.order = b.order then { x with spilled := true, spillPort := p } else x) } }

/-- SPILL (R414). DESIGN CHOICE, log entry 13. -/
def execSpill (t : Nat) (s : State) : Host.Outcome State Fault Refusal :=
  at_ t s (fun s =>
    if s.pd 2 && s.anyReady && decide (s.cfgF 0x08 0 7 0 12 * 4096 ≤ s.fill) then
      (State.spillMore s.hold.blks.length s).updWm
    else s)

/-- Whether a spilled block's turn has come: an open port waits for it and no older block of its channel is still in the
spill area (R415). -/
def State.readable (s : State) (b : Blk) : Bool :=
  b.spilled && !b.staged && b.left.any (fun r => ((s.routePort r).map s.carries).getD false)
    && (if s.arc.mode then s.stReady b.spillPort else s.anyReady)

/-- The bytes of the staging region (R411). -/
def stagingRegion : Nat := 2 ^ 20

/-- SPILL_READBACK (R411, R415): the oldest spilled block a port can take is read back and decoded, while the staging region has room
for it. -/
def execSpillReadback (t : Nat) (s : State) : Host.Outcome State Fault Refusal :=
  at_ t s (fun s =>
    match s.hold.blks.find? s.readable with
    | none => s
    | some b =>
      if stagingRegion < ((s.hold.blks.filter Blk.staged).map Blk.size).sum + b.size then s
      else { s with hold := { s.hold with
        blks := s.hold.blks.map (fun x => if x.order = b.order then { x with staged := true } else x) } })

/-! The archive (R424 to R429). -/

/-- Whether a channel's blocks are coded; open and trailer blocks have no samples to code (R433). -/
def State.arcComp (s : State) (ch : Nat) : Bool := ch < 384 && maskBit (fun k => s.cfgN 0x04 0 (0x020 + k)) ch

/-- Writes an archive block at the head of the ring (R428). DEDUCED, log entry 40. -/
def State.arcPut (s : State) (dir : Bool) (ch method : Nat) (blks : List Blk) (bytes : List Byte) : State :=
  let i := s.arc.head
  let a : ArcBlk := { index := i, pass := s.arc.pass, dir, ch, blks, method, bytes, durable := false, plain := !dir && !s.arcComp ch }
  let s := { s with arc := { s.arc with
    written := s.arc.written.filter (fun x => x.index != i) ++ [a]
    head := i + 1 } }
  if s.ringSize ≤ i + 1 then
    let p := (s.arc.pass + 1) % 64
    let s := { s with arc := { s.arc with head := 0, pass := p, wrapped := true } }
    (s.bump (pid 0x04 0 0x030) 16 16).raise 0x32 [(p, 6)]
  else s

/-- The directory block that index i ≡ 255 modulo 256 holds (R428). -/
def State.arcDir (s : State) : State :=
  let i := s.arc.head
  if i % 256 = 255 then
    let body := ((List.range 255).map (fun k =>
      ((s.arc.written.find? (fun a => a.index == i - 255 + k)).map dirEntry).getD (zeros 16))).flatten
    s.arcPut true 0x1FF 0 [] (arcBytes 0xA2 0 s.arc.pass body.length s.hubId i body)
  else s

/-- A hold-store read for the archive found block b bad: it is discarded for every destination that has not taken it whole,
which get a DELIVERY gap in its place. For an open or trailer block the channel field of event 0x30 holds 0x1FF, as the detail
word of source 95 does (R401, R417, R496). DESIGN CHOICE, log entry 118. -/
def State.discardBlk (s : State) (b : Blk) : State :=
  let same := fun (x : Blk) => x.order == b.order
  let g := gapOut 6 same (s.hold.blks.filter same)
  let s := s.countGaps (s.hold.blks.filter same)
  let busy := s.hold.sending.filter (fun (x : Nat × Nat × Nat) => x.2.1 == b.order)
  let s := forAll busy (fun s x => s.spoilLine x.1) s
  let s := { s with
    hold := { s.hold with
      blks := gapOut 6 same s.hold.blks
      sending := s.hold.sending.filter (fun (x : Nat × Nat × Nat) => x.2.1 != b.order) }
    arc := { s.arc with openBlks := s.arc.openBlks.map (fun (x : Nat × List Blk) =>
      (x.1, x.2.flatMap (fun y => if same y then g else [y]))) } }
  let s := s.report 95 (BitVec.ofNat 32 b.ch)
  ((s.bump (pid 0x08 0 0x00A) 0 16).raise 0x30 [(b.ch, 9), (1, 16)]).updWm

/-- Whether the open archive block of a channel is due: full, or ARC_FLUSH after its first item (R424). -/
def State.arcDue (s : State) (ch : Nat) (full : Bool) : Bool :=
  full || ((tfind s.arc.openSince ch).map (fun t => decide (t + s.cfgF 0x04 0 1 0 16 * 1000000000 ≤ s.now))).getD false

/-- The open archive block of a channel is written when it is due (R424 to R428). DEDUCED, log entry 40. -/
def State.arcWrite (s : State) (ch : Nat) : State :=
  let wait := tget [] s.arc.openBlks ch
  let comp := s.arcComp ch
  let f := fillArc comp s.hubId s.time [] wait
  if f.1.isEmpty || !s.arcDue ch f.2.2 then s
  else
    let body := bodyOf comp s.hubId s.time f.1
    let content := (contentOf s.hubId s.time f.1).length
    let bytes := arcBytes 0xA1 body.1 s.arc.pass content s.hubId s.arc.head body.2
    let now := s.now
    let s := (s.arcPut false ch body.1 f.1 bytes).arcDir
    { s with arc := { s.arc with
        openBlks := tset [] s.arc.openBlks ch f.2.1
        openSince := if f.2.1.isEmpty then tdel s.arc.openSince ch else tput s.arc.openSince ch now } }

/-- Whether the open archive block of a channel holds content and is due (R424). -/
def State.arcReady (s : State) (ch : Nat) : Bool :=
  let f := fillArc (s.arcComp ch) s.hubId s.time [] (tget [] s.arc.openBlks ch)
  !f.1.isEmpty && s.arcDue ch f.2.2

/-- The archive reads blocks from the hold store, the outcomes of their words following one another; a bad one is discarded (R417).
DESIGN CHOICE, log entry 13. -/
def State.arcReads : List Blk → State → List Ecc → State
  | [], s, _ => s
  | b :: r, s, ecc =>
    let k := (b.size + 7) / 8
    let s := s.holdRead (ecc.take k)
    State.arcReads r (if (ecc.take k).contains .bad then s.discardBlk b else s) (ecc.drop k)

/-- ARCHIVE_BLOCK_WRITE (R417, R424). ch is a channel, or 0x1FF for open and trailer blocks.
The blocks that are left are written when they are still due. -/
def execArchiveBlockWrite (t ch : Nat) (ecc : List Ecc) (s : State) : Host.Outcome State Fault Refusal :=
  at_ t s (fun s =>
    if !s.pd 2 || !s.arc.mounted || !s.anyReady || s.ringSize == 0 || !s.arcReady ch then s
    else (State.arcReads (tget [] s.arc.openBlks ch) s ecc).arcWrite ch)

/-- STORAGE_WRITE_COMPLETE (R420). -/
def execStorageWriteComplete (t index : Nat) (s : State) : Host.Outcome State Fault Refusal :=
  at_ t s (fun s =>
    if s.arc.mounted then
      { s with arc := { s.arc with
        written := s.arc.written.map (fun (a : ArcBlk) => if a.index = index then { a with durable := true } else a) } }.arcFree
    else s)

/-! Jobs (R430, R431). -/

/-- Whether a selection names a block: a stream block by its channel, others by their profile, within the instants. -/
def selBlk (sel : ArcSel) (b : Blk) : Bool :=
  (if b.typ == 0x10 then sel.chans.getLsbD b.ch else sel.profs.getLsbD b.profile)
    && decide (sel.first ≤ b.t0) && decide (b.t0 ≤ sel.last)

/-- Whether a selection names an archive block; directory blocks are excluded (R430). -/
def selArc (sel : ArcSel) (a : ArcBlk) : Bool := !a.dir && a.durable && a.blks.any (selBlk sel)

/-- The archive blocks a job finds, in the order of the ring, those with a bad CRC skipped (R429). -/
def State.jobBlocks (s : State) (sel : ArcSel) (bad : List Nat) : List ArcBlk :=
  s.arc.written.filter (fun a => selArc sel a && !bad.contains a.index)

/-- Recodes the raw archive blocks of one channel into the first of their positions: the blocks, and the positions left
over (R430). -/
def State.recode (s : State) (l : List ArcBlk) : List ArcBlk :=
  let parts := packArc true s.hubId s.time l.length (l.flatMap ArcBlk.blks)
  (l.zip parts).map (fun (a, p) =>
    let body := bodyOf true s.hubId s.time p
    { a with
      blks := p
      method := body.1
      plain := false
      bytes := arcBytes 0xA1 body.1 a.pass (contentOf s.hubId s.time p).length s.hubId a.index body.2 })

/-- The blocks that ARC_COMPRESS recodes, by channel: those stored raw while their channel was clear in ARC_COMP (R430). -/
def State.rawOf (s : State) (sel : ArcSel) (bad : List Nat) : List (List ArcBlk) :=
  let l := (s.jobBlocks sel bad).filter (fun a => a.plain && a.method == 0 && a.ch < 384)
  ((l.map ArcBlk.ch).dedup).map (fun ch => l.filter (fun a => a.ch == ch))

/-- The end of an export: its bytes become the export, or there is no room for them (R430, R431). -/
def State.exportDone (s : State) (sel : ArcSel) (bad : List Nat) : State :=
  let b := ((s.jobBlocks sel bad).map ArcBlk.bytes).flatten
  if s.arc.exportGib * 2 ^ 30 < b.length then s.jobEnd 3 stNoSpace 0 []
  else { s with arc := { s.arc with exported := b } }.jobEnd 2 stOk 0 (be 8 b.length)

/-- The end of a compression: recoded blocks replace their originals, and the positions saved are free (R430, R431). -/
def State.compressDone (s : State) (sel : ArcSel) (bad : List Nat) : State :=
  let groups := (s.rawOf sel bad).filter (fun l =>
    (packArc true s.hubId s.time l.length (l.flatMap ArcBlk.blks)).length < l.length)
  let new := groups.flatMap s.recode
  let old := (groups.flatten).map ArcBlk.index
  let freed := old.length - new.length
  let keep := s.arc.written.filter (fun a => !old.contains a.index)
  { s with arc := { s.arc with written := keep ++ new } }.jobEnd 2 stOk 0 (be 4 freed)

/-- JOB_COMPLETE (R14, R431). -/
def execJobComplete (t : Nat) (o : JobOut) (s : State) : Host.Outcome State Fault Refusal :=
  at_ t s (fun s =>
    match s.arc.job with
    | none => s
    | some (exp, sel) =>
      match o with
      | .complete bad =>
        let n := (s.arc.written.filter (fun a => selArc sel a && bad.contains a.index)).length
        let s := { s with arc := { s.arc with jobSkipped := min 0xFFFF n } }
        let s := if 0xFFFF ≤ n then s.raise 0x10 (satFields (pid 0x04 0 0x032) 16) else s
        if exp then s.exportDone sel bad else s.compressDone sel bad
      | .noSpace => s.jobEnd 3 stNoSpace 0 []
      | .portLost => s.jobEnd 3 stRetry 2 [])

/-- Takes a job: one runs at a time, and it needs a mounted archive (R431). DEDUCED, log entry 43. -/
def State.takeJob (s : State) (h : Hdr) (op : Nat) (exp : Bool) (sel : ArcSel) : State :=
  if s.arc.job.isSome then s.finish h op stRetry
  else if !s.anyReady then s.finish h op stRetry 2
  else { s with arc := { s.arc with job := some (exp, sel), jobSt := 1, jobStatus := 0, jobSkipped := 0 } }.accept h op .job

/-- ARC_EXPORT (R430). -/
def execArcExport (t : Nat) (h : Hdr) (sel : ArcSel) (s : State) : Host.Outcome State Fault Refusal :=
  packet 0x0801 h t s (fun s => s.takeJob h 0x0801 true sel)

/-- ARC_COMPRESS (R430). -/
def execArcCompress (t : Nat) (h : Hdr) (sel : ArcSel) (s : State) : Host.Outcome State Fault Refusal :=
  packet 0x0802 h t s (fun s => s.takeJob h 0x0802 false sel)

/-- ARC_READ (R430). DEDUCED, log entry 43. -/
def execArcRead (t : Nat) (h : Hdr) (off len : Nat) (s : State) : Host.Outcome State Fault Refusal :=
  packet 0x0803 h t s (fun s =>
    if len = 0 ∨ 4072 < len ∨ s.arc.exported.length < off + len then s.finish h 0x0803 stParamRange
    else s.finish h 0x0803 stOk 0 (slice s.arc.exported off len))

/-- JOB_CANCEL (R430, R431): the job ends with RETRY and detail 1. DEDUCED, log entry 43. -/
def execJobCancel (t : Nat) (h : Hdr) (s : State) : Host.Outcome State Fault Refusal :=
  packet 0x0804 h t s (fun s => (if s.arc.job.isSome then s.jobEnd 3 stRetry 1 [] else s).finish h 0x0804 stOk)

end Sys2Proof.Machine
end

