-- ==== Sys2Proof/Machine/LinkOps.lean ====
section
/-! DEFINITION. The shared operations of lanes and links: bring-up, hellos, partners, hub IDs and routes (R443 to R452,
R472 to R483). -/

namespace Sys2Proof.Machine

/-- The own announcement of a lead: lead, PRIO, class, island, hops; none while there is no lead (R262, R474). -/
def State.announcement (s : State) : List Nat :=
  let m := s.time
  if m.isLead && !s.pair.yielding then [s.hubId, s.cfgF 0x02 0 0 16 8, s.ownClass, m.island, 0]
  else if m.parent != 7 then [m.lead, m.leadPrio, m.leadCls, m.island, m.hops]
  else [0xFFFF, 0, 0, 0, 0]

/-! Lanes. -/

/-- The lane of port p runs the Borku line coding. -/
def State.borku (s : State) (p : Nat) : Bool := !s.ethMode p

/-- EN of LANE_CFG. -/
def State.laneEn (s : State) (p : Nat) : Bool := s.cfgB 0x03 p 0 0

/-- A lane in SEEK at BK1: its counts, exclusions and PLL stay (R443). -/
def laneSeek (l : Lane) : Lane := { laneStop .seek l with gen := 1 }

/-- A lane in SEEK on its Ethernet PCS. -/
def laneEth (l : Lane) : Lane := { laneStop .seek l with eth := true }

/-- As from IDLE: with EN set and no fence, the lane starts BK1 hellos or the Ethernet PCS (R443). -/
def State.laneStart (s : State) (p : Nat) : State :=
  if (s.lane p).st == .idle && s.laneEn p && !s.unitFenced 2 p then
    s.setLane p (if s.ethMode p then laneEth else laneSeek)
  else s

/-- A lane enters FAILED and reports its source; its next attempt to lock follows 100 ms later (R443, R464).
DEDUCED, log entry 32. -/
def State.laneFail (s : State) (p : Nat) : State :=
  let now := s.now
  (s.setLane p (fun l => { laneStop .failed l with pll := false, pllAt := some now })).report (48 + p) 1

/-- A lane's PLL has locked: IDLE, then as from IDLE (R443). -/
def State.laneIdle (s : State) (p : Nat) : State :=
  (s.setLane p (fun l => { laneStop .idle l with pll := true })).laneStart p

/-- Whether a lane is in one of SEEK to UP. -/
def laneActive (st : LaneState) : Bool := st == .seek || st == .change || st == .adapt || st == .up

/-- A lane restarts at SEEK: on RETRAIN, on a write of MODE, GEN_MAX or polarity, or on a loss (R443). -/
def State.laneRestart (s : State) (p : Nat) : State :=
  if laneActive (s.lane p).st then s.setLane p (if s.ethMode p then laneEth else laneSeek) else s

/-- The coefficients of an FFE word: c(−1), c(0), c(1), c(2) (R461). -/
def ffeOf (w : Nat) : List Int := (List.range 4).map (fun k => signed 8 (fld w (8 * k) 8))

/-- The word of a list of coefficients. -/
def ffeWord (c : List Int) : Nat := ((List.range 4).map (fun k => code 8 (c.getD k 0) <<< (8 * k))).sum

/-- Whether coefficients keep the ranges and constraints of R451. -/
def ffeOk (c : List Int) : Bool :=
  let a := c.getD 0 0
  let m := c.getD 1 0
  let b := c.getD 2 0
  let d := c.getD 3 0
  let rest := a.natAbs + b.natAbs + d.natAbs
  decide (-16 ≤ a ∧ a ≤ 0) && decide (32 ≤ m ∧ m ≤ 64) && decide (-24 ≤ b ∧ b ≤ 0) && decide (-8 ≤ d ∧ d ≤ 8)
    && decide (m + rest ≤ 64) && decide (16 ≤ m - rest)

/-- The capability mask of a lane: the generations up to GEN_MAX, and BK1 alone in recovery mode (R443, R597). -/
def State.capMask (s : State) (p : Nat) : Nat := if s.boot.phase = .recovery then 1 else 2 ^ (s.cfgF 0x03 p 0 4 3) - 1

/-- The highest generation in the common set of a lane and its partner's hello, 0 when there is none (R444). -/
def State.targetGen (s : State) (p : Nat) (m : Hello) : Nat :=
  let own := s.capMask p &&& ((s.lane p).excl.toNat ^^^ 7)
  let his := m.cap.toNat &&& (m.excl.toNat ^^^ 7)
  maxOf 0 ((bitsOf 3 (own &&& his)).map (· + 1))

/-- Whether a generation is in the lane's own common set with a partner. -/
def State.inCommon (s : State) (p : Nat) (m : Hello) (g : Nat) : Bool :=
  1 ≤ g && g ≤ 3 && bit (s.capMask p &&& ((s.lane p).excl.toNat ^^^ 7) &&& m.cap.toNat &&& (m.excl.toNat ^^^ 7)) (g - 1)

/-- Whether route r is open (R486, R547). -/
def State.routeOpen (s : State) (r : Nat) : Bool := (s.routeVia r).isSome

/-- Event ROUTE for every stream route that opened or closed (R492). -/
def State.routeRefresh (s : State) : State :=
  let old := s.net.openRoutes.toNat
  let new := maskOf ((List.range 8).filter (fun k => s.routeOpen (k + 1)))
  let s := { s with net := { s.net with openRoutes := BitVec.ofNat 8 new } }
  forAll ((List.range 8).filter (fun k => bit old k != bit new k)) (fun s k =>
    s.raise 0x63 [(k, 3), (b2n (bit new k), 1)]) s

/-- The lane of port p is UP: its credit counts start again and the hub's LSA changes (R443, R472, R479). -/
def State.laneUp (s : State) (p : Nat) : State :=
  let now := s.now
  let s := s.modLane p (fun l => { l with
    st := .up, lostAt := none, countdown := none, switchAt := none, lock := true, signal := true, fecAt := some now })
  let s := s.modLink p (fun l => { l with
    grant2 := 24, grant3 := 24, sent2 := 0, sent3 := 0, wait2 := 0, wait3 := 0, helloAnn := [] })
  s.floodOwn.routeRefresh

/-- A lane test ends: IDLE, then as from IDLE (R443). -/
def State.testEnd (s : State) (p : Nat) : State :=
  if (s.lane p).st = .test then ((s.chkFold p).setLane p (laneStop .idle)).laneStart p else s

/-! Partners (R474 to R477, R482). -/

/-- Event PARTNER (R492). DEDUCED, log entry 37. -/
def State.evPartner (s : State) (p : Nat) (here : Bool) (kind : Nat) : State :=
  s.raise 0x60 [(p, 3), (b2n here, 1), (kind, 3)]

/-- Event REFUSED (R492). -/
def State.evRefused (s : State) (p : Nat) (set : Bool) : State := s.raise 0x61 [(p, 3), (b2n set, 1)]

/-- Event ID (R492). -/
def State.evId (s : State) (id cause : Nat) : State := s.raise 0x62 [(id, 10), (cause, 2)]

/-- The partner of port p goes: a new LSA is flooded, both credit counts of the port are reset, and event 0x60 is raised;
the frames queued stay until the routes are computed again (R476). DEDUCED, log entry 31. -/
def State.loseLink (s : State) (p : Nat) : State :=
  let k := (s.link p).kind
  if k = 0 then s
  else
    let s := s.modLink p (fun l => { out := l.out, wire := l.wire, line := l.line, turns := l.turns })
    let s := s.modPtime p (fun q => { q with t1 := 0, t2 := 0, t3 := 0, t4 := 0 })
    let s := (s.bump (pid 0x03 p 0x116) 16 16).evPartner p false k
    s.floodOwn.refreshLead.routeRefresh

/-- Lock is not regained within 1 ms: SEEK at BK1, and the partner is gone (R443, R476). -/
def State.laneLost (s : State) (p : Nat) : State := (s.setLane p laneSeek).loseLink p

/-! Hub IDs (R478 to R482). -/

/-- The database entry of a hub by EUI-64. -/
def State.dbEntry (s : State) (eui : Nat) : Option DbEntry := tfind s.net.db eui

/-- The hub IDs that the database and this hub use or hold. DEDUCED, log entry 78. -/
def State.usedIds (s : State) : List Nat :=
  (((s.net.db.map Prod.snd).filter (fun (e : DbEntry) => !e.lsa.claim && e.lsa.id < 1023)).map (fun e => e.lsa.id)
    ++ s.net.id.toList).dedup

/-- The lowest ID that the database neither uses nor holds (R480). -/
def State.lowestFree (s : State) : Option Nat :=
  let u := s.usedIds
  (List.range 1023).find? (fun n => !u.contains n)

/-- Claims a candidate: an LSA with CLAIM is flooded; without a free ID the hub waits (R480, R482).
DEDUCED, log entry 46. -/
def State.claim (s : State) (c : Option Nat) : State :=
  let now := s.now
  match c with
  | some n =>
    { s with net := { s.net with idState := 1, candidate := n, claimAt := now, lostClaim := false } }.floodOwn
  | none => { s with net := { s.net with idState := 3 } }

/-- The first candidate: PREF_ID, else the ID last stored in the boot flash, else the lowest free one (R480). -/
def State.firstCandidate (s : State) : Option Nat :=
  let p := s.cfgF 0x01 0 0x400 0 10
  if p != 1023 then some p else s.boot.hubId.orElse (fun _ => s.lowestFree)

/-- The hub chooses an ID (R480). -/
def State.chooseId (s : State) : State := s.claim s.firstCandidate

/-- Whether the database gives an ID to another hub, by an LSA without CLAIM (R480). -/
def State.idTaken (s : State) (id : Nat) : Bool :=
  s.net.db.any (fun (x : Nat × DbEntry) => x.1 != s.ident.eui && !x.2.lsa.claim && x.2.lsa.id == id)

/-- The candidate is lost: event 0x62, and the lowest free ID is claimed (R480). DEDUCED, log entry 46. -/
def State.claimLost (s : State) : State := (s.evId 1023 1).claim s.lowestFree

/-- The hub takes its candidate, stores it in the boot flash and floods its LSA (R480, R495). -/
def State.takeId (s : State) : State :=
  let n := s.net.candidate
  let s := { s with net := { s.net with id := some n, idState := 2 }, boot := { s.boot with hubId := some n } }
  (((s.bump (pid 0x01 0 0x401) 16 16).evId n 0).floodOwn).refreshLead

/-- The hub gives up a duplicate ID and chooses again (R481). -/
def State.giveUpId (s : State) : State :=
  let s := { s with net := { s.net with id := none, idState := 0 } }
  ((s.bump (pid 0x01 0 0x401) 16 16).evId 1023 2).chooseId

/-- The refusals follow the database: with an ID free again REFUSED clears at both ends, and a claim proceeds (R482). -/
def State.refuseRefresh (s : State) : State :=
  let full := s.lowestFree.isNone
  let s := forAll (List.range 6) (fun s p =>
    let l := s.link p
    let want : Bool := s.net.id.isSome && (l.kind == 1 || l.kind == 2) && l.id.isNone && full
    if s.net.id.isSome && want != l.refused then
      ((s.modLink p (fun l => { l with refused := want })).evRefused p want).netDirty
    else s) s
  if s.net.idState = 3 && !full then s.claim s.lowestFree else s

/-- An LSA of another hub is stored, and its broadcasts start anew with a new boot number (R479, R485). -/
def State.storeLsa (s : State) (m : Lsa) : State :=
  let now := s.now
  let reboot := match s.dbEntry m.eui with
    | some e => e.lsa.boot != m.boot
    | none => true
  let seen := match s.dbEntry m.eui with
    | some e => e.seenAt
    | none => now
  let s := { s with net := { s.net with
    db := tput s.net.db m.eui ⟨m, now, seen, false⟩
    seen := if reboot then tdel s.net.seen m.id else s.net.seen } }
  s.netDirty

/-- Whether an LSA is newer than the one held for its EUI-64 (R479). -/
def State.lsaNewer (s : State) (m : Lsa) : Bool :=
  match s.dbEntry m.eui with
  | none => true
  | some e => e.lsa.boot != m.boot || decide (0 < sdiff 32 m.seq e.lsa.seq)

/-- What an LSA of another hub says about this hub's ID (R480, R481). -/
def State.lsaId (s : State) (m : Lsa) : State :=
  if s.net.idState = 1 ∧ m.id = s.net.candidate then
    if !m.claim || m.eui < s.ident.eui then { s with net := { s.net with lostClaim := true } } else s
  else if !m.claim && some m.id == s.net.id && m.eui < s.ident.eui then s.giveUpId
  else s

/-! Routes (R483). -/

/-- The metric of a generation. -/
def genMetric (g : Nat) : Nat := if g = 3 then 1 else if g = 2 then 2 else 8

/-- Whether path a (metric, neighbour, port) is better than b (R483). DEDUCED, log entry 33. -/
def betterPath (a b : Nat × Nat × Nat) : Bool :=
  decide (a.1 < b.1) || (a.1 == b.1 && (decide (a.2.1 < b.2.1) || (a.2.1 == b.2.1 && decide (a.2.2 < b.2.2))))

/-- A path offered to a hub ID. -/
def offerPath (t : Tbl (Nat × Nat × Nat)) (id : Nat) (x : Nat × Nat × Nat) : Tbl (Nat × Nat × Nat) :=
  match tfind t id with
  | some y => if betterPath x y then tput t id x else t
  | none => tput t id x

/-- One pass over the links of the LSAs. -/
def relaxPaths (own : Nat) (l : List Lsa) (t : Tbl (Nat × Nat × Nat)) : Tbl (Nat × Nat × Nat) :=
  l.foldl (fun t m =>
    match tfind t m.id with
    | none => t
    | some x => m.nbrs.foldl (fun t (n : Nat × Nat × Nat) =>
        if n.1 = own then t else offerPath t n.1 (x.1 + genMetric n.2.2, x.2.1, x.2.2)) t) t

/-- The paths to every hub ID, from this hub's own links. DEDUCED, log entry 33. -/
def State.paths (s : State) : Tbl (Nat × Nat × Nat) :=
  let own := s.hubId
  let l := ((s.net.db.map Prod.snd).filter (fun (e : DbEntry) => !e.held && !e.lsa.claim && e.lsa.eui != s.ident.eui)).map DbEntry.lsa
  let start := s.neighbours.foldl (fun t (n : Nat × Nat × Nat) => offerPath t n.1 (genMetric n.2.2, n.1, n.2.1)) []
  (List.range l.length).foldl (fun t _ => relaxPaths own l t) start

/-- The frames of a port's queue that now leave elsewhere move to the queue of their port (R484). -/
def State.requeue (s : State) (p : Nat) : State :=
  let routed := fun (x : Nat × Frame) => !x.2.bcast && x.2.dest != 1023 && some x.2.dest != s.net.id
  let moves := fun (x : Nat × Frame) => routed x && ((tfind s.net.routes x.2.dest).map (fun r => r.1 != p)).getD false
  let l := (s.link p).out
  let s := s.modLink p (fun k => { k with out := l.filter (fun x => !moves x) })
  forAll (l.filter moves) (fun s x =>
    match tfind s.net.routes x.2.dest with
    | some r => s.enqueue r.1 x.1 x.2
    | none => s) s

/-- The routing table is computed again; hubs reachable until now are so noted, and queued frames follow the new routes
(R479, R483, R484). DEDUCED, log entry 33. -/
def State.recomputeRoutes (s : State) : State :=
  let now := s.now
  let old := s.net.routes
  let new : Tbl (Nat × Nat) := s.paths.map (fun (x : Nat × (Nat × Nat × Nat)) => (x.1, (x.2.2.2, x.2.1)))
  let reach := fun (id : Nat) => (tfind old id).isSome || (tfind new id).isSome
  let dests := ((s.net.db.map Prod.snd).map (fun (e : DbEntry) => e.lsa.id)).dedup
  let s := { s with net := { s.net with
    routes := new
    dirty := false
    db := s.net.db.map (fun (x : Nat × DbEntry) => (x.1, if reach x.2.lsa.id then { x.2 with seenAt := now } else x.2))
    mask0Since := dests.foldl (fun t d =>
      if (tfind new d).isSome then tdel t d
      else if (tfind t d).isSome then t
      else tput t d now) s.net.mask0Since } }
  (forAll (List.range 6) State.requeue s).routeRefresh

end Sys2Proof.Machine
end

