-- ==== Sys2Proof/Machine/Lanes.lean ====
section
/-! DEFINITION. The meanings of the lane events: bring-up, BK3 training, Ethernet, test modes, the checker and FEC (R443 to
R464), and hellos (R474 to R477). -/

namespace Sys2Proof.Machine

/-! Power and PLL (R443). -/

/-- Whether a lane has power: PD13 on and its switch closed (R33). -/
def State.lanePowered (s : State) (p : Nat) : Bool := s.pd 13 && bit s.switches.toNat p

/-- LANE_SWITCH_CLOSE (R443): the lane starts to lock its PLL. -/
def execLaneSwitchClose (t lane : Nat) (s : State) : Host.Outcome State Fault Refusal :=
  onUnit .port lane t s (fun s =>
    let now := s.now
    if s.lanePowered lane && (s.lane lane).st == .down then s.modLane lane (fun l => { l with pllAt := some now }) else s)

/-- PLL_LOCK (R443). -/
def execPllLock (t lane : Nat) (s : State) : Host.Outcome State Fault Refusal :=
  onUnit .port lane t s (fun s =>
    let l := s.lane lane
    if s.lanePowered lane && l.st == .down && l.pllAt.isSome then s.laneIdle lane else s)

/-- PLL_LOCK_TIMEOUT (R443): no lock within 1 ms. -/
def execPllLockTimeout (t lane : Nat) (s : State) : Host.Outcome State Fault Refusal :=
  onUnit .port lane t s (fun s =>
    let l := s.lane lane
    if s.lanePowered lane && l.st == .down && (l.pllAt.map (fun a => decide (a + 1000000 ≤ s.now))).getD false
    then s.laneFail lane else s)

/-- PLL_LOSS (R443). -/
def execPllLoss (t lane : Nat) (s : State) : Host.Outcome State Fault Refusal :=
  onUnit .port lane t s (fun s =>
    if (s.lane lane).st == .down || (s.lane lane).st == .failed then s else (s.chkFold lane).laneFail lane)

/-- FAILED_RETRY (R443): every 100 ms. DEDUCED, log entry 32. -/
def execFailedRetry (t lane : Nat) (locked : Bool) (s : State) : Host.Outcome State Fault Refusal :=
  onUnit .port lane t s (fun s =>
    let now := s.now
    if (s.lane lane).st != .failed || !s.elapsed (s.lane lane).pllAt 100000000 then s
    else if locked then s.laneIdle lane
    else s.modLane lane (fun l => { l with pllAt := some now }))

/-! Hellos (R443 to R447, R474 to R477). -/

/-- The 40 bytes of a hello of port p (R474). -/
def State.helloBytes (s : State) (p : Nat) : List Byte :=
  let l := s.lane p
  let k := s.link p
  let a := s.announcement
  be 8 s.ident.eui ++ be 1 (s.capMask p ||| l.excl.toNat <<< 4 ||| b2n l.seenPartner <<< 7)
    ++ be 1 (l.target ||| (l.countdown.getD 0) <<< 2 ||| b2n l.countdown.isSome <<< 5) ++ be 1 1
    ++ be 1 (b2n s.net.id.isSome ||| b2n (k.refused && s.net.id.isSome) <<< 1 ||| p <<< 2) ++ be 2 s.hubId
    ++ be 2 (a.getD 0 0) ++ be 1 (a.getD 1 0) ++ be 1 (a.getD 2 0) ++ be 1 (a.getD 3 0) ++ be 1 (a.getD 4 0)
    ++ be 2 k.grant2 ++ be 2 k.grant3 ++ zeros 16

/-- What of a hello makes an UP lane send one at once when it changes (R475). -/
def State.helloAnnOf (s : State) (p : Nat) : List Nat := b2n (s.link p).refused :: s.announcement

/-- Whether a hello is due on port p (R443, R475). -/
def State.helloDue (s : State) (p : Nat) : Bool :=
  let st := (s.lane p).st
  let gap := match (s.link p).helloAt with
    | some a => s.now - a
    | none => 10000000
  s.borku p && decide (1000000 ≤ gap)
    && (st == .seek || st == .change || (st == .up && (decide (10000000 ≤ gap) || (s.link p).helloAnn != s.helloAnnOf p)))

/-- A hello leaves: in a countdown the next one counts one less, and after countdown 0 the switch follows 100 us later
(R445). DEDUCED, log entry 34. -/
def State.sendHello (s : State) (p : Nat) : State :=
  let now := s.now
  let ann := s.helloAnnOf p
  let s := if (s.lane p).st = .up then s.sendLocal p 1 (s.helloBytes p)
    else s.putLine p ⟨1, 7, false, 1023, s.hubId, 0, 0, s.helloBytes p, true⟩
  let s := s.modLink p (fun k => { k with helloAt := some now, helloAnn := ann, wait2 := 0, wait3 := 0 })
  match (s.lane p).countdown with
  | some 0 => s.modLane p (fun l => { l with countdown := none, switchAt := some (now + 100000) })
  | some (n + 1) => s.modLane p (fun l => { l with countdown := some n })
  | none => s

/-- HELLO_SEND (R475). A lane in SEEK or CHANGE puts its hello on the line at once. -/
def execHelloSend (t port : Nat) (s : State) : Host.Outcome State Fault Refusal :=
  onUnit .port port t s (fun s => if s.helloDue port then s.sendHello port else s)

/-- The partner that a hello shows: a different EUI-64 makes the old one gone and the new one present (R476, R477).
DEDUCED, log entry 34. -/
def State.takePartner (s : State) (p : Nat) (m : Hello) : State :=
  let s := if (s.link p).kind != 0 && (s.link p).eui != m.eui then s.loseLink p else s
  let fresh : Bool := (s.link p).kind == 0
  let now := s.now
  let old := (s.link p).id
  let id := if m.idValid && m.kind != 3 then some m.id else none
  let s := s.modLink p (fun k => { k with
    kind := m.kind, eui := m.eui, id := id, lastHello := now, pGrant2 := m.c2, pGrant3 := m.c3
    lead := m.lead, prio := m.prio, cls := m.cls, island := m.island, hops := m.hops })
  let s := if fresh then s.evPartner p true m.kind else s
  if fresh || old != id then s.floodOwn.routeRefresh else s

/-- REFUSE in a hello, and an ID that the partner has got (R482). -/
def State.takeRefuse (s : State) (p : Nat) (m : Hello) : State :=
  let s := if s.net.id.isNone && m.refuse != (s.link p).refused then
      let s := (s.modLink p (fun k => { k with refused := m.refuse })).evRefused p m.refuse
      let s := { s with net := { s.net with idState := if m.refuse then 3 else s.net.idState } }
      if !m.refuse && s.net.idState == 3 then s.claim s.lowestFree else s
    else s
  s.refuseRefresh

/-- What a hello means for a lane in SEEK (R443 to R447): a countdown sets the switch instant; a complete exchange makes
the lane UP at BK1, or, at the end with the lower EUI-64, starts the countdown. -/
def State.seekHello (s : State) (p : Nat) (m : Hello) : State :=
  let now := s.now
  match m.countdown with
  | some k =>
    if s.inCommon p m m.target && m.target != 1 then
      s.setLane p (fun l => { l with
        st := .change, target := m.target, countdown := none, switchAt := some (now + k * 1000000 + 100000) })
    else s
  | none =>
    if !m.seen then s
    else
      let g := s.targetGen p m
      if g = 1 then s.laneUp p
      else if 1 < g ∧ s.ident.eui < m.eui then
        s.setLane p (fun l => { l with st := .change, target := g, countdown := some 7 })
      else s.modLane p (fun l => { l with target := g })

/-- HELLO_RECEIVE (R443, R444, R472, R474, R476, R482). -/
def execHelloReceive (t port : Nat) (m : Hello) (s : State) : Host.Outcome State Fault Refusal :=
  onUnit .port port t s (fun s =>
    let st := (s.lane port).st
    if s.borku port && (st == .seek || st == .change || st == .up) then
      let s := s.takePartner port m
      let s := s.modLane port (fun l => { l with seenPartner := true, signal := true })
      let s := if (s.lane port).st = .seek then s.seekHello port m else s
      ((s.takeRefuse port m).refreshLead)
    else s)

/-- PARTNER_GONE (R476): no valid hello for 30 ms. DEDUCED, log entry 31. -/
def execPartnerGone (t port : Nat) (s : State) : Host.Outcome State Fault Refusal :=
  onUnit .port port t s (fun s => if (s.link port).lastHello + 30000000 ≤ s.now then s.loseLink port else s)

/-! Changing generation and adapting (R443 to R452). -/

/-- COUNTDOWN_SWITCH (R445): both ends squelch, retune and start the new generation, training from FFE_INIT. -/
def execCountdownSwitch (t port : Nat) (s : State) : Host.Outcome State Fault Refusal :=
  onUnit .port port t s (fun s =>
    let l := s.lane port
    if l.st = .change ∧ (l.switchAt.map (fun a => decide (a ≤ s.now))).getD false = true then
      let ffe := s.cfgN 0x03 port 1
      let now := s.now
      s.setLane port (fun l => { l with
        st := .adapt, gen := l.target, countdown := none, switchAt := some now, ffe := BitVec.ofNat 32 ffe
        trainReq := 0, trainStat := 0, rxReady := false, readyFrames := 0, dataOn := false, markers := 0, missed := 0
        lock := false, lastTrain := now, signal := false })
    else s)

/-- ADAPT_LOCK (R443, R448): BK2 lock, or BK3 data with two markers in place, takes the lane UP; an UP lane that had lost
lock has it again. -/
def execAdaptLock (t port : Nat) (s : State) : Host.Outcome State Fault Refusal :=
  onUnit .port port t s (fun s =>
    let l := s.lane port
    if l.st = .adapt ∧ (l.gen = 2 ∨ (l.gen = 3 ∧ l.dataOn = true ∧ l.lock = true)) then s.laneUp port
    else if l.st = .up ∧ l.lostAt.isSome = true then s.modLane port (fun l => { l with lock := true, lostAt := none })
    else s)

/-- Whether ADAPT has failed (R446). -/
def State.adaptFailed (s : State) (p : Nat) : Bool :=
  let l := s.lane p
  let since := s.now - l.switchAt.getD s.now
  l.st == .adapt && (if l.gen == 2 then decide (5000000 ≤ since)
    else decide (s.cfgF 0x03 p 2 0 16 * 1000000 ≤ since) || (!l.dataOn && decide (l.lastTrain + 1000000 ≤ s.now)))

/-- ADAPT_FAILURE (R446): the generation is excluded, and the lane returns to BK1 hellos. -/
def execAdaptFailure (t port : Nat) (s : State) : Host.Outcome State Fault Refusal :=
  onUnit .port port t s (fun s =>
    if s.adaptFailed port then
      s.setLane port (fun l => { laneSeek l with excl := l.excl ||| BitVec.ofNat 3 (2 ^ (l.gen - 1)) })
    else s)

/-- Whether a training field has even parity over its lower 15 bits in bit 15 (R449). -/
def parityOk (f : Nat) : Bool := popcount 16 f % 2 == 0

/-- One tap after a request: the coefficients and the status to report (R450, R451); a held or reserved request changes
nothing, and a hold returns the status to "not updated". -/
def tapStep (c : List Int) (k req st : Nat) : List Int × Nat :=
  if req = 0 then (c, 0)
  else if st ≠ 0 ∨ req = 3 then (c, st)
  else
    let d : Int := if req = 1 then 1 else -1
    let c' := c.set k (c.getD k 0 + d)
    if ffeOk c' then (c', 1) else (c, if req = 1 then 3 else 2)

/-- All four taps after a control field: PRESET and INIT set them together (R450). -/
def ffeStep (init c : List Int) (control st : Nat) : List Int × Nat :=
  if fld control 8 2 = 1 then ([0, 64, 0, 0], 0x55)
  else if fld control 8 2 = 2 then (init, 0x55)
  else
    (List.range 4).foldl (fun (a : List Int × Nat) k =>
      let r := tapStep a.1 k (fld control (2 * k) 2) (fld st (2 * k) 2)
      (r.1, setFld a.2 (2 * k) 2 r.2)) (c, st)

/-- The own requests after a status field: a request the partner has answered returns to hold; which change is asked for
next is the adaptation's choice, x (R450, R452). DESIGN CHOICE, log entry 35. -/
def reqStep (req status x : Nat) : Nat :=
  (List.range 4).foldl (fun a k =>
    let s := fld status (2 * k) 2
    let q := fld req (2 * k) 2
    let n := if s ≠ 0 then 0 else if q ≠ 0 then q else fld x (2 * k) 2 % 3
    setFld a (2 * k) 2 n) req

/-- A training frame in ADAPT at BK3 (R450 to R452). DESIGN CHOICE, log entry 35. -/
def State.trainFrame (s : State) (p control status : Nat) (eyeOk : Bool) : State :=
  let now := s.now
  let init := ffeOf (s.cfgN 0x03 p 1)
  let s := s.modLane p (fun l =>
    let r := if parityOk control then ffeStep init (ffeOf l.ffe.toNat) control l.trainStat.toNat
      else (ffeOf l.ffe.toNat, l.trainStat.toNat)
    { l with
      ffe := BitVec.ofNat 32 (ffeWord r.1)
      trainStat := BitVec.ofNat 8 r.2
      lastTrain := now
      signal := true
      readyFrames := if eyeOk && parityOk status && bit status 8 then l.readyFrames + 1 else 0
      rxReady := eyeOk })
  if eyeOk then s.modLane p (fun l => { l with trainReq := 0 })
  else
    let f := s.takeFree
    f.2.modLane p (fun l => { l with
      trainReq := if parityOk status then BitVec.ofNat 8 (reqStep l.trainReq.toNat status f.1.toNat) else l.trainReq })

/-- TRAINING_FRAME_RECEIVE (R449 to R452). DESIGN CHOICE, log entry 111. -/
def execTrainingFrameReceive (t port : Nat) (control status : BitVec 16) (eyeOk : Bool) (s : State) :
    Host.Outcome State Fault Refusal :=
  onUnit .port port t s (fun s =>
    let l := s.lane port
    if l.st = .adapt ∧ l.gen = 3 ∧ l.dataOn = false then s.trainFrame port control.toNat status.toNat eyeOk else s)

/-- DATA_START (R452). -/
def execDataStart (t port : Nat) (s : State) : Host.Outcome State Fault Refusal :=
  onUnit .port port t s (fun s =>
    let l := s.lane port
    if l.st = .adapt ∧ l.gen = 3 ∧ l.dataOn = false ∧ 64 ≤ l.readyFrames then
      s.modLane port (fun l => { l with dataOn := true, markers := 0, missed := 0, lock := false })
    else s)

/-- An UP lane loses lock (R443). -/
def State.loseLock (s : State) (p : Nat) : State :=
  let now := s.now
  s.modLane p (fun l => { l with lock := false, markers := 0, lostAt := some (l.lostAt.getD now) })

/-- MARKER_RECEIVE (R448): two markers in place give lock, three missed lose it. -/
def execMarkerReceive (t port : Nat) (inPlace : Bool) (s : State) : Host.Outcome State Fault Refusal :=
  onUnit .port port t s (fun s =>
    let l := s.lane port
    if l.gen = 3 ∧ (l.st = .up ∨ (l.st = .adapt ∧ l.dataOn = true)) then
      if inPlace then
        s.modLane port (fun l => { l with
          markers := l.markers + 1
          missed := 0
          lock := l.lock || decide (2 ≤ l.markers + 1)
          lostAt := if 2 ≤ l.markers + 1 then none else l.lostAt })
      else
        let s := s.modLane port (fun l => { l with markers := 0, missed := l.missed + 1 })
        if 3 ≤ (s.lane port).missed then
          if (s.lane port).st = .up then s.loseLock port else s.modLane port (fun l => { l with lock := false })
        else s
    else s)

/-- LOCK_LOSS (R443). -/
def execLockLoss (t port : Nat) (s : State) : Host.Outcome State Fault Refusal :=
  onUnit .port port t s (fun s => if (s.lane port).st = .up then s.loseLock port else s)

/-- LOCK_REGAIN_TIMEOUT (R443, R476): lock is not regained within 1 ms. -/
def execLockRegainTimeout (t port : Nat) (s : State) : Host.Outcome State Fault Refusal :=
  onUnit .port port t s (fun s =>
    let l := s.lane port
    if l.st = .up ∧ (l.lostAt.map (fun a => decide (a + 1000000 ≤ s.now))).getD false = true then
      if s.ethMode port then s.setLane port laneEth else s.laneLost port
    else s)

/-- ETH_LINK_UP (R453): synchronisation, and auto-negotiation when enabled. DEDUCED, log entry 37. -/
def execEthLinkUp (t port : Nat) (fullDuplex : Bool) (s : State) : Host.Outcome State Fault Refusal :=
  onUnit .port port t s (fun s =>
    if (s.lane port).st = .seek ∧ s.ethMode port = true then
      let an := s.cfgF 0x03 port 0 1 2 == 1 && s.cfgB 0x03 port 0 8
      if an && !fullDuplex then s.evPartner port false 0
      else (s.laneUp port).modLane port (fun l => { l with anDone := an, gen := if s.cfgF 0x03 port 0 1 2 = 1 then 1 else 2 })
    else s)

/-! Tests (R454 to R460). -/

/-- The status of a write of LANE_TEST (R454, R457, R461). DEDUCED, log entry 94. -/
def State.laneTestStatus (s : State) (p v : Nat) : Nat :=
  let st := (s.lane p).st
  if fld v 0 3 ≠ 0 ∧ fld v 4 2 = 0 then stParamRange
  else if fld v 8 3 = 1 ∧ (fld v 4 2 = 1 ∨ fld v 4 2 = 2) then stParamRange
  else if v = 0 then stOk
  else if st = .idle ∨ st = .test then stOk
  else if st = .down ∨ st = .failed then stDenied
  else stBusyLive

/-- k bits of a register whose next bit is the exclusive or of the bits the given numbers of steps back (R457). -/
def prbsRun (taps : List Nat) : Nat → List Bool → List Bool
  | 0, _ => []
  | k + 1, l =>
    let b := taps.foldl (fun a i => a != l.getD (i - 1) false) false
    b :: prbsRun taps k (b :: l.take 30)

/-- The feedback of a PRBS pattern, whose register starts at all ones (R457). -/
def prbsTaps (pat : Nat) : List Nat :=
  match pat with
  | 0 => [7, 6]
  | 1 => [13, 12, 2, 1]
  | 2 => [15, 14]
  | _ => [31, 28]

/-- The period of a pattern in bits; PRBS13Q sends its bits in pairs, so that it repeats after 8191 pairs (R457). -/
def patPeriod (pat : Nat) : Nat :=
  match pat with
  | 0 => 127
  | 1 => 16382
  | 2 => 32767
  | 3 => 2 ^ 31 - 1
  | _ => 40

/-- The first k bits of a pattern; of a PRBS the bits fed back; USER repeats the 40 bits of USER_PAT (R457).
DEDUCED, log entry 121. -/
def patternBits (pat user k : Nat) : List Bool :=
  if pat = 4 then (List.range k).map (fun i => bit user (i % 40)) else prbsRun (prbsTaps pat) k (List.replicate 31 true)

/-- USER_PAT of a port (R461). -/
def State.userPat (s : State) (p : Nat) : Nat := s.cfgN 0x03 p 4 + 2 ^ 32 * s.cfgF 0x03 p 5 0 8

/-- The line bits the generator of a port has produced by now (R436, R456). -/
def State.bitsSent (s : State) (p : Nat) : Nat :=
  match (s.lane p).genAt with
  | some a => (s.now - a) * lineRate (s.lane p).gen / 10000
  | none => 0

/-- The first k bits the generator of a port transmits: the pattern, one bit of every 2^RATE inverted under CONT, and those that
SINGLE inverted (R456 to R458). -/
def State.txBits (s : State) (p k : Nat) : List Bool :=
  let cont := s.cfgB 0x03 p 6 1
  let every := 2 ^ s.cfgF 0x03 p 6 8 5
  (patternBits (s.cfgF 0x03 p 3 8 3) (s.userPat p) k).zipIdx.map (fun x =>
    x.1 != ((s.lane p).flips.contains x.2 != (cont && (x.2 + 1) % every == 0)))

/-- The Gray-mapped symbols of a bit stream, the first bit of each pair first (R441). -/
def grayPairs : List Bool → List Nat
  | a :: b :: r => (if a then (if b then 2 else 3) else b2n b) :: grayPairs r
  | _ => []

/-- The 1/(1+d) precoding of symbols after the symbol prev (R441). -/
def precode : Nat → List Nat → List Nat
  | _, [] => []
  | prev, g :: r =>
    let p := (g + 4 - prev % 4) % 4
    p :: precode p r

/-- The line levels of a BK3 bit stream, in thirds of the peak amplitude: precoded for data, not for patterns (R441, R456). -/
def pam4Levels (data : Bool) (b : List Bool) : List Int :=
  let g := grayPairs b
  (if data then precode 0 g else g).map (fun p => 2 * (p : Int) - 3)

/-- A pattern in force starts at the end of the period in progress (R457). -/
def State.nextPattern (s : State) (p : Nat) : Nat :=
  match (s.lane p).genAt with
  | some a =>
    let n := patPeriod (s.cfgF 0x03 p 3 8 3)
    a + (s.bitsSent p + n - 1) / n * n * 10000 / lineRate (s.lane p).gen
  | none => s.now

/-- A change of USER_PAT during a test: the new pattern follows the period in progress, and the checker locks again (R457). -/
def State.patternChange (s : State) (p : Nat) : State :=
  let n := s.nextPattern p
  (s.chkFold p).modLane p (fun l => { l with genAt := l.genAt.map (fun _ => n), flips := [] })

/-- The effect of a write of LANE_TEST: the test starts, or goes on with another pattern; GEN_EN starts the generator but in the
far-end test (R443, R454 to R457). -/
def State.doLaneTest (s : State) (p v : Nat) : State :=
  let start := s.nextPattern p
  let s := s.setCfg (pid 0x03 p 3) v
  if v = 0 then s.testEnd p
  else
    let s := s.chkFold p
    s.setLane p (fun l => { laneStop .test l with
      gen := fld v 4 2, genAt := if bit v 12 ∧ fld v 0 3 ≠ 3 then some start else none })

/-- LANE_TEST (R454). -/
def execLaneTest (t : Nat) (h : Hdr) (port : Nat) (val : Word) (s : State) : Host.Outcome State Fault Refusal :=
  itemCommand (pid 0x03 port 3) val.toNat h t s (fun s => s.laneTestStatus port val.toNat)
    (fun s => s.doLaneTest port val.toNat)

/-- Whether the generator of a port runs. -/
def State.genEn (s : State) (p : Nat) : Bool := s.cfgB 0x03 p 3 12

/-- The next transmitted pattern bit of a port is inverted (R458). -/
def State.injectBit (s : State) (p : Nat) : State :=
  let n := s.bitsSent p
  s.modLane p (fun l => { l with flips := l.flips ++ [n] })

/-- ERR_INJ_SINGLE (R458): the next transmitted pattern bit is inverted. -/
def execErrInjSingle (t : Nat) (h : Hdr) (port : Nat) (s : State) : Host.Outcome State Fault Refusal :=
  itemCommand (pid 0x03 port 6) (s.cfgN 0x03 port 6 ||| 1) h t s (fun s => if s.genEn port then stOk else stDenied)
    (fun s => s.injectBit port)

/-- LANE_CTL_RETRAIN (R443, R446): the exclusions clear, and an active lane restarts at BK1. -/
def execLaneCtlRetrain (t : Nat) (h : Hdr) (port : Nat) (s : State) : Host.Outcome State Fault Refusal :=
  itemCommand (pid 0x03 port 8) 1 h t s noCheck (fun s => (s.modLane port (fun l => { l with excl := 0 })).laneRestart port)

/-- CLEAR of LANE_CTL: BITS, ERRS, the lock-loss count and the FEC counts (R460, R462). -/
def State.doLaneClear (s : State) (p : Nat) : State :=
  let now := s.now
  let s := s.modLane p (fun l => { l with bits := 0, errs := 0, chkSince := now })
  forAll [(0x01C, 16), (0x014, 0), (0x015, 0), (0x016, 0)] (fun s (c : Nat × Nat) => s.setCount (pid 0x03 p c.1) c.2 0) s

/-- LANE_CTL_CLEAR (R460). -/
def execLaneCtlClear (t : Nat) (h : Hdr) (port : Nat) (s : State) : Host.Outcome State Fault Refusal :=
  itemCommand (pid 0x03 port 8) 2 h t s noCheck (fun s => s.doLaneClear port)

/-- CHECKER_LOCK (R459). -/
def execCheckerLock (t port : Nat) (s : State) : Host.Outcome State Fault Refusal :=
  onUnit .port port t s (fun s =>
    let now := s.now
    if (s.lane port).st = .test ∧ s.cfgB 0x03 port 3 13 = true ∧ (s.lane port).chkLock = false then
      s.modLane port (fun l => { l with chkLock := true, chkSince := now })
    else s)

/-- CHECKER_LOCK_LOSS (R459). -/
def execCheckerLockLoss (t port : Nat) (s : State) : Host.Outcome State Fault Refusal :=
  onUnit .port port t s (fun s =>
    if (s.lane port).chkLock then (s.chkFold port).bump (pid 0x03 port 0x01C) 16 16 else s)

/-- CHECKER_COUNT_SATURATE (R14, R460): BITS at its maximum stops both counts, ERRS alone stops itself; one event is raised. -/
def execCheckerCountSaturate (t port : Nat) (bits : Bool) (s : State) : Host.Outcome State Fault Refusal :=
  onUnit .port port t s (fun s =>
    let l := s.lane port
    if !l.chkLock || l.bits == chkMax then s
    else if bits then
      let s := s.chkFold port
      (s.chkPut port chkMax (s.lane port).errs).modLane port (fun l => { l with chkLock := true })
    else s.chkPut port l.bits chkMax)

/-- FEC_LIMIT_CHECK (R462, R464): each second, with the counts of that second. DEDUCED, log entry 47. -/
def execFecLimitCheck (t port corr unc sym : Nat) (s : State) : Host.Outcome State Fault Refusal :=
  onUnit .port port t s (fun s =>
    let now := s.now
    if (s.lane port).gen ≠ 3 ∨ s.elapsed (s.lane port).fecAt 1000000000 = false then s
    else
      let s := ((s.bumpBy (pid 0x03 port 0x014) 0 31 corr).bumpBy (pid 0x03 port 0x015) 0 31 unc).bumpBy
        (pid 0x03 port 0x016) 0 31 sym
      let more : Bool := decide (s.cfgF 0x03 port 7 0 16 < unc)
      let s := s.modLane port (fun l => { l with fecOver := if more then l.fecOver + 1 else 0, fecAt := some now })
      if (s.lane port).fecOver = 3 then s.report (48 + port) 2 else s)

/-! Credits (R472). -/

/-- CREDIT_RECEIVE (R472). -/
def execCreditReceive (t port c2 c3 : Nat) (s : State) : Host.Outcome State Fault Refusal :=
  onUnit .port port t s (fun s =>
    if s.up port && s.borku port then
      s.modLink port (fun k => { k with pGrant2 := c2 % 2 ^ 16, pGrant3 := c3 % 2 ^ 16 })
    else s)

/-- CREDIT_SEND (R472): four slots wait to be reported, or 20 us have passed since the first that waits.
DEDUCED, log entry 48. -/
def execCreditSend (t port : Nat) (s : State) : Host.Outcome State Fault Refusal :=
  onUnit .port port t s (fun s =>
    let k := s.link port
    let n := k.wait2 + k.wait3
    if s.up port && s.borku port && (decide (4 ≤ n) || (decide (0 < n) && decide (k.waitAt + 20000 ≤ s.now))) then
      (s.sendLocal port 2 (be 2 k.grant2 ++ be 2 k.grant3 ++ zeros 4)).modLink port (fun k => { k with wait2 := 0, wait3 := 0 })
    else s)

end Sys2Proof.Machine
end

