-- ==== Sys2Proof/Machine/Routing.lean ====
section
/-! DEFINITION. The meanings of the frame events and of discovery: sending and receiving frames, the database, hub IDs,
routes, proxies and the opcodes of the port group (R468 to R495, R413). -/

namespace Sys2Proof.Machine

/-! Sending (R471, R472, R413, R417). -/

/-- A frame that a port could send: one of its queue, a reply, a network trigger message, or a block on a route. -/
inductive Ready where
  | frame (o : Nat) (f : Frame)
  | reply (r : Reply)
  | net (m : NetMsg)
  | blk (b : Blk) (route : Nat)
  deriving DecidableEq, Repr

/-- The class of a frame that is ready (R469). -/
def readyCls : Ready → Nat
  | .frame _ f => f.cls
  | .reply r => if r.safety then 6 else 4
  | .net m => m.frame.cls
  | .blk b _ => if b.typ = 0x10 then 2 else 3

/-- The type of a frame that is ready (R469). -/
def readyTyp : Ready → Nat
  | .frame _ f => f.typ
  | .reply _ => 0x10
  | .net m => m.frame.typ
  | .blk b _ => if b.typ = 0x10 then 0x20 else 0x21

/-- The origin whose turn a frame takes: its ingress port, or 6 for the hub's own (R471). -/
def readyOrigin : Ready → Nat
  | .frame o _ => o
  | _ => 6

/-- The routes of a block that leave by port p now. -/
def State.routesVia (s : State) (p : Nat) (b : Blk) : List Nat := b.left.filter (fun r => s.routePort r == some p)

/-- The blocks that wait for port p, oldest first. -/
def State.blksFor (s : State) (p : Nat) : List Blk := s.hold.blks.filter (fun b => !(s.routesVia p b).isEmpty)

/-- The replies that wait for port p. -/
def State.repliesFor (s : State) (p : Nat) : List Reply := s.cmds.linkReplies.filter (fun r => s.replyPort r.h == some p)

/-- The network trigger messages that wait for port p. -/
def State.netsFor (s : State) (p : Nat) : List NetMsg := s.hold.nets.filter (fun m => m.ports.getLsbD p)

/-- The earliest fence epoch of what the hub itself has for port p: nothing later may leave before it (R367). -/
def State.epochFor (s : State) (p : Nat) : Nat :=
  let l := (s.blksFor p).map Blk.epoch ++ (s.repliesFor p).map Reply.epoch ++ (s.netsFor p).map NetMsg.epoch
    ++ (s.cmds.linkWait.filter (fun r => s.replyPort r.h == some p)).map Reply.epoch
  l.foldl min s.cmds.epoch

/-- The blocks port p could send: not in the spill area, nor with an older block of their channel there (R415). -/
def sendable : List Blk → List Nat → List Blk
  | [], _ => []
  | b :: r, stuck =>
    if b.spilled && !b.staged then sendable r (b.ch :: stuck)
    else if stuck.contains b.ch then sendable r stuck
    else b :: sendable r stuck

/-- The credits of class c on port p (R472, R493). DEDUCED, log entry 48. -/
def State.credits (s : State) (p c : Nat) : Nat :=
  let k := s.link p
  (if c = 2 then sdiff 16 k.pGrant2 k.sent2 else sdiff 16 k.pGrant3 k.sent3).toNat

/-- Whether a class may be sent: classes 2 and 3 need a credit on a Borku port (R471, R488). -/
def State.mayCls (s : State) (p c : Nat) : Bool := s.ethMode p || (c != 2 && c != 3) || 0 < s.credits p c

/-- Whether a port may carry a frame type: a REFUSED port only hellos and LSAs, an Ethernet port only routed types and only
with COLL_MAC set (R482, R488). -/
def State.mayTyp (s : State) (p typ : Nat) : Bool :=
  if s.ethMode p then s.collMac p != 0 && (typ == 0x10 || typ == 0x20 || typ == 0x21 || typ == 0x22)
  else !(s.link p).refused || typ == 1 || typ == 4

/-- What port p could send now, in order. -/
def State.readyOn (s : State) (p : Nat) : List Ready :=
  let e := s.epochFor p
  let own := ((s.repliesFor p).filter (fun r => r.epoch == e)).map Ready.reply
    ++ ((s.netsFor p).filter (fun m => m.epoch == e)).map Ready.net
    ++ (sendable ((s.blksFor p).filter (fun b => b.epoch == e)) []).flatMap (fun b => (s.routesVia p b).map (Ready.blk b))
  (((s.link p).out.map (fun (x : Nat × Frame) => Ready.frame x.1 x.2)) ++ own).filter
    (fun x => s.mayCls p (readyCls x) && s.mayTyp p (readyTyp x))

/-- How long origin o has to wait after the one that was served last. -/
def turnDist (last o : Nat) : Nat := (o + 6 - last % 7) % 7

/-- The frame whose turn it is among those of one class: the first of the origin next in turn (R471). -/
def pickTurn (last : Nat) : List Ready → Option Ready
  | [] => none
  | x :: r =>
    match pickTurn last r with
    | none => some x
    | some y => if turnDist last (readyOrigin y) < turnDist last (readyOrigin x) then some y else some x

/-- What port p sends next: the highest class with a frame ready, its origins in turn (R471). DEDUCED, log entry 29. -/
def State.pickFrame (s : State) (p : Nat) : Option Ready :=
  let l := s.readyOn p
  let c := maxOf 0 (l.map readyCls)
  pickTurn (tget 6 (s.link p).turns c) (l.filter (fun x => readyCls x == c))

/-- A receive slot of class c of port o is granted again: its frame has left (R472). DEDUCED, log entry 48. -/
def State.grantSlot (s : State) (o c : Nat) : State :=
  if 6 ≤ o then s
  else
    let now := s.now
    s.modLink o (fun k =>
      let first : Bool := k.wait2 + k.wait3 == 0
      let k := { k with waitAt := if first then now else k.waitAt }
      if c = 2 then { k with grant2 := (k.grant2 + 1) % 2 ^ 16, wait2 := k.wait2 + 1 }
      else if c = 3 then { k with grant3 := (k.grant3 + 1) % 2 ^ 16, wait3 := k.wait3 + 1 }
      else k)

/-- A frame of class c has been sent on port p: its turn, and its credit (R471, R472). -/
def State.countSent (s : State) (p c o : Nat) : State :=
  s.modLink p (fun k =>
    let k := { k with turns := tput k.turns c o }
    if c = 2 then { k with sent2 := (k.sent2 + 1) % 2 ^ 16 }
    else if c = 3 then { k with sent3 := (k.sent3 + 1) % 2 ^ 16 }
    else k)

/-- The tag of a WCP packet replaced and its trailer computed again (R487). -/
def withTag (b : List Byte) (tag : Nat) : List Byte :=
  let body := (b.take 4 ++ be 2 tag ++ b.drop 6).take (b.length - 4)
  body ++ be 4 (crc32c body)

/-- A reply that carries a proxy tag: the entry after it, freed at the final reply (R487). DEDUCED, log entry 45. -/
def State.proxyReply (s : State) (tag status : Nat) : State :=
  match tfind s.net.proxies tag with
  | none => s
  | some x =>
    let now := s.now
    let l := if status = stAccepted then tput s.net.proxies tag { x with accepted := true, lastReply := some now }
      else if x.accepted then tdel s.net.proxies tag
      else tput s.net.proxies tag { x with lastReply := some now }
    { s with net := { s.net with proxies := l } }

/-- The WCP frame that carries packet bytes to a hub (R469). -/
def State.wcpFrame (s : State) (dest : Nat) (b : List Byte) : Frame :=
  ⟨0x10, if pktSafety b then 6 else 4, false, dest, s.hubId, 0, 0, b, true⟩

/-- The bytes of a reply on its way, its original tag restored when it leaves for a collector (R487). -/
def State.restored (s : State) (b : List Byte) : List Byte :=
  match tfind s.net.proxies (fbe b 4 2) with
  | some x => withTag b x.tag
  | none => b

/-- A reply leaves on port p (R410, R487). DEDUCED, log entry 93. -/
def State.sendReply (s : State) (p : Nat) (r : Reply) : State :=
  let mine : Bool := some r.h.source == s.net.id || 1023 ≤ r.h.source
  let b := s.replyBytesOf r
  let b := if mine then s.restored b else b
  let s := { s with cmds := { s.cmds with linkReplies := s.cmds.linkReplies.erase r } }.updWm
  let s := s.putLine p (s.wcpFrame r.h.source b)
  if mine then s.proxyReply r.h.tag r.status else s

/-- The frame of a block on route r (R486). -/
def State.blkFrame (s : State) (b : Blk) (r : Nat) : Frame :=
  let v := s.cfgN 0x01 0 (0x41F + s.usedRoute r)
  ⟨if b.typ = 0x10 then 0x20 else 0x21, if b.typ = 0x10 then 2 else 3, false, fld v 0 10, s.hubId, fld v 12 3, 0,
    blkBytes true s.hubId s.time b, true⟩

/-- Sends what is ready, the outcomes of the words read being ecc; a block stays until its last byte has left (R413, R417, R471). -/
def State.sendOne (s : State) (p : Nat) (ecc : List Ecc) (x : Ready) : State :=
  match x with
  | .frame o f =>
    let s := s.modLink p (fun k => { k with out := k.out.erase (o, f) })
    ((s.putLine p f).countSent p f.cls o).grantSlot o f.cls
  | .reply r =>
    let s := s.holdRead ecc
    if ecc.contains .bad then { s with cmds := { s.cmds with linkReplies := s.cmds.linkReplies.erase r } }.updWm
    else (s.sendReply p r).countSent p (if r.safety then 6 else 4) 6
  | .net m =>
    let left := m.ports &&& ~~~ BitVec.ofNat 6 (2 ^ p)
    let s := { s with hold := { s.hold with nets := s.hold.nets.flatMap (fun x =>
      if x = m then (if left = 0 then [] else [{ x with ports := left }]) else [x]) } }.updWm.holdRead ecc
    if ecc.contains .bad then s
    else (s.putLine p m.frame).countSent p m.frame.cls 6
  | .blk b r =>
    let s := s.holdRead ecc
    if ecc.contains .bad then s.discardBlk b
    else
      let f := s.blkFrame b r
      let s := { s with hold := { s.hold with sending := tput s.hold.sending p (b.order, r) } }
      (s.onLine p f).countSent p f.cls 6

/-- PORT_FRAME_SEND (R471): at a frame boundary of a port that is UP. -/
def execPortFrameSend (t port : Nat) (ecc : List Ecc) (s : State) : Host.Outcome State Fault Refusal :=
  onUnit .port port t s (fun s =>
    if s.carries port && (tfind s.hold.sending port).isNone then
      let s := s.admitWaiting
      match s.pickFrame port with
      | some x => s.sendOne port ecc x
      | none => s
    else s)

/-- A block has been sent whole on route r: it is freed once every route and the archive have taken it (R413). -/
def State.blockGone (s : State) (order r : Nat) : State :=
  { s with hold := { s.hold with
      blks := (s.hold.blks.map (fun (b : Blk) =>
        if b.order = order then { b with routes := b.routes &&& ~~~ BitVec.ofNat 8 (2 ^ (r - 1)) } else b)).filter
          (fun (b : Blk) => b.arch || b.routes != 0) } }.updWm

/-- BLOCK_SENT (R413). -/
def execBlockSent (t port : Nat) (s : State) : Host.Outcome State Fault Refusal :=
  onUnit .port port t s (fun s =>
    match tfind s.hold.sending port with
    | none => s
    | some (order, r) =>
      let s := { s with hold := { s.hold with sending := tdel s.hold.sending port } }
      (s.blockGone order r).bump (pid 0x03 port 0x115) 0 31)

/-! Receiving (R469, R473, R483 to R488). -/

/-- The bytes of a frame on the line (R468). -/
def frameSize (f : Frame) : Nat := 16 + f.payload.length

/-- The bytes of the receive buffer of port o that classes 4 to 7 take (R472). -/
def State.bufUsed (s : State) (o : Nat) : Nat :=
  ((List.range 6).flatMap (fun p => ((s.link p).out.filter (fun (x : Nat × Frame) => x.1 == o && 4 ≤ x.2.cls)).map
    (fun (x : Nat × Frame) => frameSize x.2))).sum

/-- Whether a frame that came in on port o finds room (R473). -/
def State.bufRoom (s : State) (o : Nat) (f : Frame) : Bool := f.cls < 4 || s.bufUsed o + frameSize f ≤ 64768

/-- A frame is discarded: counted, and its slot granted again (R469, R472, R486). -/
def State.dropFrame (s : State) (o : Nat) (f : Frame) : State := (s.rxDrop o).grantSlot o f.cls

/-- A frame for another hub goes on towards it; the ROM in recovery mode forwards nothing (R469, R473, R483, R597). -/
def State.forward (s : State) (o : Nat) (f : Frame) : State :=
  match tfind s.net.routes f.dest with
  | none => s.dropFrame o f
  | some r => if s.bufRoom o f && s.boot.phase != .recovery then s.enqueue r.1 o { f with hops := f.hops + 1 } else s.dropFrame o f

/-- A reply that the lanes build from a packet's header and send on port p (R371, R487). -/
def State.laneReply (s : State) (p : Nat) (b : List Byte) (detail : Nat) : State :=
  let h := hdrOf p b
  let r : Reply := ⟨h, fbe b 2 2, stRetry, detail, [], pktSafety b, 0⟩
  (s.countAnswer stRetry).enqueue p 6 (s.wcpFrame h.source (s.replyBytesOf r))

/-- RETRY with detail 1 to a packet for this hub while its core is away; to a collector's packet with the tag restored, which ends
its proxy entry as any final reply does (R371, R487). -/
def State.awayReply (s : State) (p : Nat) (b : List Byte) : State :=
  let h := hdrOf p b
  match s.replyPort h with
  | none => s
  | some q =>
    if some h.source = s.net.id then
      match tfind s.net.proxies h.tag with
      | some x => (s.laneReply q (withTag b x.tag) 1).proxyReply h.tag stRetry
      | none => s
    else s.laneReply q b 1

/-- Whether the core restarts or is halted, so that the lanes answer RETRY (R371); without power in PD1 the hub accepts nothing
addressed to it (R35). DEDUCED, log entry 49. -/
def State.coreAway (s : State) : Bool :=
  s.pd 1 && (s.boot.restart.isSome || s.core.st == .halted || s.core.st == .restarting || s.core.st == .outOfService)

/-- A reply from the network for a collector of this hub: its tag is restored and it leaves by the recorded port (R487). -/
def State.replyHome (s : State) (b : List Byte) : State :=
  match tfind s.net.proxies (fbe b 4 2) with
  | none => s
  | some x => (s.enqueue x.port 6 (s.wcpFrame s.hubId (withTag b x.tag))).proxyReply (fbe b 4 2) (fbe b 16 2)

/-- A WCP packet for this hub; with VDDC collapsed it accepts none, a SAFETY packet included (R35, R345, R356, R371, R487). -/
def State.deliverWcp (s : State) (p : Nat) (b : List Byte) : State :=
  if b.length < 20 ∨ crcGood b = false then s.bump (pid 0x01 0 0x301) 0 15
  else if bit (fbe b 2 2) 15 then s.replyHome b
  else if s.linkHost p b then s.bump (pid 0x01 0 0x301) 0 15
  else if !pktSafety b && s.coreAway then s.awayReply p b
  else if s.railGood .vddc && (pktSafety b || s.coreUp) then s.takePacket p b
  else s

/-- The lowest free proxy tag (R487). DEDUCED, log entry 45. -/
def State.freeTag (s : State) : Option Nat :=
  ((List.range 4096).map (0xF000 + ·)).find? (fun n => (tfind s.net.proxies n).isNone)

/-- A collector's packet: its source becomes this hub and its tag a proxy tag, which is recorded (R487). -/
def State.proxied (s : State) (p tag : Nat) (b : List Byte) : State × List Byte :=
  let old := fbe b 4 2
  let body := (b.take 4 ++ be 2 tag ++ slice b 6 4 ++ be 2 s.hubId ++ b.drop 12).take (b.length - 4)
  ({ s with net := { s.net with proxies := tput s.net.proxies tag ⟨old, p, none, false⟩ } }, body ++ be 4 (crc32c body))

/-- A broadcast frame: new, it is delivered to this hub and forwarded (R485). DEDUCED, log entry 44. -/
def State.takeBcast (s : State) (p : Nat) (f : Frame) : State :=
  if !s.bcastNew f.src f.seq then s
  else
    let s := s.bcastSeen f.src f.seq
    (s.flood p { f with hops := f.hops + 1 }).deliverWcp p f.payload

/-- A WCP frame from a collector (R487). DEDUCED, log entry 44. -/
def State.fromCollector (s : State) (p : Nat) (f : Frame) : State :=
  if f.payload.length < 20 ∨ crcGood f.payload = false then s.bump (pid 0x01 0 0x301) 0 15
  else match s.freeTag with
    | none => (s.bump (pid 0x01 0 0x410) 16 16).laneReply p f.payload 2
    | some tag =>
      let r := s.proxied p tag f.payload
      if f.bcast || f.dest == 1023 then (r.1.broadcast p 0x10 f.cls r.2).deliverWcp p r.2
      else if some f.dest = r.1.net.id then r.1.deliverWcp p r.2
      else r.1.forward p { f with payload := r.2, src := r.1.hubId }

/-- Whether a frame passes the first checks of a port: the port carries it, its CRC holds, it has hops left, and its type
is one of R469; the ROM in recovery mode takes a collector's alone (R597). -/
def State.frameOk (s : State) (p : Nat) (f : Frame) (types : List Nat) : Bool :=
  f.crcOk && decide (f.hops + 1 < 1023) && types.contains f.typ && s.mayTyp p f.typ
    && (s.boot.phase != .recovery || s.collectorUp p)

/-- A WCP or heartbeat frame on port p (R469, R483, R485, R487). -/
def State.takeWcp (s : State) (p : Nat) (f : Frame) : State :=
  if !s.frameOk p f [0x05, 0x10] then s.rxDrop p
  else if f.typ == 0x10 && s.collectorUp p then s.fromCollector p f
  else if f.bcast then s.takeBcast p f
  else if some f.dest = s.net.id then (if f.typ = 0x10 then s.deliverWcp p f.payload else s)
  else s.forward p f

/-- WCP_FRAME_RECEIVE (R469). -/
def execWcpFrameReceive (t port : Nat) (f : Frame) (s : State) : Host.Outcome State Fault Refusal :=
  onUnit .port port t s (fun s => if s.carries port then s.takeWcp port f else s)

/-- A STREAM or RECORD frame on port p: towards its border hub, or out of the collector port there (R486). -/
def State.takeStream (s : State) (p : Nat) (f : Frame) : State :=
  if !s.frameOk p f [0x20, 0x21] then s.dropFrame p f
  else if some f.dest = s.net.id then
    let q := fld f.seq 0 3
    if q < 6 ∧ s.collectorUp q = true then s.enqueue q p { f with hops := f.hops + 1 } else s.dropFrame p f
  else s.forward p f

/-- STREAM_FRAME_RECEIVE (R486). -/
def execStreamFrameReceive (t port : Nat) (f : Frame) (s : State) : Host.Outcome State Fault Refusal :=
  onUnit .port port t s (fun s => if s.carries port then s.takeStream port f else s)

/-- The network trigger message in a payload (R221). -/
def netTrigOfBytes (b : List Byte) : NetTrig :=
  ⟨fbe b 0 2, fld (fbe b 2 2) 0 10, fbe b 4 2, fld (fbe b 6 1) 0 2, fbe b 7 1, fbe b 8 4, fbe b 12 4, fbe b 16 8, fbe b 24 8⟩

/-- ETH_FRAME_RECEIVE (R488): a Borku frame in an Ethernet frame; PTP has its own event. -/
def execEthFrameReceive (t port etherType : Nat) (f : Frame) (s : State) : Host.Outcome State Fault Refusal :=
  onUnit .port port t s (fun s =>
    if !(s.carries port && s.ethMode port) then s
    else if etherType = 0x88F7 then s
    else if etherType ≠ s.cfgF 0x03 port 0x101 0 16 then s.rxDrop port
    else if f.typ = 0x10 then s.takeWcp port f
    else if f.typ = 0x20 ∨ f.typ = 0x21 then s.takeStream port f
    else if f.typ = 0x22 ∧ f.crcOk = true ∧ f.payload.length = 32 then
      s.netTrigger port f.seq f.hops (netTrigOfBytes f.payload)
    else s.rxDrop port)

/-! Discovery (R478 to R484). -/

/-- LSA_RECEIVE (R479 to R482, R485). -/
def execLsaReceive (t port : Nat) (m : Lsa) (s : State) : Host.Outcome State Fault Refusal :=
  onUnit .port port t s (fun s =>
    if s.carries port && s.borku port && m.eui != s.ident.eui && s.lsaNewer m then
      let s := (s.storeLsa m).flood port (s.lsaFrame m)
      ((s.lsaId m).refuseRefresh).routeRefresh
    else s)

/-- LSA_REFRESH (R479). -/
def execLsaRefresh (t : Nat) (s : State) : Host.Outcome State Fault Refusal :=
  at_ t s (fun s => if s.pd 13 && decide (s.net.lsaAt + 1000000000 ≤ s.now) then s.floodOwn else s)

/-- LSA_UNREACHABLE_HOLD (R479). -/
def execLsaUnreachableHold (t eui : Nat) (s : State) : Host.Outcome State Fault Refusal :=
  at_ t s (fun s =>
    match s.dbEntry eui with
    | none => s
    | some e =>
      let now := s.now
      if !e.held && (tfind s.net.routes e.lsa.id).isNone && decide (e.seenAt + 4000000000 ≤ now) then
        ({ s with net := { s.net with db := tput s.net.db eui { e with held := true, t := now } } }.netDirty).routeRefresh
      else s)

/-- A database entry is removed; an ID may be free again (R479, R482, R491). -/
def State.dropEntry (s : State) (eui : Nat) : State :=
  ({ s with net := { s.net with db := tdel s.net.db eui } }.netDirty).refuseRefresh

/-- ID_HOLD_EXPIRY (R479). -/
def execIdHoldExpiry (t eui : Nat) (s : State) : Host.Outcome State Fault Refusal :=
  at_ t s (fun s =>
    match s.dbEntry eui with
    | none => s
    | some e => if e.held && decide (e.t + s.cfgF 0x01 0 0x400 16 8 * 3600000000000 ≤ s.now) then s.dropEntry eui else s)

/-- ROUTE_RECOMPUTE (R483). -/
def execRouteRecompute (t : Nat) (s : State) : Host.Outcome State Fault Refusal :=
  at_ t s (fun s => if s.net.dirty then s.recomputeRoutes else s)

/-- Queued frames and replies for a destination are discarded, the frames counted and their slots granted again (R357,
R484). -/
def State.expireFrames (s : State) (dest : Nat) : State :=
  let here := fun (x : Nat × Frame) => !x.2.bcast && x.2.dest == dest
  let gone := (List.range 6).flatMap (fun p => ((s.link p).out.filter here).map (fun x => (p, x)))
  let s := forAll gone (fun s (g : Nat × (Nat × Frame)) =>
    s.dropFrame (if g.2.1 < 6 then g.2.1 else g.1) g.2.2) s
  let s := forAll (List.range 6) (fun s p => s.modLink p (fun k => { k with out := k.out.filter (fun x => !here x) })) s
  { s with cmds := { s.cmds with
    linkReplies := s.cmds.linkReplies.filter (fun r => r.h.source != dest)
    linkWait := s.cmds.linkWait.filter (fun r => r.h.source != dest) } }.updWm

/-- QUEUED_FRAME_EXPIRY (R484). -/
def execQueuedFrameExpiry (t dest : Nat) (s : State) : Host.Outcome State Fault Refusal :=
  at_ t s (fun s =>
    match tfind s.net.mask0Since dest with
    | none => s
    | some a =>
      if (tfind s.net.routes dest).isNone && some dest != s.net.id && decide (a + 1000000000 ≤ s.now) then s.expireFrames dest else s)

/-- PROXY_EXPIRY (R487). DEDUCED, log entry 45. -/
def execProxyExpiry (t tag : Nat) (s : State) : Host.Outcome State Fault Refusal :=
  at_ t s (fun s =>
    match tfind s.net.proxies tag with
    | none => s
    | some x =>
      match x.lastReply with
      | none => s
      | some a =>
        if a + (if x.accepted then 3600000000000 else 10000000000) ≤ s.now then
          { s with net := { s.net with proxies := tdel s.net.proxies tag } }
        else s)

/-! Opcodes of the port group (R491). -/

/-- The port of the collector that a command came from, when it was proxied by this hub (R487, R491). -/
def State.collectorOf (s : State) (h : Hdr) : Option Nat :=
  if s.net.id.isSome && some h.source == s.net.id then (tfind s.net.proxies h.tag).map Proxy.port else none

/-- The status of STREAM_ATTACH (R491). -/
def State.attachStatus (s : State) (h : Hdr) : Nat :=
  if h.stream < 1 ∨ 8 < h.stream then stParamRange
  else if (s.collectorOf h).isSome then stOk
  else stDenied

/-- The effect of STREAM_ATTACH: the route goes to this hub and the collector's port, or its VALID clears (R491). -/
def State.doAttachRoute (s : State) (h : Hdr) (detach : Bool) : State :=
  let id := pid 0x01 0 (0x41F + h.stream)
  let p := (s.collectorOf h).getD 0
  let v := if detach then setFld (s.cfgAt id) 15 1 0 else s.hubId ||| p <<< 12 ||| 1 <<< 15
  (s.setCfg id v).routeRefresh

/-- STREAM_ATTACH (R491). -/
def execStreamAttach (t : Nat) (h : Hdr) (detach : Bool) (s : State) : Host.Outcome State Fault Refusal :=
  packet 0x0900 h t s (fun s =>
    if s.attachStatus h ≠ stOk then s.finish h 0x0900 (s.attachStatus h)
    else (s.doAttachRoute h detach).finish h 0x0900 stOk)

/-- The LSA held for a hub ID and since when: this hub's own, or the database's (R491). -/
def State.lsaHeld (s : State) (id : Nat) : Option (Lsa × Nat) :=
  if some id = s.net.id then some (s.ownLsa, s.net.lsaAt)
  else ((s.net.db.map Prod.snd).find? (fun (e : DbEntry) => e.lsa.id == id && !e.lsa.claim)).map (fun e => (e.lsa, e.t))

/-- TOPOLOGY_READ (R491). -/
def execTopologyRead (t : Nat) (h : Hdr) (id : Nat) (s : State) : Host.Outcome State Fault Refusal :=
  packet 0x0901 h t s (fun s =>
    match s.lsaHeld id with
    | some (m, a) => s.finish h 0x0901 stOk 0 (lsaBytes m ++ be 4 ((s.now - a) / 1000000))
    | none => s.finish h 0x0901 stOk 1)

/-- ID_RELEASE (R491). -/
def execIdRelease (t : Nat) (h : Hdr) (id : Nat) (s : State) : Host.Outcome State Fault Refusal :=
  packet 0x0902 h t s (fun s =>
    if (tfind s.net.routes id).isSome || some id == s.net.id then s.finish h 0x0902 stDenied
    else
      let gone := (s.net.db.filter (fun (x : Nat × DbEntry) => x.2.held && x.2.lsa.id == id)).map Prod.fst
      (forAll gone State.dropEntry s).finish h 0x0902 stOk)

end Sys2Proof.Machine
end

