-- ==== Sys2Proof/Machine/FaultColl.lean ====
section
/-! DEFINITION. The meanings of the fault collector's rows: pairs, wire faults, ALIVE, the watchdog, FAULT_N, the Locket
and fences (R496 to R526). -/

namespace Sys2Proof.Machine

/-! Pairs. -/

/-- A storage port that was in use and is fenced now is lost to its partner (R421, R518). -/
def State.storeFence (s : State) (n : Nat) (was : Bool) : State :=
  if was && (s.store n).st == 6 then s.storeGone n else s

/-- Pair n is taken active: an occurrence of its source (R499, R501, R503). -/
def State.pairActive (s : State) (n : Nat) (detail : Word) : State :=
  if s.pairIgnored n then s
  else
    let s := s.wireMends n
    if (s.fsrc n).active then s
    else if n = 92 ∨ n = 93 then (s.takeOcc n detail).storeFence (n - 92) (s.inLayout (n - 92))
    else s.takeOcc n detail

/-- FAULT_PAIR_ACTIVE (R499, R503): sources 0 to 114 have pairs. -/
def execFaultPairActive (t src : Nat) (detail : Word) (s : State) : Host.Outcome State Fault Refusal :=
  onUnit .faultSource src t s (fun s => if src < 115 then s.pairActive src detail else s)

/-- FAULT_PAIR_INACTIVE (R503, R510). Source 99's pair goes inactive when firmware serves the watchdog again (R512). -/
def execFaultPairInactive (t src : Nat) (s : State) : Host.Outcome State Fault Refusal :=
  onUnit .faultSource src t s (fun s =>
    if src < 115 ∧ s.pairIgnored src = false then
      let s := s.wireMends src
      if (s.fsrc src).active then
        let s := s.pairInactive src
        if src = 99 ∧ s.coreUp then { s with faults := { s.faults with served := true } } else s
      else s
    else s)

/-- A pair becomes invalid: an occurrence of source 115 (R500). -/
def State.wireFails (s : State) (n : Nat) : State :=
  if s.pairIgnored n || s.faults.wires.contains n then s
  else
    let was := if n = 92 ∨ n = 93 then s.inLayout (n - 92) else false
    let s := { s with faults := { s.faults with wires := n :: s.faults.wires } }.takeOcc 115 (BitVec.ofNat 32 n)
    if n = 92 ∨ n = 93 then s.storeFence (n - 92) was else s

/-- WIRE_FAULT (R500). -/
def execWireFault (t pair : Nat) (s : State) : Host.Outcome State Fault Refusal :=
  onUnit .faultSource pair t s (fun s => if pair < 115 then s.wireFails pair else s)

/-! Crossings (R21, R23). -/

/-- The writes to a fenced cell that have waited 10 ms fail: the cell's fault names each item. The configured values stand: the
cell takes them when it is reloaded (R23, R93, R497, R520). DEDUCED, log entry 75. -/
def State.failWrites (s : State) (cell : Nat) : State :=
  let late := s.cmds.issued.filter (fun w => w.cell == cell && w.t + 10000000 ≤ s.now)
  let s := s.withStatus cell (fun s => { s with cmds := { s.cmds with
    issued := s.cmds.issued.filter (fun w => w.cell != cell || s.now < w.t + 10000000) } })
  forAll late (fun s w => s.reportByCore cell (cellDetail 2 (pidItem w.id.toNat))) s

/-- The members of alarm pairs on a cell's channels demand (R23, R553). -/
def State.missingAlarm (s : State) (cell : Nat) : State :=
  let here := fun (ch : Nat) => cellOfCh ch == cell
  forAll ((List.range 32).filter s.pairEn) (fun s p =>
    let c := s.pairChans p
    if here c.1 || here c.2 then
      s.pairUpdate p (fun a => { a with
        a := if here c.1 then { a.a with demand := true, run := 0 } else a.a
        b := if here c.2 then { a.b with demand := true, run := 0 } else a.b })
    else s) s

/-- The results of slots of a cell that have waited 1 ms for the trigger combiner are dropped and counted (R23, R632). -/
def State.dropResults (s : State) (cell : Nat) : State :=
  let old := fun (x : Nat) => decide (x + 1000000 ≤ s.now)
  let here := (List.range 512).filter (fun n => n % 48 == cell && (s.slot n).results.any old)
  forAll here (fun s n =>
    let k := ((s.slot n).results.filter old).length
    (s.modSlot n (fun c => { c with results := c.results.filter (fun x => !old x) })).bumpBy (pid 0x10 cell 0x140) 0 16 k) s

/-- The policy of a crossing whose patience has run out while its receiver is halted, fenced or unpowered (R21, R23).
DEDUCED, log entry 75; DESIGN CHOICE, log entry 92. -/
def State.patience (s : State) (x : Crossing) (u : Nat) : State :=
  match x with
  | .cellHold =>
    if !s.pd 2 && s.cellRuns u && !s.closed.contains (.cellHold, u) then { s with closed := (.cellHold, u) :: s.closed } else s
  | .cellTrigger => if s.pd 2 then s else s.dropResults u
  | .cfgCell => if s.cellFenced u then s.failWrites u else s
  | .holdLane => s
  | .holdStorage =>
    if (s.store u).used && s.unitFenced 4 u then (s.modStore u (fun d => { d with used := false })).storeGone u else s
  | .laneCore => if s.coreUp then s else s.bump (pid 0x03 u 0xFFF) 0 32
  | .hostCore => if s.coreUp || s.closed.contains (.hostCore, 0) then s else { s with closed := (.hostCore, 0) :: s.closed }
  | .cellSafety => if s.cellRuns u then s else s.missingAlarm u

/-- The units a crossing's sender is numbered by. -/
def crossingUnit (x : Crossing) : UnitKind :=
  match x with
  | .cellHold => .cell
  | .cellTrigger => .cell
  | .cfgCell => .cell
  | .holdLane => .port
  | .holdStorage => .storage
  | .laneCore => .port
  | .hostCore => .output
  | .cellSafety => .cell

/-- CROSSING_PATIENCE_EXPIRY (R21, R23). -/
def execCrossingPatienceExpiry (t : Nat) (x : Crossing) (unit : Nat) (s : State) : Host.Outcome State Fault Refusal :=
  onUnit (crossingUnit x) unit t s (fun s => s.patience x unit)

/-! ALIVE, the watchdog and FAULT_N (R512 to R514). -/

/-- The sources with OUT set that are latched SEVERE. -/
def State.outSevere (s : State) : List Nat :=
  (List.range 116).filter (fun n => (s.fsrc n).latched && (s.fsrc n).severe && bit (s.srcCfg n) 10)

/-- Whether the conditions of ALIVE hold: pair tests done, no such source, and the watchdog served or a window open.
DEDUCED, log entry 51. -/
def State.aliveHolds (s : State) : Bool :=
  s.faults.tested && s.outSevere.isEmpty && (s.faults.served || s.faults.window.isSome)

/-- Event ALIVE (R524). -/
def State.evAlive (s : State) (stopped : Bool) (cause : Nat) : State := s.raise 0x42 [(b2n stopped, 1), (cause, 7)]

/-- A toggle instant of ALIVE (R512). DEDUCED, log entry 51. -/
def State.aliveToggle (s : State) : State :=
  if s.aliveHolds then
    let cause := s.faults.aliveCause
    let s := { s with faults := { s.faults with alive := true, aliveLevel := !s.faults.aliveLevel, aliveCause := none } }
    match cause with
    | some c => s.evAlive false c
    | none => s
  else if s.faults.alive then
    let c := s.outSevere.headD 0x7F
    ({ s with faults := { s.faults with alive := false, aliveCause := some c } }).evAlive true c
  else s

/-- ALIVE_TOGGLE (R512): every 1 ms. -/
def execAliveToggle (t : Nat) (s : State) : Host.Outcome State Fault Refusal :=
  at_ t s (fun s =>
    if s.elapsed s.faults.aliveAt 1000000 then { s with faults := { s.faults with aliveAt := some s.now } }.aliveToggle else s)

/-- WATCHDOG_MISS (R512): firmware that should serve the watchdog has not within WD_PERIOD. -/
def execWatchdogMiss (t : Nat) (s : State) : Host.Outcome State Fault Refusal :=
  at_ t s (fun s =>
    if s.faults.served && s.faults.window.isNone then
      ({ s with faults := { s.faults with served := false } }).report 99 1
    else s)

/-- FAULT_N goes high when it may: asked for, 10 ms after the latest latch, and no source left that drives it (R514).
DEDUCED, log entry 28. -/
def State.releaseFaultN (s : State) : State :=
  if s.faults.clearAsked && s.faults.tested && s.outSevere.isEmpty && decide (s.faults.lastLatch + 10000000 ≤ s.now) then
    { s with faults := { s.faults with faultN := true, clearAsked := false } }
  else s

/-- FAULT_N_RELEASE (R514). DEDUCED, log entry 28. -/
def execFaultNRelease (t : Nat) (s : State) : Host.Outcome State Fault Refusal := at_ t s State.releaseFaultN

/-! The Locket (R507 to R511, R522, R523). -/

/-- LOCKET_COPY (R511): firmware copies a latched Locket to the boot flash once. -/
def execLocketCopy (t : Nat) (s : State) : Host.Outcome State Fault Refusal :=
  command t s (fun s =>
    if s.faults.locket.valid && !s.faults.copied then
      { s with faults := { s.faults with stored := s.faults.locket, copied := true } }
    else s)

/-- The Locket record (R523). DEDUCED, log entry 50. -/
def locketBytes (k : Locket) : List Byte :=
  be 1 k.src ++ be 1 (b2n k.severe ||| b2n k.valid <<< 1 ||| b2n k.overflow <<< 2 ||| b2n (k.later == 0xFFFF) <<< 3 ||| k.ts <<< 4)
    ++ be 1 k.island ++ zeros 1 ++ be 4 k.detail.toNat ++ be 8 k.ntime ++ be 8 k.runtime ++ be 2 k.later ++ zeros 6

/-- LOCKET_READ (R522, R511). DEDUCED, log entry 50. -/
def execLocketRead (t : Nat) (h : Hdr) (prev : Bool) (s : State) : Host.Outcome State Fault Refusal :=
  packet 0x0A00 h t s (fun s =>
    let k := if prev then s.faults.prevLocket else s.faults.locket
    s.finish h 0x0A00 stOk (b2n (!k.valid)) (locketBytes k))

/-! FAULT_CLEAR (R504, R515, R517). -/

/-- Source n cleared by command, with event 0x40 of kind 2, SEVERE clear by then, unless MASK is set (R504, R515, R524).
DEDUCED, log entry 115. -/
def State.clearSrc (s : State) (n : Nat) : State :=
  let f := s.fsrc n
  if f.latched && !f.active && !safetyClass n then
    let s := s.modFsrc n (fun f => { f with latched := false, severe := false, occ := [] })
    if bit (s.srcCfg n) 11 then s
    else s.raise 0x40 [(n, 7), (0, 1), (2, 2), (0, 1), (f.detail.toNat, 32)]
  else s

/-- The SAFE latch clears once every source that set it has LATCHED clear (R517). -/
def State.safeClear (s : State) : State :=
  let left := s.faults.safeBy.filter (fun n => (s.fsrc n).latched)
  if s.faults.safe && left.isEmpty then
    { s with faults := { s.faults with safe := false, safeBy := [] } }.safetyRefresh
  else { s with faults := { s.faults with safeBy := left } }

/-- The sources that a mask names. -/
def maskSrcs (m : BitVec 128) : List Nat := bitsOf 128 m.toNat

/-- The named sources that are still latched. -/
def State.leftLatched (s : State) (l : List Nat) : Nat := (l.filter (fun n => (s.fsrc n).latched)).length

/-- The effect of FAULT_CLEAR (R508, R514, R515). DEDUCED, log entry 28. -/
def State.faultClear (s : State) (l : List Nat) (locket faultN : Bool) : State :=
  let s := (forAll l State.clearSrc s).safeClear
  let s := if locket then { s with faults := { s.faults with locket := {}, copied := false } } else s
  if faultN then ({ s with faults := { s.faults with clearAsked := true } }).releaseFaultN else s

/-- FAULT_CLEAR (R515, R522). -/
def execFaultClear (t : Nat) (h : Hdr) (mask : BitVec 128) (locket faultN : Bool) (s : State) :
    Host.Outcome State Fault Refusal :=
  packet 0x0A01 h t s (fun s =>
    let s := s.faultClear (maskSrcs mask) locket faultN
    s.finish h 0x0A01 stOk (s.leftLatched (maskSrcs mask)))

/-! Fences by command (R520, R521). -/

/-- How many units of a kind UNFENCE may name (R522). -/
def unitKinds (kind : Nat) : Nat :=
  match kind with
  | 1 => 48
  | 2 => 6
  | 3 => 4
  | 4 => 2
  | _ => 0

/-- Whether a unit is held by its domain or lane switch, which UNFENCE cannot release (R520). -/
def State.heldUnit (s : State) (kind num : Nat) : Bool :=
  match kind with
  | 1 => !s.pd (3 + quadOf num) || !s.pd (7 + quadOf num)
  | 2 => !s.pd 13 || !bit s.switches.toNat num
  | 3 => !s.pd (3 + num) || !s.pd (7 + num)
  | _ => !s.pd 14

/-- Whether a source that fenced a unit is active. -/
def State.causeActive (s : State) (l : List Cause) : Bool :=
  l.any (fun c => match c with
    | .src n => (s.fsrc n).active
    | _ => false)

/-- UNFENCE (R520): the causes go, with event 0x41 naming the lowest, and the unit reloads. DEDUCED, log entry 98. -/
def State.unfence (s : State) (h : Hdr) (kind num : Nat) : State :=
  let l := s.causes kind num
  if unitKinds kind ≤ num || !s.unitFenced kind num then s.finish h 0x0A02 stParamRange
  else if s.causeActive l || s.heldUnit kind num then s.finish h 0x0A02 stDenied
  else if s.core.st = .resync then s.finish h 0x0A02 stRetry
  else
    let s := if l.all Cause.returning then s
      else s.raise 0x41 [(kind, 3), (num, 6), (0, 1), (lowestCause l, 7)]
    (s.setCauses kind num (.reload :: l.filter (· == .calibrate))).accept h 0x0A02 (.unfence kind num)

/-- UNFENCE (R520, R522). -/
def execUnfence (t : Nat) (h : Hdr) (kind num : Nat) (s : State) : Host.Outcome State Fault Refusal :=
  packet 0x0A02 h t s (fun s => s.unfence h kind num)

/-- A unit whose fence has ended runs again (R419, R443, R520). -/
def State.unitRuns (s : State) (kind num : Nat) : State :=
  match kind with
  | 1 => s.returnCell num
  | 2 => s.laneStart num
  | 4 => s.modStore num (fun d => { d with st := 1, attach := true })
  | _ => forAll (cellsOf num) State.returnCell s

/-- The reload of a unit ends: it runs again if no other cause of fence remains (R519, R520). DEDUCED, log entry 98. -/
def State.unfenceEnd (s : State) (kind num : Nat) : State :=
  if (s.causes kind num).contains .reload then
    let s := s.setCauses kind num ((s.causes kind num).filter (fun c => c != .reload))
    let s := if s.unitFenced kind num then s
      else s.unitRuns kind num
    s.unfenceReplies kind num
  else s

/-- UNFENCE_COMPLETE (R520): also the end of a reload that a core restart or a swap of a unit's code began (R533). -/
def execUnfenceComplete (t kind num : Nat) (s : State) : Host.Outcome State Fault Refusal :=
  command t s (fun s => s.unfenceEnd kind num)

/-- Whether a unit carries an alarm channel (R521). -/
def State.alarmUnit (s : State) (kind num : Nat) : Bool :=
  match kind with
  | 1 => s.alarmCell num
  | 3 => (cellsOf num).any s.alarmCell
  | _ => false

/-- The fence of FENCE_UNIT. -/
def State.fenceUnit (s : State) (kind num : Nat) : State :=
  if kind = 4 then (s.fence 4 num .command).storeFence num (s.inLayout num) else s.fence kind num .command

/-- FENCE_UNIT (R521, R522). -/
def execFenceUnit (t : Nat) (h : Hdr) (kind num : Nat) (s : State) : Host.Outcome State Fault Refusal :=
  packet 0x0A03 h t s (fun s =>
    if unitKinds kind ≤ num then s.finish h 0x0A03 stParamRange
    else if s.alarmUnit kind num then s.finish h 0x0A03 stDenied
    else (s.fenceUnit kind num).finish h 0x0A03 stOk)

end Sys2Proof.Machine
end

