-- ==== Sys2Proof/Machine/CorePair.lean ====
section
/-! DEFINITION. The meanings of the voted core's rows and of the hub pair's (R527 to R549). -/

namespace Sys2Proof.Machine

/-! Clasp (R529 to R535, R538). -/

/-- The core part of the state changed. -/
def State.modCore (s : State) (f : Core → Core) : State := { s with core := f s.core }

/-- CORE_STAT, which holds the resync count (R548). -/
def coreStatId : Nat := pid 0x01 0 0x500

/-- CORE_CNT, which holds the counts of halts and scrub mismatches (R548). -/
def coreCntId : Nat := pid 0x01 0 0x501

/-- The commands in progress and the deferred work are lost without a reply (R371). DEDUCED, log entries 49, 83. -/
def State.dropCommands (s : State) : State :=
  { s with cmds := { s.cmds with waiting := [], started := [], late := [], fences := [], deferred := [] } }.dropCommit

/-- The halts within the last 10 s, this one among them (R529). -/
def State.haltsNow (s : State) : List Nat := s.now :: s.core.haltsAt.filter (fun t => s.now < t + 10000000000)

/-- No two cores agree: the cores halt, and the ROM restarts them or, at the third halt within 10 s, they stay out of
service (R371, R529, R532). -/
def State.coreHalt (s : State) : State :=
  let s := s.report 98 0
  let s := s.bump coreCntId 0 15
  let l := s.haltsNow
  let s := { s.dropCommands with faults := { s.faults with served := false } }
  s.modCore (fun c => { c with
    st := if 3 ≤ l.length then .outOfService else .restarting
    duplex := false
    fails := []
    haltsAt := l })

/-- A disagreement of one core: its resync, or, with two cores in service, a halt (R529, R530). -/
def State.coreDiffers (s : State) (core : Nat) : State :=
  if s.core.duplex then s.coreHalt
  else
    let s := (s.report 97 (BitVec.ofNat 32 core)).bump coreStatId 16 16
    s.modCore (fun c => { c with st := .resync, minority := core })

/-- Whether the three cores run: PD1 is on and Clasp is in RUNNING. -/
def State.coreRuns (s : State) : Bool := s.pd 1 && s.core.st == .running

/-- CLASP_MINORITY (R529). -/
def execClaspMinority (t core : Nat) (s : State) : Host.Outcome State Fault Refusal :=
  onUnit .core core t s (fun s => if s.coreRuns then s.coreDiffers core else s)

/-- A resync of the minority core has failed; the third within 1 s leaves it in reset (R529). DEDUCED, log entry 52. -/
def State.resyncFails (s : State) : State :=
  let m := s.core.minority
  let l := (m, s.now) :: s.core.fails.filter (fun (x : Nat × Nat) => s.now < x.2 + 1000000000)
  if 3 ≤ (l.filter (fun (x : Nat × Nat) => x.1 == m)).length then
    s.modCore (fun c => { c with st := .running, duplex := true, heldOut := m, fails := [] })
  else s.modCore (fun c => { c with fails := l })

/-- CORE_RESYNC_COMPLETE (R529, R530): a failed check repeats the copy. DEDUCED, log entry 52. -/
def execCoreResyncComplete (t : Nat) (ok : Bool) (s : State) : Host.Outcome State Fault Refusal :=
  at_ t s (fun s =>
    if s.core.st = .resync then
      if ok then s.modCore (fun c => { c with st := .running }) else s.resyncFails
    else s)

/-- CLASP_DOUBLE_DISAGREEMENT (R529). -/
def execClaspDoubleDisagreement (t : Nat) (s : State) : Host.Outcome State Fault Refusal :=
  at_ t s (fun s => if s.pd 1 && (s.core.st == .running || s.core.st == .resync) then s.coreHalt else s)

/-- SCRUB (R538): once per second; a mismatch is a single disagreement, and is counted. -/
def execScrub (t : Nat) (mismatch : Option Nat) (s : State) : Host.Outcome State Fault Refusal :=
  let run := fun (s : State) =>
    if s.coreRuns && decide (s.core.scrubAt + 1000000000 ≤ s.now) then
      let now := s.now
      let s := s.modCore (fun c => { c with scrubAt := now })
      match mismatch with
      | some k => (s.bump coreCntId 16 15).coreDiffers k
      | none => s
    else s
  match mismatch with
  | some k => onUnit .core k t s run
  | none => at_ t s run

/-! Heartbeats (R540, R541). -/

/-- The pair part of the state changed. -/
def State.modHub2 (s : State) (f : Pair → Pair) : State := { s with pair := f s.pair }

/-- Whether the heartbeat says that this hub leads: it leads and is not yielding (R490, R542). -/
def State.saysLead (s : State) : Bool := s.time.isLead && !s.pair.yielding

/-- The payload of a heartbeat with sequence q (R490). -/
def State.heartbeatBytes (s : State) (q : Nat) : List Byte :=
  be 2 s.hubId ++ be 2 q ++ be 1 (b2n s.saysLead) ++ be 1 s.tstate ++ be 1 s.time.island ++ zeros 1 ++ be 8 s.ntime

/-- Whether a whole millisecond of the hub's timescale begins now (R540). -/
def State.wholeMs (s : State) : Bool := decide (s.stampOf (s.now - 1) / 1000000 < s.stamp / 1000000)

/-- HEARTBEAT_SEND (R540): a routed frame, so without a path to the partner none leaves. -/
def execHeartbeatSend (t : Nat) (s : State) : Host.Outcome State Fault Refusal :=
  at_ t s (fun s =>
    let p := s.partner
    if s.net.id.isNone ∨ p = 1023 ∨ s.wholeMs = false then s
    else
      let q := (s.pair.txSeq + 1) % 2 ^ 16
      let b := s.heartbeatBytes q
      let s := s.modHub2 (fun x => { x with txSeq := q })
      match tfind s.net.routes p with
      | some r => s.enqueue r.1 6 ⟨5, 7, false, p, s.hubId, 0, 0, b, true⟩
      | none => s)

/-- Whether a heartbeat is accepted (R540). -/
def State.hbAccepts (s : State) (m : Heartbeat) : Bool :=
  s.partner != 1023 && m.src == s.partner
    && (match s.pair.rxSeq with
      | none => true
      | some q => decide (0 < sdiff 16 m.seq q))

/-- The partner is present again (R541). DEDUCED, log entry 53. -/
def State.partnerBack (s : State) : State :=
  let s := s.modHub2 (fun x => { x with st := 1 })
  (s.pairEnds 114).routeRefresh

/-- Whether the partner's yield hands lead to this hub (R543). -/
def State.yieldToMe (s : State) (m : Heartbeat) : Bool :=
  s.pair.partnerLeads && !m.leads && s.timePair && !s.time.isLead && s.time.state == .locked && s.time.island == m.island
    && s.time.refclkOk && !s.pair.yielding

/-- A heartbeat is accepted (R541, R543): three in consecutive periods bring a lost partner back.
DEDUCED, log entry 53. -/
def State.hbTake (s : State) (m : Heartbeat) : State :=
  let now := s.now
  let mine := s.yieldToMe m
  let run := if now < s.pair.lastRx + 2000000 then s.pair.run + 1 else 1
  let s := s.modHub2 (fun x => { x with rxSeq := some m.seq, lastRx := now, run := run, partnerLeads := m.leads })
  let s := if s.pair.st = 0 ∨ (s.pair.st = 2 ∧ 3 ≤ run) then s.partnerBack else s
  if mine then s.takeLead s.time.island else s

/-- HEARTBEAT_RECEIVE (R540). -/
def execHeartbeatReceive (t port : Nat) (m : Heartbeat) (s : State) : Host.Outcome State Fault Refusal :=
  onUnit .port port t s (fun s =>
    if !s.carries port then s
    else if s.hbAccepts m then s.hbTake m
    else s.rxDrop port)

/-- PARTNER_LOSS (R541, R547). DEDUCED, log entry 53. -/
def execPartnerLoss (t : Nat) (s : State) : Host.Outcome State Fault Refusal :=
  at_ t s (fun s =>
    if s.partner = 1023 ∨ s.net.id.isNone ∨ s.pair.st = 2 ∨ s.now < s.pair.lastRx + 3000000 then s
    else
      let s := s.modHub2 (fun x => { x with st := 2, run := 0 })
      ((s.report 114 (BitVec.ofNat 32 s.partner)).bump (pid 0x01 0 0x513) 16 16).routeRefresh)

/-! Yield (R542, R543). -/

/-- PAIR_CTL. -/
def pairCtlId : Nat := pid 0x01 0 0x512

/-- PAIR_CTL_YIELD (R542, R548). -/
def execPairCtlYield (t : Nat) (h : Hdr) (s : State) : Host.Outcome State Fault Refusal :=
  itemCommand pairCtlId 1 h t s (fun s => if s.timePair && s.time.isLead then stOk else stDenied) State.yieldLead

/-- Whether a cause to yield persists: REFCLK is lost, or source 58 or 111 is active (R542, R543).
DEDUCED, log entry 54. -/
def State.yieldCause (s : State) : Bool := !s.time.refclkOk || (s.fsrc 58).active || (s.fsrc 111).active

/-- YIELD_TIMEOUT (R543): the partner has not announced itself, and this hub is lead again. -/
def execYieldTimeout (t : Nat) (s : State) : Host.Outcome State Fault Refusal :=
  at_ t s (fun s =>
    if !s.pair.yielding || decide (s.now < s.pair.yieldAt + 3000000) then s
    else
      let again := if s.yieldCause then some (s.now + 1000000000) else none
      (s.modHub2 (fun x => { x with yielding := false, retryAt := again })).evTime 2)

/-- YIELD_RETRY (R543). DEDUCED, log entry 54. -/
def execYieldRetry (t : Nat) (s : State) : Host.Outcome State Fault Refusal :=
  at_ t s (fun s =>
    match s.pair.retryAt with
    | none => s
    | some r =>
      if s.now < r then s
      else
        let s := s.modHub2 (fun x => { x with retryAt := none })
        if s.yieldCause then s.yieldLead else s)

end Sys2Proof.Machine
end

