-- ==== Sys2Proof/Machine/SafetyUnit.lean ====
section
/-! DEFINITION. The meanings of the safety unit's rows: alarm pairs, safety inputs, NSL connections, the signet and the
output switches (R550 to R576). -/

namespace Sys2Proof.Machine

/-! Alarm pairs (R553, R554). -/

/-- The condition and re-arm test of pair p on value x (R202, R553). DEDUCED, log entry 60. -/
def State.pairVerdict (s : State) (p : Nat) (x : Int) : Verdict :=
  let a := signed 32 (s.cfgN 0x06 0 (0x101 + 8 * p))
  let b := signed 32 (s.cfgN 0x06 0 (0x102 + 8 * p))
  let h : Int := s.cfgN 0x06 0 (0x103 + 8 * p)
  match fld (s.pairCfg p) 28 3 with
  | 1 => levelVerdict 1 false a b h x
  | 2 => levelVerdict 1 true a b h x
  | _ => levelVerdict 2 false a b h x

/-- A member after a value, or after none within its patience (R553): a skipped invalid value leaves the HOLD run as it
is. DEDUCED, log entry 60. -/
def State.memberStep (s : State) (p : Nat) (v : Option CoarseVal) (m : PairMember) : PairMember :=
  match v with
  | none => { m with demand := true, run := 0 }
  | some c =>
    if c.clip || c.sensor then { m with demand := true, run := 0, invalid := 0 }
    else if !c.valid then { m with demand := m.demand || decide (2 ≤ m.invalid), invalid := m.invalid + 1 }
    else
      let d := s.pairVerdict p (signed 32 c.v.toNat)
      let run := if d.met then m.run + 1 else 0
      { demand := if d.met && decide (s.cfgF 0x06 0 (0x104 + 8 * p) 0 4 ≤ run) then true
          else if d.rearm then false else m.demand
        run := run
        invalid := 0 }

/-- PAIR_MEMBER_VALUE (R553). -/
def execPairMemberValue (t pair : Nat) (memberB : Bool) (v : Option CoarseVal) (s : State) :
    Host.Outcome State Fault Refusal :=
  onUnit .pair pair t s (fun s =>
    if s.running && s.pairEn pair then
      s.pairUpdate pair (fun (x : AlarmPair) =>
        if memberB then { x with b := s.memberStep pair v x.b } else { x with a := s.memberStep pair v x.a })
    else s)

/-- PAIR_DISCREPANCY (R554). -/
def execPairDiscrepancy (t pair : Nat) (s : State) : Host.Outcome State Fault Refusal :=
  onUnit .pair pair t s (fun s =>
    match (s.apair pair).differSince with
    | some d =>
      if s.pairEn pair && decide (d + s.cfgF 0x06 0 (0x104 + 8 * pair) 16 10 * 1000000 < s.now) then
        s.pairUpdate pair (fun (x : AlarmPair) => { x with disc := true })
      else s
    | none => s)

/-! Safety inputs (R555, R556). -/

/-- FILT of input x in ns. -/
def State.siFilt (s : State) (x : Nat) : Nat := fld (s.siCfg x) 12 3 * 1000000

/-- SI_CHANGE (R555): the levels of both channels. -/
def execSiChange (t si : Nat) (a b : Bool) (s : State) : Host.Outcome State Fault Refusal :=
  onUnit .safetyInput si t s (fun s =>
    let now := s.now
    let s := if (s.si si).disc && a == b then s.pairEnds (102 + si) else s
    s.modSi si (fun c => { c with
      a := a
      b := b
      sinceA := if c.a = a then c.sinceA else now
      sinceB := if c.b = b then c.sinceB else now
      disc := c.disc && a != b }))

/-- The start-up test goes on when SI1 has stood for FILT: low on both channels, then high on both (R556).
DEDUCED, log entry 61. -/
def State.startTestStep (s : State) (low high : Bool) : State :=
  if s.safety.startTest then s
  else if low then { s with safety := { s.safety with testLow := true } }
  else if high && s.safety.testLow then
    ({ s with safety := { s.safety with startTest := true } }.raise 0x56 []).safetyRefresh
  else s

/-- Event SI when the demand of input x changes; the outputs follow (R555, R566, R574). -/
def State.siDemand (s : State) (x : Nat) (d : Bool) : State :=
  if (s.si x).demand = d then s
  else ((s.modSi x (fun c => { c with demand := d })).raise 0x52 [(x, 2), (b2n d, 1)]).safetyRefresh

/-- An input is looked at when its filter time has passed (R555). -/
def State.siFilter (s : State) (x : Nat) : State :=
  let c := s.si x
  let oldA : Bool := decide (c.sinceA + s.siFilt x ≤ s.now)
  let oldB : Bool := decide (c.sinceB + s.siFilt x ≤ s.now)
  let low := (oldA && !c.a) || (oldB && !c.b)
  let high := oldA && oldB && c.a && c.b
  let s := if low then s.siDemand x (s.siEn x) else if high then s.siDemand x false else s
  if x = 1 && !c.disc then s.startTestStep (oldA && oldB && !c.a && !c.b) high else s

/-- SI_FILTER_EXPIRY (R555, R556). -/
def execSiFilterExpiry (t si : Nat) (s : State) : Host.Outcome State Fault Refusal :=
  onUnit .safetyInput si t s (fun s => s.siFilter si)

/-- SI_DISCREPANCY (R555): a discrepancy on SI1 starts the start-up test again (R556). DEDUCED, log entry 61. -/
def execSiDiscrepancy (t si : Nat) (s : State) : Host.Outcome State Fault Refusal :=
  onUnit .safetyInput si t s (fun s =>
    let c := s.si si
    if s.siEn si && c.a != c.b && !c.disc
        && decide (max c.sinceA c.sinceB + fld (s.siCfg si) 0 10 * 1000000 < s.now) then
      let s := (s.modSi si (fun c => { c with disc := true })).bump (pid 0x06 0 (0x028 + si)) 16 16
      let s := if si = 1 && !s.safety.startTest then { s with safety := { s.safety with testLow := false } } else s
      s.report (102 + si) (BitVec.ofNat 32 (b2n c.a ||| b2n c.b <<< 1))
    else s)

/-! NSL connections (R557 to R563). -/

/-- The connection with EN set that carries an identity (R560). DEDUCED, log entry 62. -/
def State.nslFind (s : State) (ident : Nat) : Option Nat :=
  if ident = 0 then none
  else (List.range 16).find? (fun c => bit (s.nslCfg c) 16 && s.cfgN 0x06 0 (0x201 + 8 * c) == ident)

/-- NSL_WD of connection c in ms. -/
def State.nslWd (s : State) (c : Nat) : Nat := s.cfgF 0x06 0 (0x202 + 8 * c) 0 14

/-- An NSL frame (R558). -/
def nslFrame (kind seq ident wd : Nat) (payload : List Byte) : List Byte :=
  let b := be 1 1 ++ be 1 kind ++ be 2 seq ++ be 4 ident ++ be 2 wd ++ be 2 payload.length ++ payload
  b ++ be 4 (crcNsl b)

/-- The checks of R560 on a frame for connection c: CRC, version, source, watchdog time, length against the kind that the
opcode carries, command byte and, for DATA, the sequence. DEDUCED, log entry 62. -/
def State.nslOk (s : State) (op : Nat) (h : Hdr) (c : Nat) (b : List Byte) : Bool :=
  let kind := fbe b 1 1
  let m := fbe b 10 2
  let k := s.nsl c
  decide (16 ≤ b.length) && crcNsl (b.take (b.length - 4)) == fbe b (b.length - 4) 4
    && fbe b 0 1 == 1
    && h.source == fld (s.nslCfg c) 0 10
    && fbe b 8 2 == s.nslWd c
    && (if op = 0x0B03 then (kind == 1 || kind == 4) && m == 0 else kind == 3 && m == 8) && b.length == 16 + m
    && (kind != 3 || (fbe b 12 1 == fld op 0 8 && k.st == 1
      && decide (1 ≤ sdiff 16 (fbe b 2 2) k.rx ∧ sdiff 16 (fbe b 2 2) k.rx ≤ 8)))

/-- Event NSL (R574). DEDUCED, log entry 103. -/
def State.evNsl (s : State) (c kind gap : Nat) : State := s.raise 0x53 [(c, 4), (kind, 3), (gap, 8)]

/-- The payload of the hub's frame (R558). -/
def State.nslPayload (s : State) (command result : Nat) : List Byte :=
  let y := s.safety
  let flags := b2n (y.so0.st == .on) ||| b2n (y.so1.st == .on) <<< 1 ||| b2n y.confirmed <<< 2 ||| b2n y.startTest <<< 3
    ||| b2n s.faults.safe <<< 4
  let pairs := maskOf ((List.range 32).filter (fun p => s.pairEn p && s.pairDemands p))
  let dem := maskOf ((List.range 4).filter (fun x => (s.si x).demand))
  let disc := maskOf ((List.range 4).filter (fun x => (s.si x).disc))
  let out := maskOf ((List.range 16).filter (fun c => (s.nsl c).st == 2))
  be 1 command ++ be 1 result ++ be 1 flags ++ zeros 1 ++ be 4 y.signet.toNat ++ be 4 pairs ++ be 1 (dem ||| disc <<< 4)
    ++ zeros 1 ++ be 2 out

/-- CONFIRM_SIGNET's effect and hub result (R565): without a committed image no signet is in force.
DEDUCED, log entry 63. -/
def State.confirmSignet (s : State) (arg : Nat) : State × Nat :=
  let sig := s.safety.signet
  if s.running && arg == sig.toNat then
    let s := { s with safety := { s.safety with confirmed := true }, boot := { s.boot with signetConf := some sig } }
    ((s.raise 0x55 [(1, 2), (sig.toNat, 32)]).safetyRefresh, 0)
  else ((s.report 107 2).raise 0x55 [(3, 2), (arg, 32)], 2)

/-- A safety-class source cleared by the reset command (R515, R558). DEDUCED, log entry 115. -/
def State.clearSafetySrc (s : State) (n : Nat) : State :=
  let f := s.fsrc n
  if f.latched && !f.active && safetyClass n then
    (s.modFsrc n (fun f => { f with latched := false, severe := false, occ := [] })).raise 0x40
      [(n, 7), (0, 1), (2, 2), (0, 1), (f.detail.toNat, 32)]
  else s

/-- Output x named by a SAFETY_RESET: its demand latch clears once nothing demands, and FAULT ends when safety-class
sources are cleared too and its own is inactive (R566, R568). DEDUCED, log entry 64. -/
def State.resetSo (s : State) (x : Nat) (clear : Bool) : State :=
  let s := if s.outDemand x then s else s.modSo x (fun o => { o with latch := false })
  if (s.so x).st = .fault ∧ clear = true ∧ (s.fsrc (100 + x)).active = false then s.soState x .off else s

/-- SAFETY_RESET's effect (R558, R566, R568). DEDUCED, log entry 64. -/
def State.safetyReset (s : State) (arg : Nat) : State :=
  let clear := bit arg 2
  let s := if clear then (forAll (List.range 116) State.clearSafetySrc s).safeClear else s
  let s := if bit arg 0 then s.resetSo 0 clear else s
  let s := if bit arg 1 then s.resetSo 1 clear else s
  s.safetyRefresh

/-- The effect of an accepted DATA frame's command: the state, the hub result and the WCP status (R559, R563, R565). -/
def State.nslCommand (s : State) (op c arg : Nat) : State × Nat × Nat :=
  if op = 0x0B00 then (s, 0, stOk)
  else if !bit (s.nslCfg c) 19 then (s, 1, stDenied)
  else if op = 0x0B01 then
    let r := s.confirmSignet arg
    (r.1, r.2, if r.2 = 0 then stOk else stSignetMismatch)
  else (s.safetyReset arg, 0, stOk)

/-- An accepted frame on connection c: the state, the WCP status and the hub's frame (R559 to R563).
DEDUCED, log entries 62, 103. -/
def State.nslTake (s : State) (op c : Nat) (b : List Byte) : State × Nat × List Byte :=
  let now := s.now
  let seq := fbe b 2 2
  let ident := fbe b 4 4
  let wd := s.nslWd c
  match fbe b 1 1 with
  | 1 =>
    let s := s.modNsl c (fun k => { k with st := 1, rx := seq, tx := 0, permit := 0, seenData := false, last := now })
    ((s.evNsl c 1 0).safetyRefresh, stOk, nslFrame 2 0 ident wd [])
  | 4 =>
    let s := s.modNsl c (fun k => { k with st := 0, seenData := false, permit := 0 })
    ((s.evNsl c 2 0).safetyRefresh, stOk, [])
  | _ =>
    let gap := (sdiff 16 seq (s.nsl c).rx).toNat - 1
    let tx := ((s.nsl c).tx + 1) % 2 ^ 16
    let s := s.modNsl c (fun k => { k with
      rx := seq, tx := tx, permit := BitVec.ofNat 2 (fbe b 13 1), seenData := true, last := now })
    let s := if gap = 0 then s else s.evNsl c 4 gap
    let r := s.safetyRefresh.nslCommand op c (fbe b 16 4)
    (r.1, r.2.2, nslFrame 3 tx ident wd (r.1.nslPayload (fbe b 12 1) r.2.1))

/-- A safety packet reaches the safety unit (R557, R559, R560): a frame that fails a check is discarded without a reply
and counted on its connection. -/
def State.nslPacket (s : State) (op : Nat) (h : Hdr) (b : List Byte) : State :=
  let s := s.endCmd h op
  match s.nslFind (fbe b 4 4) with
  | none => s
  | some c =>
    if s.nslOk op h c b then
      let r := s.nslTake op c b
      r.1.answer h op r.2.1 0 r.2.2 true
    else s.bump (pid 0x06 0 (0x203 + 8 * c)) 16 16

/-- NSL_CYCLE (R559). -/
def execNslCycle (t : Nat) (h : Hdr) (bytes : List Byte) (s : State) : Host.Outcome State Fault Refusal :=
  at_ t s (fun s => s.nslPacket 0x0B00 h bytes)

/-- CONFIRM_SIGNET (R559, R565). -/
def execConfirmSignet (t : Nat) (h : Hdr) (bytes : List Byte) (s : State) : Host.Outcome State Fault Refusal :=
  at_ t s (fun s => s.nslPacket 0x0B01 h bytes)

/-- SAFETY_RESET (R559, R566, R568). -/
def execSafetyReset (t : Nat) (h : Hdr) (bytes : List Byte) (s : State) : Host.Outcome State Fault Refusal :=
  at_ t s (fun s => s.nslPacket 0x0B02 h bytes)

/-- NSL_OPEN (R559, R560). -/
def execNslOpen (t : Nat) (h : Hdr) (bytes : List Byte) (s : State) : Host.Outcome State Fault Refusal :=
  at_ t s (fun s => s.nslPacket 0x0B03 h bytes)

/-- NSL_TIMEOUT (R562). -/
def execNslTimeout (t conn : Nat) (s : State) : Host.Outcome State Fault Refusal :=
  onUnit .connection conn t s (fun s =>
    let k := s.nsl conn
    if bit (s.nslCfg conn) 16 && k.st == 1 && decide (k.last + s.nslWd conn * 1000000 ≤ s.now) then
      let s := (s.modNsl conn (fun k => { k with st := 2 })).evNsl conn 3 0
      (s.report 106 (BitVec.ofNat 32 conn)).safetyRefresh
    else s)

/-! The output switches (R568, R569). -/

/-- RB_T in ns. DEDUCED, log entry 65. -/
def State.rbT (s : State) : Nat := s.cfgF 0x06 0 1 0 6 * 10000

/-- A test pulse passes (R568). -/
def State.testPass (s : State) (x : Nat) : State := (s.soResult x (s.so x).side 1).soOn x

/-- A test pulse fails: off, FAULT, source 100 + x with case 3 (R568, R569). -/
def State.testFail (s : State) (x : Nat) : State :=
  let d := (s.so x).side
  (s.soResult x d 2).soFault x d 3

/-- A readback of output x changes (R568). DEDUCED, log entry 65. -/
def State.readback (s : State) (x : Nat) (hrb lrb : Bool) : State :=
  let now := s.now
  let o := s.so x
  let fresh : Bool := (o.st == .on || o.st == .off) && o.hrb == o.hs && o.lrb == o.ls && (hrb != o.hs || lrb != o.ls)
  let s := s.modSo x (fun o => { o with hrb := hrb, lrb := lrb, since := if fresh then now else o.since })
  match o.st with
  | .starting =>
    if o.hs then if hrb then s.soOn x else s
    else if lrb then (s.soDrive x true true).modSo x (fun o => { o with since := now }) else s
  | .testing =>
    let rb := if o.side = 0 then hrb else lrb
    if o.tpEnded then if rb then s.testPass x else s
    else if rb then s else s.modSo x (fun o => { o with sawLow := true })
  | .fault => s.soQuiet x
  | _ => s

/-- SO_READBACK (R551, R568). -/
def execSoReadback (t so : Nat) (hrb lrb : Bool) (s : State) : Host.Outcome State Fault Refusal :=
  onUnit .output so t s (fun s => s.readback so hrb lrb)

/-- The case of a readback that differs from its drive (R569). DEDUCED, log entry 65. -/
def stuckCase (rb : Bool) : Nat := if rb then 1 else 2

/-- RB_T has passed (R568). DEDUCED, log entry 65. -/
def State.rbExpiry (s : State) (x : Nat) : State :=
  let o := s.so x
  if s.now < o.since + s.rbT then s
  else match o.st with
    | .starting => if o.hs then s.soFault x 0 2 else s.soFault x 1 2
    | .testing => if o.tpEnded then s.testFail x else if o.sawLow then s else s.testFail x
    | .fault => s
    | _ =>
      if s.now = o.since + s.rbT then s
      else if o.hrb != o.hs then s.soFault x 0 (stuckCase o.hrb)
      else if o.lrb != o.ls then s.soFault x 1 (stuckCase o.lrb)
      else s

/-- RB_T_EXPIRY (R568, R569). -/
def execRbTExpiry (t so : Nat) (s : State) : Host.Outcome State Fault Refusal := onUnit .output so t s (fun s => s.rbExpiry so)

/-- TP_WIDTH_END (R568): the switch is driven again. -/
def execTpWidthEnd (t so : Nat) (s : State) : Host.Outcome State Fault Refusal :=
  onUnit .output so t s (fun s =>
    let o := s.so so
    if o.st = .testing ∧ o.tpEnded = false ∧ o.since + s.cfgF 0x06 0 0 16 7 * 10000 ≤ s.now then
      if o.sawLow then
        let now := s.now
        (s.soDrive so true true).modSo so (fun o => { o with tpEnded := true, since := now })
      else s.testFail so
    else s)

end Sys2Proof.Machine
end

