-- ==== Sys2Proof/Machine/BootOps.lean ====
section
/-! DEFINITION. Firmware slots and the restart of the core (R533, R583, R594 to R596, R599). -/

namespace Sys2Proof.Machine

/-- The boot part of the state changed. -/
def State.modBoot (s : State) (f : Boot → Boot) : State := { s with boot := f s.boot }

/-- The code of a slot state, in the order of R583 (R592). -/
def SlotSt.num : SlotSt → Nat
  | .empty => 0
  | .opened => 1
  | .written => 2
  | .verified => 3
  | .trial => 4
  | .good => 5
  | .bad => 6

/-- Slot n enters a state, with event SLOT (R583, R599). -/
def State.setSlot (s : State) (n : Nat) (st : SlotSt) : State :=
  if (s.fw n).st = st then s
  else (s.modFw n (fun w => { w with st := st })).raise 0x71 [(n, 1), (st.num, 3), ((s.fw n).code, 4)]

/-- Event START (R599). -/
def State.evStart (s : State) (cause slot : Nat) : State :=
  s.raise 0x70 [(cause, 2), (slot, 1), ((s.fw slot).version.toNat, 32)]

/-- The staging area empties (R381). DEDUCED, log entry 83. -/
def State.emptyStaging (s : State) : State :=
  { s with image := { s.image with
      owner := none, gen := 0, len := 0, words := [], verifying := false, verified := false } }

/-- A CORE_RESTART fires for slot n (R595): the commands in progress stop and stand in the handover record, the cores are
held in reset while PD1 is switched off and on, the restart window opens, and the slot enters TRIAL unless it is the active
one. DEDUCED, log entry 58. -/
def State.fireRestart (s : State) (n : Nat) : State :=
  let now := s.now
  let left := s.cmds.waiting ++ s.cmds.started.filter (fun p => !p.safety)
  let s := { s with cmds := { s.cmds with
    waiting := [], started := s.cmds.started.filter Pkt.safety, late := [], fences := [] } }
  let s := s.modBoot (fun b => { b with restart := some ⟨n, b.running, now, false, left⟩ })
  let s := { s with
    core := { s.core with st := .restarting, duplex := false, fails := [] }
    faults := { s.faults with window := some (now + 500000000), served := false } }
  let s := ((s.evDomain 1 false).evDomain 1 true).emptyStaging.dropCommit
  if n = s.boot.active then s else s.setSlot n .trial

end Sys2Proof.Machine
end

