-- ==== Sys2Proof/Machine/Actions.lean ====
section
/-! DEFINITION. Scheduled actions: acceptance, arming, firing and dropping (R266 to R274, R393, R535, R568, R570,
R594). -/

namespace Sys2Proof.Machine

/-- ARG k of an entry. -/
def Act.arg (a : Act) (k : Nat) : Nat := (a.args.getD k 0).toNat

/-- Whether an entry is held or armed; it is free otherwise (R267). -/
def Act.busy (a : Act) : Bool := a.st == .held || a.st == .armed

/-- Whether an entry of a kind is held or armed, the entry n aside. -/
def State.pendingKind (s : State) (kind n : Nat) : Bool :=
  (List.range 64).any (fun k => k != n && (s.act k).busy && (s.act k).kind == kind)

/-- The gaits of a SWAP entry. -/
def Act.gaits (a : Act) : List Nat := bitsOf 8 (a.arg 0)

/-- The status of the checks of a SWAP: that of its first gait that fails (R140). -/
def State.swapsStatus (s : State) (a : Act) : Nat :=
  ((a.gaits.map s.swapStatus).find? (fun st => st != stOk)).getD stOk

/-- The check of an entry's type (R266, R268, R324, R383, R594); the spec names none for GAIT. -/
def State.typeStatus (s : State) (n : Nat) (a : Act) : Nat :=
  match a.kind with
  | 1 => if 6 ≤ fld (a.arg 0) 0 3 then stParamRange else stOk
  | 4 => s.swapsStatus a
  | 5 => s.osMaskStatus (fld (a.arg 0) 0 16)
  | 7 =>
    if s.pendingKind 8 n then stRetry
    else if s.image.verified && a.arg 0 == s.image.gen && decide (s.counterOf a + 200000000 ≤ a.target) then stOk
    else stParamRange
  | 8 =>
    if s.pendingKind 7 n then stRetry
    else if s.pendingKind 8 n then stParamRange
    else if decide (a.arg 0 ≤ 1) && ((s.fw (a.arg 0)).st == .verified || a.arg 0 == s.boot.running) then stOk
    else stParamRange
  | _ => stOk

/-- The status and the reason code of accepting entry n (R268, R273, R393). -/
def State.acceptStatus (s : State) (n : Nat) : Nat × Nat :=
  let a := s.act n
  if a.kind = 0 ∨ 8 < a.kind then (stParamRange, 1)
  else if s.running = false ∧ 2 ≤ a.kind ∧ a.kind ≤ 6 then (stNotCommitted, 5)
  else if a.onRuntime = false ∧ s.time.state = .unlocked then (stRetry, 2)
  else if a.target < s.counterOf a + 20000 then (stParamRange, 3)
  else if a.kind = 2 ∧ a.target % basePeriod ≠ 0 then (stParamRange, 4)
  else if s.typeStatus n a ≠ stOk then (s.typeStatus n a, 5)
  else (stOk, 0)

/-- An accepted entry: armed when T lies at most 2^31 ns ahead, else held (R269). -/
def State.takeAct (s : State) (n : Nat) : State :=
  let near : Bool := decide ((s.act n).target ≤ s.counterOf (s.act n) + 2 ^ 31)
  s.modAct n (fun a => { a with st := if near then .armed else .held, reason := 0 })

/-- The reason of a rejection stands in ACT_STAT (R267, R273). DEDUCED, log entry 57. -/
def State.noteReason (s : State) (n r : Nat) : State := s.modAct n (fun a => { a with reason := r })

/-- SCHEDULE (R268, R349, R356): the lowest free entry takes what is sent, and where its checks fail only the reason; a word with a
reserved bit set is no ACT_TYPE. DEDUCED, log entry 57. -/
def State.schedule (s : State) (h : Hdr) (typ : Word) (target : Nat) (args : List Word) : State :=
  if typ &&& 0x7F ≠ typ then s.finish h 0x0500 stParamRange
  else match s.freeAct with
    | none => s.finish h 0x0500 stNoSpace
    | some n =>
      let x := s.modAct n (fun a => { a with
        typ := typ
        target := wrap 64 target
        args := [args.getD 0 0, args.getD 1 0, args.getD 2 0, args.getD 3 0]
        st := .free })
      let r := x.acceptStatus n
      if r.1 ≠ stOk then (s.noteReason n r.2).finish h 0x0500 r.1
      else
        let s := x.takeAct n
        s.finish h 0x0500 stOk 0 (be 1 n ++ be 1 (if (s.act n).st = .armed then 2 else 1) ++ zeros 2)

/-- SCHEDULE (R268, R349). -/
def execSchedule (t : Nat) (h : Hdr) (typ : Word) (target : Nat) (args : List Word) (s : State) :
    Host.Outcome State Fault Refusal :=
  packet 0x0500 h t s (fun s => s.schedule h typ target args)

/-- ACT_CTL of entry n. -/
def actCtlId (n : Nat) : Nat := pid 0x02 (0x100 + n) 7

/-- The status and reason of a write of 1 to ACT_CTL: an entry already held or armed is not accepted again.
DEDUCED, log entry 57. -/
def State.ctlStatus (s : State) (n : Nat) : Nat × Nat :=
  if (s.act n).busy then (stDenied, (s.act n).reason) else s.acceptStatus n

/-- ACT_ACCEPT (R267 to R269). DEDUCED, log entry 57. -/
def execActAccept (t : Nat) (h : Hdr) (entry : Nat) (s : State) : Host.Outcome State Fault Refusal :=
  packet opWriteParam h t s (fun s =>
    if 64 ≤ entry then s.finish h opWriteParam stParamRange
    else
      let r := s.ctlStatus entry
      if r.1 ≠ stOk then (s.noteReason entry r.2).finish h opWriteParam r.1
      else (s.takeAct entry).finish h opWriteParam stOk)

/-- How far ahead a held entry may lie to be armed at a check: 2^30 ns, or 2^31 ns at the last check before a CORE_RESTART
(R269, R594). DEDUCED, log entry 58. -/
def State.armReach (s : State) : Nat :=
  let last := (List.range 64).any (fun k =>
    let a := s.act k
    a.busy && a.kind == 8 && decide (a.target ≤ s.counterOf a + 100000000))
  if last then 2 ^ 31 else 2 ^ 30

/-- Firmware arms the held entries within reach (R269). DEDUCED, log entry 58. -/
def State.armHeld (s : State) : State :=
  let reach := s.armReach
  forAll (List.range 64) (fun s n =>
    let a := s.act n
    if a.st = .held ∧ a.target ≤ s.counterOf a + reach then s.modAct n (fun a => { a with st := .armed }) else s) s

/-- ACTION_ARM_CHECK (R269, R533, R594): firmware also plans the tests of outputs that are ON and have none, such as after
its absence (R570). DEDUCED, log entry 59. -/
def execActionArmCheck (t : Nat) (s : State) : Host.Outcome State Fault Refusal :=
  command t s (fun s => (s.armHeld.soPlan 0).soPlan 1)

/-! Effects. -/

/-- A channel of a cell that restarts at instant e: its intervals restart with their close numbers at 0, and its histories are
cleared (R151 to R154, R168, R175). -/
def State.resyncChan (s : State) (e ch : Nat) : State :=
  ((s.mark ch e (.restart true)).modChan ch (fun c => { c with splice := 0, resets := [] })).clearingRestart ch e

/-- A running cell restarts at e: its base-rate grid counts from there, and its AC phases return to 0 (R58, R151). -/
def State.resyncCell (s : State) (e cell : Nat) : State :=
  let s := s.modCell cell (fun c => { c with origin := e })
  let s := forAll (srcsOf cell) (fun s n => s.modSrc n (fun c => { c with phase := 0, phaseAt := e })) s
  forAll (chansOf cell) (fun s ch => s.resyncChan e ch) s

/-- The cells of a RESYNC entry. -/
def Act.cells (a : Act) : List Nat := bitsOf 48 (a.arg 0 ||| fld (a.arg 1) 0 16 <<< 32)

/-- The RUNTIME of the T that an entry has reached. -/
def State.targetRuntime (s : State) (a : Act) : Nat := min s.now (if a.onRuntime then a.target else runtimeAt s.time a.target)

/-- RESYNC: fenced cells ignore it (R151, R268). -/
def State.doResync (s : State) (a : Act) : State :=
  let e := s.targetRuntime a
  forAll (a.cells.filter s.cellRuns) (fun s c => s.resyncCell e c) s

/-- One staged item of a GAIT action with instant e: a gait item, or the gait selection of a channel, from its first base-rate
boundary at or after e on; a fenced channel ignores it (R134, R156, R266, R268). -/
def State.gaitItem (s : State) (e id v : Nat) : State :=
  let n := pidInst id
  if pidBlock id = 0x12 then s.gaitWrite e n id v
  else if pidBlock id = 0x11 ∧ pidItem id = 0x050 ∧ s.chanRuns n = true then
    (s.setCfg id v).channelEffect n 0x050 (s.cfgAt id) v (s.boundaryAt n e)
  else s

/-- The staged items l of a GAIT action take effect, with instant e. -/
def State.gaitItems (s : State) (e : Nat) (l : List (Word × Word)) : State :=
  forAll l (fun s x => s.gaitItem e x.1.toNat x.2.toNat) s

/-- GAIT: the items staged under the handle take effect and are staged no longer (R266); a commit of the same boundary comes
before them (R271). DESIGN CHOICE, log entry 55. -/
def State.doGait (s : State) (a : Act) : State :=
  let e := s.targetRuntime a
  let l := (tfind s.gaitSets (a.arg 0)).getD []
  State.gaitItems { s with
    gaitSets := tdel s.gaitSets (a.arg 0)
    gaitLate := s.gaitLate.filter (fun x => s.now < x.1 + basePeriod) ++ [(e, l)] } e l

/-- LAUNCH: the frame under the handle leaves the launch queue of its port, on the line (R266). DESIGN CHOICE, log entry 55. -/
def State.doLaunch (s : State) (a : Act) : State :=
  let p := fld (a.arg 0) 0 3
  let named := fun (x : Nat × Nat × Frame) => x.1 == p && x.2.1 == a.arg 1
  match s.net.launch.find? named with
  | some x => { s with net := { s.net with launch := s.net.launch.filter (fun y => !named y) } }.putLine p x.2.2
  | none => s

/-- ALARM_TEST: the named switch is released; an output that is not ON records result 4 (R568, R570).
DEDUCED, log entry 59. -/
def State.alarmTest (s : State) (x d : Nat) : State :=
  if (s.so x).st = .on then
    let s := s.soState x .testing
    (s.soDrive x (d != 0) (d == 0)).modSo x (fun o => { o with side := d, sawLow := false, tpEnded := false })
  else s.soResult x d 4

/-- Event ACTION of a dropped entry (R272, R273). -/
def State.dropAct (s : State) (n reason : Nat) : State :=
  (s.modAct n (fun a => { a with st := .dropped, reason := reason })).raise 0x0D [(n, 6), (1, 2), (reason, 8)]

/-- Event ACTION of a fired entry with REPORT set (R272, R273). -/
def State.reportAct (s : State) (n : Nat) (a : Act) : State :=
  if bit a.typ.toNat 5 then s.raise 0x0D [(n, 6), (2, 2), (0, 8), (a.target, 64), (s.now, 64)] else s

/-- Pulses of a firing with AUX set, on the lines whose FUNC is 1 (R267, R274, R275). DEDUCED, log entry 56. -/
def State.auxPulse (s : State) (a : Act) : State :=
  if bit a.typ.toNat 6 then
    forAll ([2, 3].filter (fun n => s.cfgF 0x02 (0x200 + n) 0 4 2 == 1)) State.reinPulse s
  else s

/-- The reason for which an entry is dropped at its firing, 0 for none (R140, R266, R273, R324). -/
def State.fireCheck (s : State) (a : Act) : Nat :=
  match a.kind with
  | 1 => if s.up (fld (a.arg 0) 0 3) then 0 else 7
  | 4 => if s.swapsStatus a = stOk then 0 else 6
  | 5 => if s.osMaskStatus (fld (a.arg 0) 0 16) = stOk then 0 else 6
  | _ => 0

/-- A CONFIG_COMMIT action comes at its boundary (R383): C is the first base-rate boundary at or after T. An IMG_COMMIT
of the same image that is under way shares it. DEDUCED, log entry 81. -/
def State.commitDue (s : State) (n : Nat) (a : Act) : State :=
  let e := s.targetRuntime a
  { s with image := { s.image with
      commitAt := some e
      byAction := some n
      loading := false
      shadow := s.image.words.map Prod.snd
      shadowGen := s.image.gen
      shadowBase := s.image.base } }

/-- The effect of an entry that fires (R266), counted from its T (R139, R151, R323, R383). -/
def State.fireEffect (s : State) (n : Nat) (a : Act) : State :=
  match a.kind with
  | 1 => s.doLaunch a
  | 2 => s.doResync a
  | 3 => s.doGait a
  | 4 => forAll a.gaits (fun s g => s.doSwap g (s.targetRuntime a) false) s
  | 5 => s.doOsApply (s.targetRuntime a) (fld (a.arg 0) 0 16)
  | 6 => s.alarmTest (fld (a.arg 0) 0 1) (fld (a.arg 0) 1 1)
  | 7 => s.commitDue n a
  | 8 => s.fireRestart (a.arg 0)
  | _ => s

/-- An entry fires, or is dropped when its second check fails (R270, R272, R274). -/
def State.fireAct (s : State) (n : Nat) : State :=
  let a := s.act n
  let r := s.fireCheck a
  if r ≠ 0 then s.dropAct n r
  else
    let s := s.modAct n (fun a => { a with st := .fired, reason := 0 })
    ((s.fireEffect n a).auxPulse a).reportAct n a

/-- Every armed entry that has reached its T fires, in ascending number (R270, R271). -/
def State.fireDue (s : State) : State :=
  forAll (List.range 64) (fun s n => if s.actDue n then s.fireAct n else s) s

/-- ACTION_FIRE (R270, R271): the named entry fires, and with it the others that have reached their T, in ascending number. -/
def execActionFire (t entry : Nat) (s : State) : Host.Outcome State Fault Refusal :=
  onUnit .action entry t s (fun s => if s.actDue entry then s.fireDue else s)

/-- The status of a cancel (R267, R271). -/
def State.cancelStatus (s : State) (n : Nat) : Nat := if (s.act n).busy && !s.actDue n then stOk else stDenied

/-- The effect of a cancel. -/
def State.cancelAct (s : State) (n : Nat) : State := s.modAct n (fun a => { a with st := .cancelled })

/-- CANCEL (R267, R271, R349). -/
def execCancel (t : Nat) (h : Hdr) (entry : Nat) (s : State) : Host.Outcome State Fault Refusal :=
  packet 0x0501 h t s (fun s =>
    if 64 ≤ entry then s.finish h 0x0501 stParamRange
    else if s.cancelStatus entry ≠ stOk then s.finish h 0x0501 (s.cancelStatus entry)
    else (s.cancelAct entry).finish h 0x0501 stOk)

/-- ACT_CANCEL (R267, R271). -/
def execActCancel (t : Nat) (h : Hdr) (entry : Nat) (s : State) : Host.Outcome State Fault Refusal :=
  itemCommand (actCtlId entry) 2 h t s (fun s => s.cancelStatus entry) (fun s => s.cancelAct entry)

/-- HELD_ACTION_DROP (R273, R535). -/
def execHeldActionDrop (t entry : Nat) (s : State) : Host.Outcome State Fault Refusal :=
  onUnit .action entry t s (fun s =>
    if s.core.st = .outOfService ∧ (s.act entry).st = .held ∧ (s.act entry).target ≤ s.counterOf (s.act entry) then
      s.dropAct entry 8
    else s)

end Sys2Proof.Machine
end

