-- ==== Sys2Proof/Machine/Boot.lean ====
section
/-! DEFINITION. The meanings of start-up, reset, restart and update (R533, R577 to R601) and of the supply rails (R602 to
R606). -/

namespace Sys2Proof.Machine

/-! What survives (R578, R583, R590). -/

/-- A slot at a start: an interrupted write leaves it EMPTY, TRIAL returns to VERIFIED (R583, R591). -/
def slotAtStart (w : FwSlot) : FwSlot :=
  match w.st with
  | .trial => { w with st := .verified }
  | .opened => { code := w.code }
  | .written => w
  | _ => w

/-- A storage port's device as a start finds it. -/
def deviceOf (d : St) : St := { cap := d.cap, label := d.label, cfg0 := d.cfg0, cfg1 := d.cfg1 }

/-- The hub without power: only the boot flash, the fuses, the devices and the waiting commands keep what they hold.
DEDUCED, log entry 69. -/
def State.coldStart (s : State) : State :=
  let b := s.boot
  { State.reset with
    pdOn := 0
    pdGood := 0
    stores := tset {} (tset {} [] 1 (deviceOf (s.store 1))) 0 (deviceOf (s.store 0))
    arc := {
      wrapped := s.arc.wrapped
      pass := s.arc.pass
      head := s.arc.head
      written := s.arc.written.filter ArcBlk.durable
      exported := s.arc.exported
      mode := s.arc.mode
      spillGib := s.arc.spillGib
      exportGib := s.arc.exportGib }
    faults := { stored := s.faults.stored }
    cal := {
      bases := s.cal.bases
      log := s.cal.log
      logNum := s.cal.logNum
      logFull := s.cal.logFull
      logDay := s.cal.logDay }
    boot := {
      active := b.active
      slotA := slotAtStart b.slotA
      slotB := slotAtStart b.slotB
      fuses := b.fuses
      bootNum := b.bootNum
      hubId := b.hubId
      seqMark := b.seqMark
      recMark := b.recMark
      retired := b.retired
      signetConf := b.signetConf
      calRecord := b.calRecord
      rails := b.rails
      hours := b.hours }
    ident := s.ident
    free := s.free
    pending := s.pending }

/-- START_CNT (R600). -/
def startCntId : Nat := pid 0x01 0 0x601

/-- Bridle through a full reset: time goes on, with no port left to follow (R590). DEDUCED, log entry 86. -/
def State.resetTime (s : State) : Time :=
  let s := (s.ptpDown 0).ptpDown 1
  let s := if s.time.parent < 6 then s.loseParent else s
  { s.time with ports := [] }

/-- A full reset begins (R588, R590, R591): Bridle and its configuration, the Rein drive, START_TEST, the safety inputs and the counts of
START_CNT stay. DEDUCED, log entry 86. -/
def State.fullReset (s : State) : State :=
  let s := s.bump startCntId 0 15
  let tm := s.resetTime
  let y := s.safety
  let now := s.now
  let c := s.coldStart
  { c with
    time := tm
    rein := s.rein
    cfg := s.cfg.filter (fun (x : Nat × Word) => pidBlock x.1 == 0x02)
    status := s.status.filter (fun (x : Nat × Word) => pidBlock x.1 == 0x02)
    counts := s.counts.filter (fun (x : Nat × Nat) => x.1 / 32 == startCntId)
    pdOn := 1
    pdGood := 1
    safety := {
      so0 := { hrb := y.so0.hrb, lrb := y.so0.lrb, since := now }
      so1 := { hrb := y.so1.hrb, lrb := y.so1.lrb, since := now }
      si := y.si
      startTest := y.startTest
      testLow := y.testLow }
    boot := { c.boot with phase := .reset, resetLow := some now } }

/-! The ROM (R584, R585, R597). -/

/-- Domains on and reported good at once. -/
def State.powerNow (s : State) (l : List Nat) : State :=
  let m := BitVec.ofNat 16 (maskOf l)
  { s with pdOn := s.pdOn ||| m, pdGood := s.pdGood ||| m }

/-- The detail word of source 109 (R585). -/
def State.bootDetail (s : State) (other recovery : Bool) : Word :=
  BitVec.ofNat 32 (s.boot.slotA.code ||| s.boot.slotB.code <<< 4 ||| b2n other <<< 8 ||| b2n recovery <<< 9)

/-- Recovery mode: PD0, PD1, PD13 with L0 alone, PD14 and PD15 are on (R597). -/
def State.enterRecovery (s : State) : State :=
  let s := { (s.powerNow [13, 15]) with switches := 1 }
  (s.modBoot (fun b => { b with phase := .recovery, running := 3 })).report 109 (s.bootDetail false true)

/-- The ROM runs slot n next (R584, R585). -/
def State.romBoots (s : State) (n : Nat) (other : Bool) : State :=
  s.modBoot (fun b => { b with phase := .rom, running := n, nonActive := other })

/-- Steps 2 and 3 of a start (R584, R585): PD1 and PD14 on, BOOTSEL sampled, and the active slot verified, then the other
one when it fails. -/
def State.romStart (s : State) (cause : Nat) (b : BootIn) : State :=
  let codeOf := fun (n : Nat) => (if n = 0 then b.codeA else b.codeB) % 16
  let act := s.boot.active
  let s := (s.powerNow [0, 1, 14]).modBoot (fun x => { x with cause := cause, bootsel := b.bootsel, resetLow := none })
  let s := s.modFw act (fun w => { w with code := codeOf act })
  if b.bootsel then s.enterRecovery
  else if codeOf act = 0 then s.romBoots act false
  else
    let s := s.modFw (1 - act) (fun w => { w with code := codeOf (1 - act) })
    if codeOf (1 - act) = 0 then (s.romBoots (1 - act) true).report 109 (s.bootDetail true false)
    else s.enterRecovery

/-- POWER_UP (R584, R604, R605): step 2 waits for VDDC. DEDUCED, log entry 70; DESIGN CHOICE, log entry 6. -/
def execPowerUp (t : Nat) (b : BootIn) (s : State) : Host.Outcome State Fault Refusal :=
  at_ t s (fun s =>
    if s.boot.phase = .off ∧ s.railsGood 0 = true ∧ s.railsGood 1 = true then
      (s.modTime (fun m => { m with refsel := b.refsel })).romStart 0 b
    else s)

/-! RESET_N (R588 to R591). -/

/-- RESET_N_ASSERT (R588): the pin has been low for 10 µs; a pin held to be stuck is ignored (R589). -/
def execResetNAssert (t : Nat) (s : State) : Host.Outcome State Fault Refusal :=
  at_ t s (fun s =>
    if s.boot.phase = .off ∨ s.boot.phase = .reset ∨ s.boot.stuck = true then s else s.fullReset)

/-- RESET_N_RELEASE (R588). -/
def execResetNRelease (t : Nat) (b : BootIn) (s : State) : Host.Outcome State Fault Refusal :=
  at_ t s (fun s => if s.boot.phase = .reset ∧ s.railsGood 1 = true then s.romStart 1 b else s)

/-- RESET_N_TIMEOUT (R588, R589): the pin is still low after 5 s. -/
def execResetNTimeout (t : Nat) (b : BootIn) (s : State) : Host.Outcome State Fault Refusal :=
  at_ t s (fun s =>
    if s.boot.phase = .reset ∧ s.railsGood 1 = true ∧ s.boot.resetLow.getD 0 + 5000000000 ≤ s.now then
      ((s.romStart 1 b).report 112 0).modBoot (fun x => { x with stuck := true })
    else s)

/-- Event RESET_PIN (R599). -/
def State.evResetPin (s : State) (stuck : Bool) : State := s.raise 0x76 [(b2n stuck, 1)]

/-- RESET_N_STUCK_CLEAR (R589): the pin has been high for 100 ms. -/
def execResetNStuckClear (t : Nat) (s : State) : Host.Outcome State Fault Refusal :=
  at_ t s (fun s =>
    if s.boot.stuck then
      let s := s.modBoot (fun x => { x with stuck := false })
      (s.pairEnds 112).evResetPin false
    else s)

/-! The firmware starts (R584, R586, R605). -/

/-- The domains of step 4, in order. -/
def stepFour : List Nat := [2, 15, 13, 3, 4, 5, 6, 7, 8, 9, 10, 11, 12]

/-- Step 4 is over: the pairs of every domain that is on have been tested, the watchdog is served, and FAULT_N is released
unless a source drives it (R514, R586). -/
def State.startDone (s : State) : State :=
  let s := { s with faults := { s.faults with tested := true } }
  if s.outSevere.isEmpty then { s with faults := { s.faults with faultN := true } } else s

/-- Switches on the next domain of step 4 whose rail is good; one that is on already is passed over. The fuel is the number
of domains (R584, R605). -/
def State.powerNext : Nat → State → State
  | 0, s => s
  | k + 1, s =>
    match s.boot.toPower with
    | [] => s.startDone
    | n :: r =>
      let now := s.now
      if s.pd n then
        let s := if n = 13 then { s with switches := 0x3F } else s
        State.powerNext k (s.modBoot (fun b => { b with toPower := r }))
      else if s.railsGood n then (s.modBoot (fun b => { b with railWait := none })).domainOn n
      else s.modBoot (fun b => { b with railWait := some (b.railWait.getD now) })

/-- The start goes on with the next domain of step 4. -/
def State.powerOn (s : State) : State := State.powerNext 14 s

/-- Record numbering resumes at the next multiple of 2^20 above the stored mark (R218). -/
def State.resumeRecords (s : State) : State :=
  let m := match s.boot.recMark with
    | none => (0, 0)
    | some (e, n) => if n + 2 ^ 20 < 2 ^ 32 then (e, n + 2 ^ 20) else ((e + 1) % 2 ^ 16, 0)
  { s with
    trig := { s.trig with epoch := m.1, nextNum := m.2 }
    boot := { s.boot with recMark := some m } }

/-- The retired map is applied again (R114). -/
def State.reapplyRetired (s : State) : State :=
  forAll s.boot.retired (fun s x => s.modCell x.1 (fun c => { c with retired := x.2 })) s

/-- The storage ports that PD14 carries start (R418, R584). -/
def State.mountStores (s : State) : State :=
  if s.pd 14 then forAll [0, 1] (fun s n => s.modStore n (fun d => { d with st := 1 })) s else s

/-- The firmware's first steps: boot number, records, storage, discovery, the triangulation run of power-up calibration, and the
domains of step 4 (R283, R478, R480, R511, R584). DEDUCED, log entry 70. -/
def State.firmwareStart (s : State) : State :=
  let now := s.now
  let s := s.modBoot (fun b => { b with phase := .firmware, bootNum := (b.bootNum + 1) % 2 ^ 16, toPower := stepFour, hourAt := some now })
  let s := { s with
    core := { s.core with st := .running, duplex := false, scrubAt := now }
    faults := { s.faults with served := true, prevLocket := s.faults.stored }
    pair := { s.pair with lastRx := now }
    cal := if s.cal.puDone then s.cal else { s.cal with running := true, triAt := some now, ageAt := some now } }
  s.reloadPd2.resumeRecords.reapplyRetired.mountStores.chooseId.powerOn

/-- FIRMWARE_START (R584). DESIGN CHOICE, log entry 6. -/
def execFirmwareStart (t : Nat) (s : State) : Host.Outcome State Fault Refusal :=
  at_ t s (fun s => if s.boot.phase = .rom ∧ s.pd 1 = true then s.firmwareStart else s)

/-- The start's own events, once there is a queue for them: START, and a stuck RESET_N (R589, R599).
DEDUCED, log entry 70. -/
def State.startEvents (s : State) : State :=
  let s := s.evStart s.boot.cause s.boot.running
  if s.boot.stuck then s.evResetPin true else s

/-- DOMAIN_GOOD (R34, R502, R584). DESIGN CHOICE, log entry 6. -/
def execDomainGood (t pd : Nat) (badPairs : List Nat) (s : State) : Host.Outcome State Fault Refusal :=
  onUnit .domain pd t s (fun s =>
    if !bit s.pdOn.toNat pd || bit s.pdGood.toNat pd || s.boot.phase == .testHold then s
    else
      let first : Bool := s.boot.toPower.head? == some pd
      let s := s.domainReturn pd badPairs
      let s := if pd = 12 then s.relevelAll else s
      if first then (if pd = 2 then s.startEvents else s).powerOn else s)

/-- RAIL_WAIT_EXPIRY (R605): after 1 s the start goes on without the domain. -/
def execRailWaitExpiry (t pd : Nat) (s : State) : Host.Outcome State Fault Refusal :=
  onUnit .domain pd t s (fun s =>
    if s.boot.toPower.head? == some pd && !s.railsGood pd && s.elapsed s.boot.railWait 1000000000 then
      ((s.modBoot (fun b => { b with
        toPower := b.toPower.tail
        missing := b.missing ++ [pd]
        railWait := none })).report (58 + pd) 1).powerOn
    else s)

/-! Supply rails (R602 to R606). -/

/-- A rail is out of its limits. DEDUCED, log entry 30. -/
def State.loseRail (s : State) (r : Rail) : State := s.modBoot (fun b => { b with rails := b.rails.erase r })

/-- PD1 is without power: what the core had in hand is lost, and the ROM restarts it when VDDC returns (R34, R371).
DEDUCED, log entry 69. -/
def State.losePd1 (s : State) : State :=
  if s.boot.phase = .testHold then s
  else if s.boot.phase = .firmware ∨ s.boot.phase = .ready then
    { s.dropCommands with
      core := { s.core with st := if s.core.st = .outOfService then .outOfService else .restarting, duplex := false }
      faults := { s.faults with served := false } }
  else s.modBoot (fun b => { b with phase := .off })

/-- A domain that its rail takes away: its supervisor reports, it is switched off, and it waits for the rail (R606).
DEDUCED, log entry 30. -/
def State.tripDomain (s : State) (d : Word) (n : Nat) : State :=
  if !bit s.pdOn.toNat n then s
  else
    let s := s.report (58 + n) d
    let s := s.modBoot (fun b => { b with missing := if b.missing.contains n then b.missing else b.missing ++ [n] })
    let s := s.domainOff n
    if n = 1 then s.losePd1 else s

/-- Whether a rail exists: AVDD_Q0 to AVDD_Q3 (R602). -/
def railExists (r : Rail) : Bool :=
  match r with
  | .avdd q => decide (q < 4)
  | _ => true

/-- The quadrant of a rail, for the name of one that does not exist. -/
def railNum (r : Rail) : Nat :=
  match r with
  | .avdd q => q
  | _ => 0

/-- A meaning on a rail. -/
def onRail (r : Rail) (t : Nat) (s : State) (f : State → State) : Host.Outcome State Fault Refusal :=
  if railExists r then at_ t s f else .fault (.noSuchUnit .rail (railNum r))

/-- RAIL_TRIP (R37, R606): VDDAON and VIOAON take the whole hub, and VDDC the alarm outputs. DEDUCED, log entry 30. -/
def execRailTrip (t : Nat) (rail : Rail) (overV : Bool) (s : State) : Host.Outcome State Fault Refusal :=
  onRail rail t s (fun s =>
    if !s.railGood rail then s
    else if rail = .vddaon ∨ rail = .vioaon then (s.loseRail rail).coldStart
    else (forAll (railFeeds rail) (State.tripDomain · (if overV then 2 else 1) ·) (s.loseRail rail)).safetyRefresh)

/-- A domain whose rails are all good again: its supervisor pair goes inactive, and it is switched on when it was missing
(R34, R605). DEDUCED, log entry 69. -/
def State.railBack (s : State) (n : Nat) : State :=
  if !s.railsGood n then s
  else
    let s := s.pairEnds (58 + n)
    if s.boot.missing.contains n then
      (s.modBoot (fun b => { b with missing := b.missing.erase n })).domainOn n
    else s

/-- RAIL_GOOD (R605). DEDUCED, log entry 69. -/
def execRailGood (t : Nat) (rail : Rail) (s : State) : Host.Outcome State Fault Refusal :=
  onRail rail t s (fun s =>
    if s.railGood rail then s
    else
      let s := s.modBoot (fun b => { b with rails := b.rails ++ [rail] })
      let s := if s.boot.phase = .off then s else forAll (railFeeds rail) State.railBack s
      match s.boot.toPower with
      | n :: _ => if bit s.pdOn.toNat n then s else s.powerOn
      | [] => s)

/-! Restarts of the core (R533, R595, R596). -/

/-- The final replies of deferred work that a restart cut short: the staging area is gone (R371, R381).
DEDUCED, log entry 68. -/
def State.lostWork (s : State) : State :=
  forAll s.cmds.deferred (fun s d => if d.work = .verify then s.finalReply .verify stRetry else s) s

/-- The new firmware answers the commands of the handover record (R371, R595). DEDUCED, log entries 49, 68. -/
def State.answerHandover (s : State) (l : List Pkt) : State :=
  (forAll l (fun s p => s.answer p.h p.opcode stRetry 0 []) s).lostWork

/-- LAST_RESTART and its event (R599, R600). DEDUCED, log entry 66. -/
def State.noteRestart (s : State) (slot units : Nat) (since : Nat) : State :=
  let ms := min 0xFFFF ((s.now - since) / 1000000)
  let s := s.modBoot (fun b => { b with lastRestart := ms, lastSwapped := min 255 units })
  (s.bump startCntId 16 15).raise 0x72 [(slot, 1), (ms, 16), (min 255 units, 8)]

/-- The restarted firmware serves the watchdog: the cores run as three again, and held actions are armed (R529, R533).
DEDUCED, log entry 66. -/
def State.servedAgain (s : State) : State :=
  let s := { s with
    core := { s.core with st := .running, duplex := false }
    faults := { s.faults with served := true, window := none } }
  (s.modBoot (fun b => { b with restart := none })).reloadPd2.armHeld

/-- A CORE_RESTART, or its fallback, is served (R595, R596). -/
def State.restartServed (s : State) (r : Restart) (units : Nat) : State :=
  let slot := if r.fallback then r.prev else r.slot
  let cause := if r.fallback then 3 else 2
  let s := s.servedAgain.modBoot (fun b => { b with running := slot, cause := cause, nonActive := false })
  let s := (s.answerHandover r.notDone).evStart cause slot
  if r.fallback then s else s.noteRestart slot units r.t

/-- A restart after a halt is served: the active slot runs, and one in TRIAL is VERIFIED again (R533, R583).
DEDUCED, log entry 66. -/
def State.haltServed (s : State) : State :=
  let act := s.boot.active
  let s := s.servedAgain
  let s := if (s.fw (1 - act)).st = .trial then s.setSlot (1 - act) .verified else s
  if s.boot.nonActive then s else s.modBoot (fun b => { b with running := act })

/-- RESTART_SERVED (R533, R595). -/
def execRestartServed (t unitsSwapped : Nat) (s : State) : Host.Outcome State Fault Refusal :=
  at_ t s (fun s =>
    if s.core.st = .restarting ∧ s.pd 1 = true then
      match s.boot.restart with
      | some r => s.restartServed r unitsSwapped
      | none => s.haltServed
    else s)

/-- The core stays out of service (R529, R535). DEDUCED, log entry 67. -/
def State.coreOut (s : State) : State :=
  { s with
    core := { s.core with st := .outOfService }
    faults := { s.faults with window := none }
    boot := { s.boot with restart := none } }

/-- The window of a CORE_RESTART closes unserved: the ROM falls back once to the slot that ran before (R596).
DEDUCED, log entry 67. -/
def State.windowMissed (s : State) (r : Restart) : State :=
  let now := s.now
  let s := s.report 99 2
  if r.fallback then s.coreOut
  else
    let s := { s with
      boot := { s.boot with restart := some { r with fallback := true } }
      faults := { s.faults with window := some (now + 500000000) } }
    (s.setSlot r.slot .bad).raise 0x73 [(r.slot, 1)]

/-- RESTART_WINDOW_EXPIRY (R513, R529, R596). -/
def execRestartWindowExpiry (t : Nat) (s : State) : Host.Outcome State Fault Refusal :=
  at_ t s (fun s =>
    if s.core.st = .restarting then
      match s.boot.restart, s.faults.window, s.core.haltsAt with
      | some r, some w, _ => if w ≤ s.now then s.windowMissed r else s
      | none, _, h :: _ => if s.pd 1 = true ∧ h + 500000000 ≤ s.now then s.coreOut else s
      | _, _, _ => s
    else s)

/-- Unit kinds of CODE_SWAP_FAIL: 1 cell, 2 lane, 3 Bridle (R599). -/
def swapUnits (kind : Nat) : Nat :=
  match kind with
  | 1 => 48
  | 2 => 6
  | 3 => 1
  | _ => 0

/-- The unit kind that a missing unit of CODE_SWAP is named by. -/
def swapKind (kind : Nat) : UnitKind := if kind = 2 then .port else .cell

/-- CODE_SWAP (R587, R595): a swap flags nothing and disturbs nothing. Code that fails its check three times stays as it
was, with event 0x74; at a start the unit stays fenced by its own source. -/
def execCodeSwap (t kind num : Nat) (ok : Bool) (s : State) : Host.Outcome State Fault Refusal :=
  if num < swapUnits kind then
    at_ t s (fun s =>
      if ok || !s.coreUp && s.core.st != .restarting then s
      else if s.boot.phase = .firmware ∧ s.running = false then
        if kind = 1 then s.fence 1 num (.src num)
        else if kind = 2 then s.fence 2 num (.src (48 + num))
        else s
      else s.raise 0x74 [(kind, 2), (num, 6)])
  else .fault (.noSuchUnit (swapKind kind) num)

/-! Slots and updates (R580 to R583, R592, R593, R597, R598). -/

/-- Who opens a slot or the staging area: the host, or a source on the links. -/
def ownerOf (h : Hdr) : Nat × Nat := (b2n (h.port == 6), h.source)

/-- The reply data of UPD_STATUS (R592). -/
def State.updStatus (s : State) : List Byte :=
  let b := s.boot
  be 1 (if b.running < 2 then b.running else 0xFF) ++ be 1 b.active ++ be 1 b.slotA.st.num ++ be 1 b.slotB.st.num
    ++ be 4 b.slotA.version.toNat ++ be 4 b.slotB.version.toNat ++ be 1 b.slotA.sv ++ be 1 b.slotB.sv ++ be 1 b.fuses
    ++ be 1 (b2n (b.phase == .recovery) ||| b2n b.bootsel <<< 1) ++ be 1 b.slotA.code ++ be 1 b.slotB.code
    ++ be 2 b.bootNum ++ zeros 12

/-- UPD_STATUS (R592). -/
def execUpdStatus (t : Nat) (h : Hdr) (s : State) : Host.Outcome State Fault Refusal :=
  packet 0x0C00 h t s (fun s => s.finish h 0x0C00 stOk 0 s.updStatus)

/-- The greatest length of a slot image: 8 MiB. -/
def slotMax : Nat := 8388608

/-- The status of UPD_OPEN (R593). DEDUCED, log entry 71. -/
def State.updOpenStatus (s : State) (h : Hdr) (slot len : Nat) : Nat :=
  let named : Bool := (List.range 64).any (fun k => (s.act k).busy && (s.act k).kind == 8 && (s.act k).arg 0 == slot)
  let o := s.fw (1 - slot)
  if 2 ≤ slot then stParamRange
  else if slot = s.boot.running ∨ slot = s.boot.active ∨ named then stDenied
  else if o.st = .opened ∧ o.owner ≠ some (ownerOf h) then stDenied
  else if slotMax < len ∨ len % 4 ≠ 0 then stParamRange
  else stOk

/-- UPD_OPEN (R592, R593): the slot is erased. -/
def execUpdOpen (t : Nat) (h : Hdr) (slot len : Nat) (s : State) : Host.Outcome State Fault Refusal :=
  packet 0x0C01 h t s (fun s =>
    let st := s.updOpenStatus h slot len
    if st ≠ stOk then s.finish h 0x0C01 st
    else
      let s := (s.modFw slot (fun w => { st := w.st, len := len, owner := some (ownerOf h) })).setSlot slot .empty
      s.accept h 0x0C01 (.erase slot))

/-- The slot of a pending erase. -/
def State.erasing (s : State) : Option Nat :=
  s.cmds.deferred.findSome? (fun d => match d.work with
    | .erase n => some n
    | _ => none)

/-- SLOT_ERASE_COMPLETE (R592). -/
def execSlotEraseComplete (t : Nat) (s : State) : Host.Outcome State Fault Refusal :=
  command t s (fun s =>
    match s.erasing with
    | none => s
    | some n => (s.setSlot n .opened).finalReply (.erase n) stOk)

/-- The slot that is OPEN for a source. -/
def State.openSlot (s : State) (h : Hdr) : Option Nat :=
  [0, 1].find? (fun n => (s.fw n).st == .opened && (s.fw n).owner == some (ownerOf h))

/-- Puts bytes at an offset. -/
def putBytes : List Byte → Nat → Tbl Byte → Tbl Byte
  | [], _, t => t
  | b :: r, k, t => putBytes r (k + 1) (tput t k b)

/-- UPD_WRITE (R592, R593). DEDUCED, log entry 71. -/
def execUpdWrite (t : Nat) (h : Hdr) (off : Nat) (bytes : List Byte) (s : State) : Host.Outcome State Fault Refusal :=
  packet 0x0C02 h t s (fun s =>
    match s.openSlot h with
    | none => s.finish h 0x0C02 stDenied
    | some n =>
      if off % 4 ≠ 0 ∨ (s.fw n).len < off + bytes.length then s.finish h 0x0C02 stParamRange
      else
        let s := s.modFw n (fun w => { w with bytes := putBytes bytes off w.bytes })
        let s := if (s.fw n).bytes.length = (s.fw n).len then s.setSlot n .written else s
        s.finish h 0x0C02 stOk)

/-- UPD_VERIFY (R592, R593). -/
def execUpdVerify (t : Nat) (h : Hdr) (slot : Nat) (s : State) : Host.Outcome State Fault Refusal :=
  packet 0x0C03 h t s (fun s =>
    if 2 ≤ slot then s.finish h 0x0C03 stParamRange
    else if (s.fw slot).st = .written ∨ (s.fw slot).st = .verified then s.accept h 0x0C03 (.slotVerify slot)
    else s.finish h 0x0C03 stDenied)

/-- Offset, length and CRC of entry k of the section table (R580). -/
def sectionOf (b : List Byte) (k : Nat) : Nat × Nat × Nat :=
  (fbe b (156 + 16 * k) 4, fbe b (160 + 16 * k) 4, fbe b (164 + 16 * k) 4)

/-- The check code of a slot image of the given bytes (R581); whether the key hash and the signature match is given.
DESIGN CHOICE, log entry 14. -/
def slotCode (b : List Byte) (fuses : Nat) (keyOk sigOk : Bool) : Nat :=
  let len := fbe b 12 4
  let secs := (List.range 4).map (sectionOf b)
  if fbe b 0 4 ≠ 0x5A46574D ∨ fbe b 4 1 ≠ 1 ∨ fbe b 6 2 ≠ 4 then 1
  else if slotMax < len ∨ secs.any (fun (x : Nat × Nat × Nat) => decide (len < x.1 + x.2.1)) then 2
  else if 64 < fbe b 5 1 then 3
  else if !keyOk then 4
  else if !sigOk then 5
  else if fbe b 5 1 < fuses then 6
  else if secs.any (fun (x : Nat × Nat × Nat) => crc32c (slice b x.1 x.2.1) != x.2.2) then 7
  else 0

/-- The bytes of a slot. -/
def FwSlot.image (w : FwSlot) : List Byte := (List.range w.len).map (tget 0 w.bytes)

/-- UPD_VERIFY_COMPLETE (R581, R593). DESIGN CHOICE, log entry 14. -/
def execUpdVerifyComplete (t slot : Nat) (keyOk sigOk : Bool) (s : State) : Host.Outcome State Fault Refusal :=
  if slot < unitCount .firmwareSlot then
    command t s (fun s =>
      if s.hasWork (fun w => w == .slotVerify slot) then
        let b := (s.fw slot).image
        let c := slotCode b s.boot.fuses keyOk sigOk
        let s := s.modFw slot (fun w => { w with code := c, version := BitVec.ofNat 32 (fbe b 8 4), sv := fbe b 5 1 })
        let s := s.setSlot slot (if c = 0 then .verified else .bad)
        s.finalReply (.slotVerify slot) (if c = 0 then stOk else stParamRange) 0 (be 1 c)
      else s)
  else .fault (.noSuchUnit .firmwareSlot slot)

/-- UPD_CONFIRM (R582, R583, R592, R593). -/
def execUpdConfirm (t : Nat) (h : Hdr) (burn : Bool) (s : State) : Host.Outcome State Fault Refusal :=
  packet 0x0C04 h t s (fun s =>
    let n := s.boot.running
    if 2 ≤ n ∨ (s.fw n).st ≠ .trial ∨ s.boot.nonActive = true then s.finish h 0x0C04 stDenied
    else
      let s := (s.modBoot (fun b => { b with active := n })).setSlot n .good
      let s := if burn then
          let s := s.modBoot (fun b => { b with fuses := max b.fuses (min 64 (s.fw n).sv) })
          s.raise 0x75 [(s.boot.fuses, 7)]
        else s
      s.finish h 0x0C04 stOk 0 (be 1 s.boot.fuses))

/-- UPD_BOOT (R592, R593, R598): code is what the checks of R581 give. DESIGN CHOICE, log entry 14. -/
def execUpdBoot (t : Nat) (h : Hdr) (slot : Nat) (code : Nat) (s : State) : Host.Outcome State Fault Refusal :=
  packet 0x0C05 h t s (fun s =>
    if s.boot.phase ≠ .recovery then s.finish h 0x0C05 stDenied
    else if 2 ≤ slot then s.finish h 0x0C05 stParamRange
    else
      let s := s.modFw slot (fun w => { w with code := code % 16 })
      if code % 16 ≠ 0 then s.finish h 0x0C05 stParamRange
      else
        ((s.finish h 0x0C05 stOk).setSlot slot .trial).romBoots slot false)

end Sys2Proof.Machine
end

