-- ==== Sys2Proof/Machine/TestPort.lean ====
section
/-! DEFINITION. The meanings of the test access port's rows and of the hourly temperature count (R616, R622 to R630). -/

namespace Sys2Proof.Machine

/-- The test access port changed. -/
def State.modTap (s : State) (f : Tap → Tap) : State := { s with tap := f s.tap }

/-- A test access port command: its pins need PD15, or test hold (R31, R602, R625). -/
def tapCommand (t : Nat) (s : State) (f : State → State) : Host.Outcome State Fault Refusal :=
  at_ t s (fun s => if s.pd 15 || s.boot.phase == .testHold then f s else s)

/-- Whether an intrusive instruction is accepted: before FIELD is blown, or within 60 s of a TAP_UNLOCK (R625). -/
def State.unlocked (s : State) : Bool :=
  !s.ident.field || (s.tap.unlockUntil.map (fun u => decide (s.now < u))).getD false

/-- Test hold (R625): the core stops, every domain is under the test access port, ALIVE stops and FAULT_N goes low.
DEDUCED, log entry 72. -/
def State.testHold (s : State) : State :=
  let s := ((s.soDrive 0 false false).soDrive 1 false false).dropCommands
  { s with
    boot := { s.boot with phase := .testHold, restart := none, toPower := [] }
    pdGood := s.pdOn &&& 1
    faults := { s.faults with alive := false, faultN := false, tested := false, served := false, window := none } }

/-- The port with instruction code and data register value selected, nothing driven through the boundary. -/
def tapSelect (code : BitVec 8) (dr : BitVec 64) (p : Tap) : Tap :=
  { p with ir := code, dr := dr, soForced := false, atBus := false, acDrive := false, hiz := false }

/-- A code that acts as BYPASS (R622, R625). -/
def State.tapBypass (s : State) (code : BitVec 8) : State := s.modTap (tapSelect code 0)

/-- An intrusive instruction: BYPASS while locked, else test hold with the effect f on the port (R625). -/
def intrusive (t : Nat) (code : BitVec 8) (s : State) (f : State → Tap → Tap) : Host.Outcome State Fault Refusal :=
  tapCommand t s (fun s =>
    if s.unlocked then
      let s := s.testHold
      s.modTap (fun p => f s (tapSelect code 0 p))
    else s.tapBypass code)

/-- The codes of the intrusive instructions (R622). -/
def intrusiveCode (c : BitVec 8) : Bool :=
  c == 0x00 || c == 0x03 || c == 0x05 || c == 0x06 || c == 0x07 || c == 0x08 || c == 0x20 || c == 0x21

/-- The codes of the other instructions that are not BYPASS (R622). -/
def plainCode (c : BitVec 8) : Bool := c == 0x01 || c == 0x02 || c == 0x22

/-- EXTEST (R622, R626, R628): the boundary cells drive what is shifted in; once FIELD is blown the alarm drives stay low. -/
def execExtest (t : Nat) (shift : List Bool) (s : State) : Host.Outcome State Fault Refusal :=
  intrusive t 0x00 s (fun s p => { p with preload := shift, soForced := s.ident.field, atBus := true })

/-- SAMPLE/PRELOAD (R622). -/
def execSamplePreload (t : Nat) (shift : List Bool) (s : State) : Host.Outcome State Fault Refusal :=
  tapCommand t s (fun s => s.modTap (fun p => { tapSelect 0x01 0 p with preload := shift }))

/-- The IDCODE (R623). -/
def State.idcode (s : State) : BitVec 64 := BitVec.ofNat 64 ((s.ident.stepping % 16) <<< 28 ||| 0x3840 <<< 12 ||| 0x2D9 <<< 1 ||| 1)

/-- IDCODE (R622, R623). DESIGN CHOICE, log entry 109. -/
def execIdcode (t : Nat) (s : State) : Host.Outcome State Fault Refusal :=
  tapCommand t s (fun s => s.modTap (tapSelect 0x02 s.idcode))

/-- PROBE (R628). -/
def execProbe (t : Nat) (s : State) : Host.Outcome State Fault Refusal :=
  intrusive t 0x03 s (fun _ p => { p with atBus := true })

/-- EXTEST_PULSE (R627). -/
def execExtestPulse (t : Nat) (s : State) : Host.Outcome State Fault Refusal :=
  intrusive t 0x05 s (fun _ p => { p with acDrive := true })

/-- EXTEST_TRAIN (R627). -/
def execExtestTrain (t : Nat) (s : State) : Host.Outcome State Fault Refusal :=
  intrusive t 0x06 s (fun _ p => { p with acDrive := true })

/-- CLAMP (R622, R626). -/
def execClamp (t : Nat) (s : State) : Host.Outcome State Fault Refusal :=
  intrusive t 0x07 s (fun s p => { p with soForced := s.ident.field })

/-- HIGHZ (R622). -/
def execHighz (t : Nat) (s : State) : Host.Outcome State Fault Refusal := intrusive t 0x08 s (fun _ p => { p with hiz := true })

/-! BIST (R629, R630). -/

/-- The reply data of BIST_REPORT (R630). -/
def bistBytes (i : Ident) : List Byte :=
  be 1 i.mbist ++ be 1 i.modbist ++ be 2 i.mbistFailing ++ maskBytes 54 i.modMap.toNat ++ zeros 6

/-- The BIST_RESULT register: the first 8 bytes of that data (R622). -/
def bistRegister (i : Ident) : BitVec 64 := BitVec.ofNat 64 (unbe ((bistBytes i).take 8))

/-- What a BIST run reports with the results i; production, before FIELD is blown, writes them into the fuses and the
failing modulators into the retired map (R629). DEDUCED, log entry 72. -/
def State.bistDone (s : State) (i : Ident) : State :=
  let s := s.modTap (fun p => { p with result := some (bistRegister i) })
  if s.ident.field then s else { s with ident := i }

/-- The identity with an MBIST result. -/
def mbistOf (failing : Nat) (i : Ident) : Ident := { i with mbist := b2n (failing != 0), mbistFailing := min 0xFFFF failing }

/-- The identity with a MODBIST result. -/
def modbistOf (map : BitVec 432) (i : Ident) : Ident := { i with modbist := b2n (map != 0), modMap := map }

/-- MBIST (R629). DEDUCED, log entry 72. -/
def execMbist (t failing : Nat) (s : State) : Host.Outcome State Fault Refusal :=
  tapCommand t s (fun s =>
    if s.unlocked then (s.testHold.modTap (tapSelect 0x20 0)).bistDone (mbistOf failing s.ident) else s.tapBypass 0x20)

/-- Production writes the failing modulators into the retired map of the boot flash (R114, R629). -/
def State.retireMap (s : State) (map : BitVec 432) : State :=
  s.modBoot (fun b => { b with
    retired := (List.range 48).foldl (fun r c => tset 0 r c (tget 0 r c ||| BitVec.ofNat 9 (fld map.toNat (9 * c) 9))) b.retired })

/-- MODBIST (R629). DEDUCED, log entry 72. -/
def execModbist (t : Nat) (map : BitVec 432) (s : State) : Host.Outcome State Fault Refusal :=
  tapCommand t s (fun s =>
    if s.unlocked then
      let field := s.ident.field
      let s := (s.testHold.modTap (tapSelect 0x21 0)).bistDone (modbistOf map s.ident)
      if field then s else s.retireMap map
    else s.tapBypass 0x21)

/-- BIST_RESULT (R622): the last run's report, else what the fuses hold. -/
def execBistResult (t : Nat) (s : State) : Host.Outcome State Fault Refusal :=
  tapCommand t s (fun s => s.modTap (tapSelect 0x22 (s.tap.result.getD (bistRegister s.ident))))

/-- BYPASS (R622, R625): code 0xFF, a code that is none of the others, and a locked intrusive one. -/
def execBypass (t : Nat) (code : BitVec 8) (s : State) : Host.Outcome State Fault Refusal :=
  tapCommand t s (fun s => if plainCode code || (intrusiveCode code && s.unlocked) then s else s.tapBypass code)

/-- TEST_LOGIC_RESET (R622, R625): IDCODE, and test hold stays. -/
def execTestLogicReset (t : Nat) (s : State) : Host.Outcome State Fault Refusal :=
  tapCommand t s (fun s => s.modTap (tapSelect 0x02 s.idcode))

/-- TAP_UNLOCK (R625, R630). -/
def execTapUnlock (t : Nat) (h : Hdr) (magic : Word) (s : State) : Host.Outcome State Fault Refusal :=
  packet 0x0D00 h t s (fun s =>
    if magic ≠ 0x54415055 then s.finish h 0x0D00 stParamRange
    else if s.running then s.finish h 0x0D00 stBusyLive
    else if (s.so 0).st ≠ .off ∨ (s.so 1).st ≠ .off then s.finish h 0x0D00 stDenied
    else (s.modTap (fun p => { p with unlockUntil := some (s.now + 60000000000) })).finish h 0x0D00 stOk)

/-- UNLOCK_WINDOW_EXPIRY (R625). -/
def execUnlockWindowExpiry (t : Nat) (s : State) : Host.Outcome State Fault Refusal :=
  at_ t s (fun s => if s.unlocked then s else s.modTap (fun p => { p with unlockUntil := none }))

/-- BIST_REPORT (R630). -/
def execBistReport (t : Nat) (h : Hdr) (s : State) : Host.Outcome State Fault Refusal :=
  packet 0x0D01 h t s (fun s => s.finish h 0x0D01 stOk 0 (bistBytes s.ident))

/-! Temperature (R616). -/

/-- The bin of TJ_HOURS of a temperature in 0.01 degrees (R616). -/
def tempBin (x : Int) : Nat := if x < 7500 then 0 else if x < 10500 then 1 else if x < 12500 then 2 else if x ≤ 15000 then 3 else 4

/-- TJ_HOURS_TICK (R616): the hottest sensor's reading, and each hour one more in its bin. -/
def execTjHoursTick (t : Nat) (temp : Int) (sensor : Nat) (s : State) : Host.Outcome State Fault Refusal :=
  at_ t s (fun s =>
    let s := s.modBoot (fun b => { b with
      tempNow := clampI (-32768) 32767 temp
      tempSensor := sensor % 12
      tempPeak := max b.tempPeak (clampI (-32768) 32767 temp) })
    let now := s.now
    if s.coreUp && s.elapsed s.boot.hourAt 3600000000000 then
      s.modBoot (fun b => { b with hours := tmod 0 b.hours (tempBin temp) (fun n => min 0xFFFFFFFF (n + 1)), hourAt := some now })
    else s)

end Sys2Proof.Machine
end

