-- ==== Sys2Proof/Machine/Shown.lean ====
section
/-! DEFINITION. What a read of each item returns: the words that the hardware writes, and the reads that latch (R14, R169,
R197, R256, R350, R352). -/

namespace Sys2Proof.Machine

/-- The low word of a 64-bit value. -/
def lo32 (v : Nat) : Nat := v % 2 ^ 32

/-- The high word of a 64-bit value. -/
def hi32 (v : Nat) : Nat := (v >>> 32) % 2 ^ 32

/-- Word b of a value held in two words. -/
def word64 (v b : Nat) : Nat := if b = 0 then lo32 v else hi32 v

/-- Word k of a mask of the numbers below n that satisfy p. -/
def maskWord (n k : Nat) (p : Nat → Bool) : Nat := (List.range 32).foldl (fun m j => if 32 * k + j < n && p (32 * k + j) then m ||| 1 <<< j else m) 0

/-! Codes. -/

/-- The code of a Clasp state (R548). -/
def ClaspState.num : ClaspState → Nat
  | .running => 0
  | .resync => 1
  | .halted => 2
  | .restarting => 3
  | .outOfService => 4

/-- The code of an action entry's state (R267). -/
def ActState.num : ActState → Nat
  | .free => 0
  | .held => 1
  | .armed => 2
  | .fired => 3
  | .cancelled => 4
  | .dropped => 5

/-- The code of a lane state (R443). -/
def LaneState.num : LaneState → Nat
  | .down => 0
  | .idle => 1
  | .seek => 2
  | .change => 3
  | .adapt => 4
  | .up => 5
  | .test => 6
  | .failed => 7

/-- The code of a condition slot's state (R202). -/
def SlotState.num : SlotState → Nat
  | .off => 0
  | .warming => 1
  | .armed => 2
  | .counting => 3
  | .met => 4

/-- The code of SP's use (R105). -/
def SpUse.num : SpUse → Nat
  | .idle => 0
  | .temp => 1
  | .seamless => 2
  | .perm => 3
  | .failed => 4

/-- The code of a channel's converter (R92). -/
def Conv.num : Conv → Nat
  | .own => 0
  | .spTemp => 1
  | .spPerm => 2
  | .none_ => 3

/-! System block. -/

/-- CFG_STATE (R397). DEDUCED, log entry 77. -/
def State.cfgState (s : State) : Nat :=
  let m := s.image
  (if !s.running then 0 else if s.pendingKind 7 64 then 2 else 1) ||| b2n m.owner.isSome <<< 2 ||| b2n m.verified <<< 3
    ||| m.code <<< 4 ||| b2n m.fromStorage <<< 8 ||| m.failing <<< 16

/-- ROUTE_ENT of the ID in ROUTE_SEL (R494). DEDUCED, log entry 78. -/
def State.routeEnt (s : State) : Nat :=
  let id := s.cfgF 0x01 0 0x403 0 10
  match tfind s.net.routes id with
  | some r => 1 <<< r.1 ||| min 1023 (((tfind s.paths id).map Prod.fst).getD 0) <<< 16
  | none => 0

/-- CORE_STAT (R548). -/
def State.coreStat (s : State) : Nat :=
  s.core.st.num ||| b2n s.core.duplex <<< 3 ||| s.core.heldOut <<< 4 ||| s.core.minority <<< 6 ||| s.cnt16 coreStatId

/-- PAIR_STAT (R548). -/
def State.pairStat (s : State) : Nat :=
  s.pair.st ||| b2n s.time.isLead <<< 2 ||| b2n s.pair.partnerLeads <<< 3 ||| b2n s.pair.yielding <<< 4
    ||| s.cnt16 (pid 0x01 0 0x513)

/-- BOOT_STAT (R600). -/
def State.bootStat (s : State) : Nat :=
  let b := s.boot
  b.running ||| b2n (b.phase == .recovery) <<< 2 ||| b2n b.bootsel <<< 3 ||| b.cause <<< 4 ||| b2n b.stuck <<< 6
    ||| b.fuses <<< 8 ||| b.bootNum <<< 16

/-- An item of the system block (R372, R397, R494, R548, R600, R616). DEDUCED, log entries 77, 78. -/
def State.shownSystem (s : State) (id k : Nat) : Nat :=
  if k = 0x200 then s.cfgState
  else if k = 0x201 then s.image.committedGen
  else if k = 0x202 then s.image.gen
  else if k = 0x203 then 4 * s.image.words.length
  else if k = 0x204 then s.cnt16 id
  else if k = 0x300 then s.cnt31 id
  else if k = 0x301 ∨ k = 0x302 ∨ k = 0x501 ∨ k = 0x601 then s.cnt15x2 id
  else if k = 0x303 then s.inProgress.length ||| s.linkSources.length <<< 9 ||| s.cmds.fences.length <<< 16
  else if k = 0x401 then s.hubId ||| s.net.idState <<< 10 ||| s.cnt16 id
  else if k = 0x402 then s.usedIds.length ||| s.net.routes.length <<< 11
  else if k = 0x404 then s.routeEnt
  else if k = 0x410 then s.net.proxies.length ||| s.cnt16 id
  else if k = 0x500 then s.coreStat
  else if k = 0x502 then min 0xFFFF ((s.now - s.core.scrubAt) / 1000000)
  else if k = 0x513 then s.pairStat
  else if k = 0x600 then s.bootStat
  else if k = 0x602 then s.boot.lastRestart ||| s.boot.lastSwapped <<< 16
  else if k = 0x700 then code 16 s.boot.tempNow ||| s.boot.tempSensor <<< 16
  else if k = 0x701 then code 16 s.boot.tempPeak
  else if 0x702 ≤ k ∧ k ≤ 0x706 then tget 0 s.boot.hours (k - 0x702)
  else s.cfgAt id

/-! Time block. -/

/-- UTC: the configured value is in effect on a lead without a PTP source; elsewhere the distributed one shows (R256,
R385). DEDUCED, log entry 22. -/
def State.utcWord (s : State) : Nat := if s.utcStatus = stOk then s.cfgN 0x02 0 7 else s.time.utcDist.toNat

/-- ACT_STAT's state of entry n: one that has reached its T has fired, or is dropped (R267, R270, R271). -/
def State.actState (s : State) (n : Nat) : Nat :=
  if s.actDue n then (if s.fireCheck (s.act n) = 0 then 3 else 5) else (s.act n).st.num

/-- An item of an action entry (R267). -/
def State.actItem (s : State) (n k : Nat) : Nat :=
  let a := s.act n
  if k = 0 then a.typ.toNat
  else if k ≤ 2 then word64 a.target (k - 1)
  else if k ≤ 6 then a.arg (k - 3)
  else if k = 8 then s.actState n ||| (if s.actDue n then s.fireCheck a else a.reason) <<< 8
  else 0

/-- PT_STAT (R260). -/
def State.portTimeStat (s : State) (p id : Nat) : Nat :=
  (if s.timeOn p || s.ptpOn p then (s.ptime p).role else 0) ||| s.cnt16 id

/-- An item of the time block (R256, R260, R267, R275). DEDUCED, log entry 22. -/
def State.shownTime (s : State) (id i k : Nat) : Nat :=
  let m := s.time
  if i = 0 then
    if k = 7 then s.utcWord
    else if k = 0x010 then s.tstateWord
    else if k = 0x011 then s.leadWord
    else if k = 0x012 ∨ k = 0x013 then word64 m.latN (k - 0x012)
    else if k = 0x014 ∨ k = 0x015 then word64 m.latR (k - 0x014)
    else if k = 0x016 then satCode 32 m.phaseErr
    else if k = 0x017 then satCode 32 m.steer
    else if k = 0x018 then s.bound
    else if k = 0x019 then satCode 32 s.slewTotal
    else if k = 0x01A ∨ k = 0x01B then word64 m.holdEntry (k - 0x01A)
    else if 0x020 ≤ k ∧ k ≤ 0x024 then s.stat id
    else if k = 0x028 then s.cnt15x2 id
    else s.cfgAt id
  else if i < 0x100 then
    if k = 2 then code 32 (s.ptime (i - 0x010)).delay
    else if k = 3 then s.portTimeStat (i - 0x010) id
    else s.cfgAt id
  else if i < 0x200 then s.actItem (i - 0x100) k
  else if k = 2 then b2n (if i = 0x200 ∧ s.reinDir 0 = 2 then s.clkDriven s.now else (s.line (i - 0x200)).level) ||| b2n (s.line (i - 0x200)).fault <<< 1 ||| s.cnt16 id
  else s.cfgAt id

/-! Port block. -/

/-- LANE_STAT (R461). -/
def State.laneStat (s : State) (p id : Nat) : Nat :=
  let l := s.lane p
  l.st.num ||| l.gen <<< 4 ||| b2n l.pll <<< 6 ||| b2n (s.unitFenced 2 p) <<< 7 ||| b2n l.signal <<< 8
    ||| l.excl.toNat <<< 9 ||| s.cnt16 id

/-- The high word of BITS or ERRS: 16 bits and SAT (R460, R461). -/
def chkHigh (v : Nat) (sat : Bool) : Nat := fld v 32 16 ||| b2n sat <<< 16

/-- LINK_STAT (R493). -/
def State.linkStat (s : State) (p : Nat) : Nat :=
  let k := s.link p
  k.kind ||| b2n k.refused <<< 3 ||| b2n (k.kind != 0 && k.id.isNone) <<< 4 ||| k.id.getD 0 <<< 16

/-- An item of the port block (R461, R493). -/
def State.shownPort (s : State) (id p k : Nat) : Nat :=
  let l := s.lane p
  let bits := l.bits + s.chkBits p
  if k = 0x010 then s.laneStat p id
  else if k = 0x011 then l.ffe.toNat
  else if k = 0x014 ∨ k = 0x015 ∨ k = 0x016 ∨ k = 0x114 ∨ k = 0x115 then s.cnt31 id
  else if k = 0x018 then lo32 bits
  else if k = 0x019 then chkHigh bits (bits == chkMax)
  else if k = 0x01A then lo32 l.errs
  else if k = 0x01B then chkHigh l.errs (bits == chkMax || l.errs == chkMax)
  else if k = 0x01C then b2n l.chkLock ||| s.cnt16 id
  else if k = 0x01D then b2n l.anDone
  else if k = 0x110 then s.linkStat p
  else if k = 0x111 ∨ k = 0x112 then word64 (s.link p).eui (k - 0x111)
  else if k = 0x113 then min 255 (s.credits p 2) ||| min 255 (s.credits p 3) <<< 8
  else if k = 0x116 then s.cnt16 id
  else s.cfgAt id

/-! Archive block. -/

/-- An item of the archive block (R433). -/
def State.shownArchive (s : State) (id i k : Nat) : Nat :=
  let a := s.arc
  if i = 0 then
    if k = 0x030 then b2n a.mounted ||| b2n a.wrapped <<< 1 ||| (a.pass % 64) <<< 2 ||| s.cnt16 id
    else if k = 0x031 then a.head
    else if k = 0x032 then a.jobSt ||| (a.jobStatus % 256) <<< 8 ||| min 0xFFFF a.jobSkipped <<< 16
    else s.cfgAt id
  else
    let d := s.store (i - 1)
    if k = 1 then (if s.unitFenced 4 (i - 1) then 6 else d.st) ||| s.cnt16 id
    else if k = 2 then min full d.cap
    else if k = 3 then d.lifeA ||| d.lifeB <<< 4 ||| d.eol <<< 8
    else if k = 4 then s.resilverPoint (i - 1)
    else 0

/-! Fault block. -/

/-- Whether a fence that source n caused is in force (R525). -/
def State.fencing (s : State) (n : Nat) : Bool :=
  (s.faults.cells ++ s.faults.ports ++ s.faults.quads ++ s.faults.stores).any (fun (x : Nat × List Cause) => x.2.contains (.src n))

/-- FC_STAT (R525). -/
def State.fcStat (s : State) : Nat :=
  let f := s.faults
  b2n f.alive ||| b2n (!f.faultN) <<< 1 ||| b2n f.safe <<< 2 ||| b2n f.window.isSome <<< 3 ||| b2n f.tested <<< 4
    ||| ((List.range 128).filter (fun n => (s.fsrc n).severe)).length <<< 8

/-- LOCKET (R525). -/
def Locket.word (k : Locket) : Nat :=
  k.src ||| b2n k.severe <<< 8 ||| b2n k.valid <<< 9 ||| b2n k.overflow <<< 10 ||| b2n (k.later == 0xFFFF) <<< 15
    ||| k.later <<< 16

/-- An item of the collector (R525). -/
def State.shownCollector (s : State) (id k : Nat) : Nat :=
  let f := s.faults
  if k = 0x010 then f.locket.word
  else if k = 0x011 then f.locket.detail.toNat
  else if k = 0x012 ∨ k = 0x013 then word64 f.locket.ntime (k - 0x012)
  else if k = 0x014 ∨ k = 0x015 then word64 f.locket.runtime (k - 0x014)
  else if k = 0x016 then f.locket.ts ||| f.locket.island <<< 8
  else if k = 0x020 then s.fcStat
  else if 0x021 ≤ k ∧ k ≤ 0x024 then maskWord 128 (k - 0x021) (fun n => (s.fsrc n).active)
  else if 0x025 ≤ k ∧ k ≤ 0x028 then maskWord 128 (k - 0x025) (fun n => (s.fsrc n).latched)
  else if 0x029 ≤ k ∧ k ≤ 0x02C then maskWord 128 (k - 0x029) (fun n => (s.fsrc n).severe)
  else if k = 0x030 ∨ k = 0x031 then maskWord 48 (k - 0x030) s.cellFenced
  else if k = 0x032 then
    maskWord 6 0 (s.unitFenced 2) ||| maskWord 4 0 (s.unitFenced 3) <<< 8 ||| maskWord 2 0 (s.unitFenced 4) <<< 16
  else s.cfgAt id

/-- An item of fault source n (R505, R525). -/
def State.shownFault (s : State) (id n k : Nat) : Nat :=
  let f := s.fsrc n
  if k = 0 then s.srcCfg n
  else if k = 1 then s.srcW n
  else if k = 0x010 then
    b2n f.active ||| b2n f.latched <<< 1 ||| b2n f.severe <<< 2 ||| b2n (s.fencing n) <<< 3 ||| s.cnt16 id
  else if k = 0x011 then f.detail.toNat
  else if k = 0x014 then f.ts
  else word64 f.last (k - 0x012)

/-! Safety block. -/

/-- SO_STAT of output x (R575). -/
def State.soStat (s : State) (x id : Nat) : Nat :=
  let o := s.so x
  o.st.num ||| b2n o.hs <<< 3 ||| b2n o.ls <<< 4 ||| b2n o.hrb <<< 5 ||| b2n o.lrb <<< 6 ||| b2n (s.permitted x) <<< 7
    ||| o.lastTest <<< 8 ||| s.cnt16 id

/-- SAFE_STAT (R575). -/
def State.safeStat (s : State) : Nat :=
  let y := s.safety
  b2n y.confirmed ||| b2n y.startTest <<< 1 ||| b2n s.faults.safe <<< 2 ||| b2n y.so0.latch <<< 3 ||| b2n y.so1.latch <<< 4

/-- SI_STAT of input x (R575). -/
def State.siStat (s : State) (x id : Nat) : Nat :=
  let i := s.si x
  b2n i.a ||| b2n i.b <<< 1 ||| b2n i.demand <<< 2 ||| b2n i.disc <<< 3 ||| s.cnt16 id

/-- PAIR_STAT of alarm pair p (R575). -/
def State.apairStat (s : State) (p id : Nat) : Nat :=
  let a := s.apair p
  b2n a.a.demand ||| b2n a.b.demand <<< 1 ||| b2n (s.pairDemands p) <<< 2 ||| b2n a.disc <<< 3 ||| s.cnt16 id

/-- An item of the safety block (R575). -/
def State.shownSafety (s : State) (id k : Nat) : Nat :=
  if k = 0x010 ∨ k = 0x011 then s.soStat (k - 0x010) id
  else if k = 0x012 then s.safeStat
  else if k = 0x013 then s.safety.signet.toNat
  else if k = 0x014 then (s.boot.signetConf.getD 0).toNat
  else if 0x028 ≤ k ∧ k ≤ 0x02B then s.siStat (k - 0x028) id
  else if 0x100 ≤ k ∧ k < 0x200 ∧ k % 8 = 5 then s.apairStat ((k - 0x100) / 8) id
  else if 0x200 ≤ k ∧ k % 8 = 3 then (s.nsl ((k - 0x200) / 8)).st ||| s.cnt16 id
  else s.cfgAt id

/-! Optical block. -/

/-- ACTIVE of source n (R331). -/
def State.osActive (s : State) (n : Nat) : Nat :=
  let o := s.os n
  o.mode ||| o.cls <<< 4 ||| o.set <<< 6 ||| fld o.dim 3 14 <<< 18

/-- OS_STAT of source n (R331). -/
def State.osStat (s : State) (n id : Nat) : Nat :=
  let o := s.os n
  s.osCode n ||| b2n s.opt.derated <<< 3 ||| b2n o.limit <<< 4 ||| b2n (decide (0 < o.dim ∧ o.dim < 4096)) <<< 5 ||| s.cnt16 id

/-- An item of the optical block (R331). -/
def State.shownOptical (s : State) (id i k : Nat) : Nat :=
  if i < 16 then
    if k = 4 then 0
    else if k = 0x010 then s.osActive i
    else if k = 0x011 then (s.os i).level
    else if k = 0x013 then s.osStat i id
    else if k = 0x014 then min full ((s.now - s.osTested i) / 1000000000)
    else s.cfgAt id
  else if i = 0x010 ∧ k = 8 then
    code 16 s.opt.tdrv ||| b2n s.opt.extStale <<< 16 ||| b2n (s.cfgN 0x07 0x010 0 != (s.os 0).scale) <<< 17
  else s.cfgAt id

/-! Queue block. -/

/-- QSTAT (R432). -/
def State.qstat (s : State) : Nat :=
  let q := s.evq
  s.evCount ||| b2n (s.evCount == 0) <<< 13 ||| b2n q.underrun <<< 14 ||| b2n q.lost <<< 15 ||| b2n q.wm0.live <<< 16
    ||| b2n q.wm1.live <<< 17 ||| b2n q.wm0.up <<< 18 ||| b2n q.wm0.down <<< 19 ||| b2n q.wm1.up <<< 20
    ||| b2n q.wm1.down <<< 21 ||| b2n s.cmds.replyUnderrun <<< 22

/-- HS_STAT (R432). -/
def State.hsStat (s : State) : Nat :=
  s.fillUnits ||| b2n (s.hold.blks.any Blk.inSpill) <<< 12 ||| b2n (!s.admitStream) <<< 13 ||| (s.replyBytes / 4 % 2 ^ 16) <<< 16

/-- An item of the queue block (R432). -/
def State.shownQueue (s : State) (id k : Nat) : Nat :=
  if k = 4 then s.qstat
  else if k = 5 ∨ k = 9 ∨ k = 0x00A then s.cnt16lo id
  else if k = 6 then s.cnt31 id
  else if k = 8 then s.hsStat
  else s.cfgAt id

/-! Cells and channels. -/

/-- An item of a cell (R83, R105, R632). -/
def State.shownCell (s : State) (id c k : Nat) : Nat :=
  let x := s.cell c
  if k = 0x120 then x.spAssign.toNat
  else if k = 0x121 then x.spUse.num ||| x.spCh <<< 4 ||| x.retired.toNat <<< 8
  else if k = 0x122 then s.count id 0 ||| b2n (s.sat id 0 16) <<< 31
  else if k = 0x138 ∨ k = 0x139 then s.cnt31 id
  else if k = 0x140 then s.cnt16lo id
  else s.cfgAt id

/-- An item of a channel (R65, R92, R155, R167, R183, R195, R196). -/
def State.shownChannel (s : State) (id ch k : Nat) : Nat :=
  let c := s.chan ch
  if k = 0x024 then (s.chanStatus ch).1
  else if k = 0x043 then c.gainNow s.now ||| b2n c.recEnd.isSome <<< 4 ||| s.cnt16 id
  else if k = 0x044 then c.conv.num
  else if k = 0x053 then s.settleOf ch ||| b2n (c.settle != 0) <<< 16 ||| c.settle <<< 20
  else if k = 0x063 then 0
  else if k = 0x064 then c.accNo % 2 ^ 16 ||| (c.mmNo % 2 ^ 16) <<< 16
  else if 0x068 ≤ k ∧ k ≤ 0x07B then s.stat id
  else if k = 0x084 then b2n (c.span.any (fun p => p.typ == 3))
  else if 0x090 ≤ k ∧ k ≤ 0x0A7 then s.stat id
  else if k = 0x0A8 then s.cnt31 id
  else if k = 0x0A9 then code 32 c.lastWord.x
  else if k = 0x0AA then (c.infoFrozen.getD (BitVec.ofNat 32 (s.lastInfo ch))).toNat
  else if k = 0x0AB then c.coarseV.toNat
  else if k = 0x0AC then (c.coarseFrozen.getD c.coarseFl).toNat
  else s.cfgAt id

/-! Gaits. -/

/-- The coefficients a bank item shows: those of the built-in set, UNITY's one being 1.0, or those written (R135 to R137).
DESIGN CHOICE, log entry 10. -/
def State.coefWord (s : State) (id g : Nat) (b : Bool) (k : Nat) : Nat :=
  let set := fld (s.cfgN 0x12 g (0x010 + b2n b)) 28 3
  if set = 0 then s.cfgAt id else if set = 5 then (if k = 0 then 2 ^ 30 else 0) else if k < (builtinHdr set).1 then (Config.builtinCoef set k).toNat else 0

/-- An item of instance 0x0FF (R631). DESIGN CHOICE, log entry 10. -/
def fixedItem (k : Nat) : Nat :=
  let taps := Config.cmpTaps.val
  if k = 0 then taps
  else if (0x100 ≤ k ∧ k < 0x100 + taps) ∨ (0x200 ≤ k ∧ k ≤ 0x23A) ∨ (0x240 ≤ k ∧ k ≤ 0x25E) ∨ (0x280 ≤ k ∧ k ≤ 0x2DE)
      ∨ (0x300 ≤ k ∧ k ≤ 0x3EE) then (Config.fixedCoef k).toNat
  else 0

/-- A bank header as it reads: with BUILTIN set, the fields that R135 gives stand in place of those written (R137).
DEDUCED, log entry 113. -/
def shownHdr (w : Nat) : Nat :=
  let set := fld w 28 3
  if set = 0 then w
  else
    let b := builtinHdr set
    b.1 ||| b2n b.2.1 <<< 12 ||| b.2.2 <<< 16 ||| set <<< 28

/-- An item of a gait (R130, R137, R631). -/
def State.shownGait (s : State) (id g k : Nat) : Nat :=
  let d := s.cfgN 0x12 g 0
  let x := s.gait g
  if g = 0x0FF then fixedItem k
  else if k = 0x012 then 0
  else if k = 0x013 then b2n x.active ||| b2n x.pendingAt.isSome <<< 1 ||| s.cnt16 id
  else if k = 0x014 then lOf d (s.bank g x.active) ||| lOf d (s.bank g (!x.active)) <<< 16
  else if k = 0x015 then gdelayOf d (s.bank g x.active)
  else if k = 0x010 ∨ k = 0x011 then shownHdr (s.cfgAt id)
  else if 0x200 ≤ k ∧ k < 0x400 then s.coefWord id g false (k - 0x200)
  else if 0x400 ≤ k ∧ k < 0x600 then s.coefWord id g true (k - 0x400)
  else s.cfgAt id

/-! Records. -/

/-- T of an open record (R211, R242). DEDUCED, log entry 78. -/
def State.recTime (s : State) (r : Record) : Nat := r.tStamp.getD (s.stampOf r.trig)

/-- An item of a record slot (R211). -/
def State.recItem (s : State) (n id k : Nat) : Nat :=
  match tfind s.trig.recs n with
  | none => if k = 4 then s.cnt16 id else 0
  | some r =>
    if k = 0 then 1 ||| r.phase <<< 1 ||| r.profile <<< 4 ||| b2n (r.origin == 3) <<< 8 ||| r.epoch <<< 16
    else if k = 1 then r.num
    else if k = 2 ∨ k = 3 then word64 (s.recTime r) (k - 2)
    else if k = 4 then s.cnt16 id
    else 0

/-- An item of the record block (R211). -/
def State.shownRecord (s : State) (id i k : Nat) : Nat :=
  if i < 16 then s.cfgAt id
  else if i < 0x110 then s.recItem (i - 0x100) id k
  else if k = 0 then s.count id 0
  else if k = 1 then b2n (s.sat (pid 0x15 0x1FF 0) 0 32) ||| s.trig.recs.length <<< 4 ||| s.trig.epoch <<< 16
  else if k = 2 then s.trig.nextNum
  else if k = 3 then s.cfgAt id
  else 0

/-! Calibration. -/

/-- The 64 bytes of a drift-log entry (R304). -/
def LogEntry.bytes (e : LogEntry) : List Byte :=
  let b := le 1 1 ++ le 1 e.bits.toNat ++ le 1 e.island ++ zeros 1 ++ le 4 e.num ++ le 8 e.t
    ++ ((List.range 4).map (fun q => le 4 (code 32 (e.drift.getD q 0)))).flatten
    ++ ((List.range 4).map (fun q => le 4 (code 32 (e.corr.getD q 0)))).flatten
    ++ ((List.range 4).map (fun q => le 2 (code 16 (e.temps.getD q 0)))).flatten ++ le 2 (min 0xFFFF e.closure) ++ zeros 2
  b ++ le 4 (crc32c b)

/-- Word k of LOG_DATA: the entry LOG_SEL names (R304, R310). -/
def State.logWord (s : State) (k : Nat) : Nat :=
  match s.cal.log.find? (fun e => e.num == s.cfgN 0x16 0 0x012) with
  | some e => fle e.bytes (4 * k) 4
  | none => 0

/-- An item of a channel in the calibration block (R310). -/
def State.calChannel (s : State) (id ch k : Nat) : Nat :=
  let x := s.trims (s.carrier ch)
  let g := (s.chan ch).gainNow s.now
  if k = 1 then code 16 (x.ofs.getD g 0)
  else if k = 2 then code 20 (x.gain.getD g 0)
  else if k = 3 then x.age ||| b2n x.overdue <<< 16
  else if k = 4 then x.result ||| s.cnt16 id
  else s.cfgAt id

/-- An item of a cell in the calibration block (R310). -/
def State.calCellItem (s : State) (c k : Nat) : Nat :=
  let x := s.trims (convKey c 8)
  let g := (s.cell c).spGain
  let cf := fun (q : Nat) => code 10 (((s.ampTrim (2 * c + q)).codesAt s.now).getD 0 0)
  if k = 0 then code 16 (x.ofs.getD g 0)
  else if k = 1 then code 20 (x.gain.getD g 0)
  else if k = 2 then cf 0 ||| cf 1 <<< 16
  else x.age ||| x.result <<< 16

/-- An item of the calibration block (R310). -/
def State.shownCal (s : State) (id i k : Nat) : Nat :=
  let c := s.cal
  if i = 0 then
    if k = 0x010 then b2n c.puDone ||| b2n c.puFallback <<< 1 ||| b2n c.refSuspect <<< 2 ||| s.cnt16 id
    else if k = 0x011 then c.log.length % 2 ^ 16 ||| b2n c.logFull <<< 16
    else if 0x013 ≤ k ∧ k ≤ 0x022 then s.logWord (k - 0x013)
    else s.cfgAt id
  else if i < 0x204 then
    if k = 0 then code 32 (c.drift.getD (i - 0x200) 0)
    else if k = 1 then code 32 (c.corr.getD (i - 0x200) 0)
    else code 16 (c.temps.getD (i - 0x200) 0)
  else if i = 0x204 then if k = 0 then c.refin else min 0xFFFF c.closure
  else if i < 0x400 then
    let n := i - 0x300
    if k = 0 then code 16 (((s.srcTrim n).codesAt s.now).getD (s.cfgF 0x17 n 0 4 2) 0)
    else (s.srcTrim n).result ||| s.cnt16 id
  else if i < 0x600 then s.calChannel id (i - 0x400) k
  else s.calCellItem (i - 0x600) k

/-- An item of an excitation source (R60). -/
def State.shownSource (s : State) (id n k : Nat) : Nat :=
  let x := s.src n
  if k = 0x020 then x.iDrv.toNat
  else if k = 0x021 then x.vDrv.toNat
  else if k = 0x022 then x.iRet.toNat
  else if k = 0x023 then x.rLoad.toNat
  else if k = 0x024 then x.status ||| s.cnt16 id
  else s.cfgAt id

/-! Reads. -/

/-- The word an item shows. -/
def State.shown (s : State) (id : Nat) : Nat :=
  let i := pidInst id
  let k := pidItem id
  match pidBlock id with
  | 0x01 => s.shownSystem id k
  | 0x02 => s.shownTime id i k
  | 0x03 => s.shownPort id i k
  | 0x04 => s.shownArchive id i k
  | 0x05 => if i = 0 then s.shownCollector id k else s.shownFault id (i - 0x100) k
  | 0x06 => s.shownSafety id k
  | 0x07 => s.shownOptical id i k
  | 0x08 => s.shownQueue id k
  | 0x10 => s.shownCell id i k
  | 0x11 => s.shownChannel id i k
  | 0x12 => s.shownGait id i k
  | 0x13 => if k = 0x010 then (s.slot i).st.num ||| s.cnt16 id else s.cfgAt id
  | 0x14 => if k = 2 then s.cnt16 id else s.cfgAt id
  | 0x15 => s.shownRecord id i k
  | 0x16 => s.shownCal id i k
  | _ => s.shownSource id i k

/-- Brings the counts of a running checker up to now, so that ERRS can be read (R459, R460).
DESIGN CHOICE, log entry 36. -/
def State.chkSync (s : State) (p : Nat) : State :=
  if (s.lane p).chkLock then
    let now := s.now
    (s.chkFold p).modLane p (fun l => { l with chkLock := true, chkSince := now })
  else s

/-- The read of an item of a port: equaliser, eye and Ethernet conditions are what the line gives, and the error count is
brought up to now (R459, R461). DESIGN CHOICE, log entry 36. -/
def State.readPort (s : State) (id p k : Nat) : State × Nat :=
  let f := s.takeFree
  if k = 0x012 then (f.2, f.1.toNat % 25 ||| fld f.1.toNat 8 24 <<< 8)
  else if k = 0x013 then (f.2, f.1.toNat)
  else if k = 0x01D ∧ s.ethMode p = true then (f.2, s.shownPort id p k ||| (f.1.toNat % 8) <<< 1)
  else if k = 0x01A ∨ k = 0x01B then (s.chkSync p, (s.chkSync p).shownPort id p k)
  else (s, s.shownPort id p k)

/-- Reads one item: its word and what the read latches (R169, R197, R256, R352). -/
def State.readItem (s : State) (id : Nat) : State × Nat :=
  let i := pidInst id
  let k := pidItem id
  match pidBlock id with
  | 0x02 => if i = 0 ∧ k = 0x012 then s.readNtimeLat else (s, s.shown id)
  | 0x03 => s.readPort id i k
  | 0x07 =>
    if i < 16 ∧ k = 0x012 then
      let f := s.takeFree
      (f.2, f.1.toNat % 2 ^ 16)
    else (s, s.shown id)
  | 0x11 =>
    if k = 0x0A9 then s.readLastSample i
    else if k = 0x0AB then s.readLastCoarse i
    else (s, s.shown id)
  | _ => (s, s.shown id)

/-- Reads items in order (R352). -/
def State.readItems (s : State) : List Nat → State × List Nat
  | [] => (s, [])
  | id :: r =>
    let x := s.readItem id
    let y := State.readItems x.1 r
    (y.1, x.2 :: y.2)

/-- Whether an item can be read: it exists and is not write-only (R352). -/
def readStatus (id : Nat) : Nat :=
  match descOf id with
  | none => stParamRange
  | some d => if d.acc = .wo then stDenied else stOk

end Sys2Proof.Machine
end

