-- ==== Sys2Proof/Machine/ItemRules.lean ====
section
/-! DEFINITION. The checks of configuration writes: what the hub's state denies, and the rules on the resulting
configuration, for live writes and for a whole image (R46, R131, R164, R200, R208, R213, R350, R382). -/

namespace Sys2Proof.Machine

/-! Cells and channels. -/

/-- NODE of a tap of a cell (R44). -/
def State.node (s : State) (cell tap : Nat) : Nat := s.cfgF 0x10 cell (0x100 + tap) 0 4

/-- The taps of a cell whose NODE is n. -/
def State.tapsOf (s : State) (cell n : Nat) : List Nat := (List.range 12).filter (fun t => s.node cell t == n)

/-- PTAP, NTAP, SRC and SERVED of a channel's configured input word (R45). -/
def State.inputWord (s : State) (ch : Nat) : Nat := s.cfgN 0x11 ch 0x020

/-- SRC of a channel. -/
def State.inputSrc (s : State) (ch : Nat) : Nat := fld (s.inputWord ch) 8 2

/-- Whether a tap can be an input: its NODE is neither the guard nor a QA input (R46). -/
def State.inputTap (s : State) (cell tap : Nat) : Bool :=
  let n := s.node cell tap
  12 ≤ tap || (n != 9 && n != 0xB && n != 0xC)

/-- The rules of R46 on one channel. -/
def State.inputsOk (s : State) (ch : Nat) : Bool :=
  let w := s.inputWord ch
  let cell := cellOfCh ch
  let p := fld w 0 4
  let n := fld w 4 4
  if s.inputSrc ch = 0 then p != n && s.inputTap cell p && s.inputTap cell n
  else s.inputSrc ch != 1 || decide (6 ≤ ch % 8)

/-- The rules of R46 on a cell's matrix; that of sources in VW mode cannot be broken, since a tap has one NODE. -/
def State.matrixOk (s : State) (cell : Nat) : Bool :=
  [1, 2, 3, 4, 5, 6, 7, 8, 0xB, 0xC].all (fun n => decide ((s.tapsOf cell n).length ≤ 1)) && (chansOf cell).all s.inputsOk

/-- GSEL of a cell fits FOLLOW (R52). -/
def State.guardOk (s : State) (cell : Nat) : Bool :=
  let w := s.cfgN 0x10 cell 0x110
  decide (fld w 4 4 < if bit w 1 then 12 else 8)

/-- MODE of a source. -/
def State.srcMode (s : State) (n : Nat) : Nat := s.cfgF 0x17 n 0 0 3

/-- The binding of a source in VW mode: the lowest channel it serves with SRC 0 has its drive and return taps (R70).
DEDUCED, log entry 26. -/
def State.bindingOk (s : State) (n : Nat) : Bool :=
  let cell := n / 4
  match (chansOf cell).find? (fun ch => bit (s.inputWord ch) (10 + n % 4) && s.inputSrc ch == 0) with
  | none => false
  | some ch =>
    let w := s.inputWord ch
    (s.tapsOf cell (1 + n % 4)).contains (fld w 0 4) && (s.tapsOf cell (5 + n % 4)).contains (fld w 4 4)

/-- The rules on a source in VW mode (R59, R70). -/
def State.vwOk (s : State) (n : Nat) : Bool :=
  if s.srcMode n ≠ 4 then true
  else
    let sweep := s.cfgN 0x17 n 3
    let hz := fun (f : Nat) => decide (400 ≤ f ∧ f ≤ 6000)
    let ms := s.cfgF 0x17 n 4 0 7
    hz (fld sweep 0 13) && hz (fld sweep 16 13) && decide (1 ≤ ms ∧ ms ≤ 100) && s.bindingOk n

/-- SETTING of a source (R54). -/
def State.settingOk (s : State) (n : Nat) : Bool :=
  let v := s.cfgF 0x17 n 1 0 16
  v == 0 || decide (2731 ≤ v)

/-- The rules on the routing of a cell (R46, R52, R70). -/
def State.routingOk (s : State) (cell : Nat) : Bool :=
  s.matrixOk cell && s.guardOk cell && (srcsOf cell).all s.vwOk

/-- The rules on a channel's gain (R82, R92, R102). -/
def State.gainOk (s : State) (ch : Nat) : Bool :=
  let w := s.cfgN 0x11 ch 0x040
  let g := fld w 0 3
  let auto := bit w 5
  let lo := fld w 8 3
  let hi := fld w 12 3
  decide (lo ≤ hi) && (!auto || decide (lo ≤ g ∧ g ≤ hi))
    && (s.inputSrc ch != 1 || (g != 0 && (!auto || lo != 0)))

/-- The mode that decides whether an optical source can be a reference: the active one for a live write, the staged one for
an image, whose staged sets are applied at C (R320, R384). -/
def State.refMode (s : State) (img : Bool) (n : Nat) : Nat := if img then fld (s.osStaged n 0) 0 3 else (s.os n).mode

/-- The rules on a channel's reference; strict when the reference itself is written or in an image (R164, R320). -/
def State.referenceOk (s : State) (img strict : Bool) (ch : Nat) : Bool :=
  let w := s.cfgN 0x11 ch 0x052
  let lock := s.lockIn ch
  let ix := fld w 2 4
  let ac := fun (m : Nat) => m == 2 || m == 3
  match fld w 0 2 with
  | 0 => !lock
  | 1 => !(lock || strict) || (decide (ix < 4) && ac (s.srcMode (4 * cellOfCh ch + ix)))
  | _ => !lock || ac (s.refMode img ix)

/-! Gaits, profiles, slots and groups. -/

/-- CORNER at most a tenth of the output rate: CORNER × D at most 1,600,000 mHz (R131). DEDUCED, log entry 27. -/
def State.cornerOk (s : State) (g : Nat) : Bool := decide (s.cfgF 0x12 g 1 8 16 * s.cfgN 0x12 g 0 ≤ 1600000)

/-- The channels that select a gait. DEDUCED, log entry 94. -/
def State.selecting (s : State) (g : Nat) : List Nat := (List.range 384).filter (fun ch => s.cfgF 0x11 ch 0x050 0 3 == g)

/-- The rules of R213 on the profiles, with EN set, that satisfy p. -/
def State.profilesOk (s : State) (p : Nat → Bool) : Bool :=
  (List.range 16).all (fun q => !s.cfgB 0x15 q 0 0 || !p q || s.profileOk q)

/-- Whether a profile has a member of a list. -/
def State.hasMember (s : State) (l : List Nat) (q : Nat) : Bool := (s.profMembers q).any l.contains

/-- The rules on a gait's DECIM, CORNER and LOCKIN (R131, R164, R213); corner: the corner counts though EN is clear. -/
def State.gaitOk (s : State) (img corner : Bool) (g : Nat) : Bool :=
  decimOk (s.cfgN 0x12 g 0) && (!(corner || s.cfgB 0x12 g 1 0) || s.cornerOk g)
    && (s.selecting g).all (s.referenceOk img img)

/-- The rules of R200 on a slot. -/
def State.slotOk (s : State) (n : Nat) : Bool :=
  let kind := s.slotKind n
  let a := signed 32 (s.cfgN 0x13 n 1)
  let b := signed 32 (s.cfgN 0x13 n 2)
  let w := s.cfgN 0x13 n 5
  (kind != 2 || decide (a ≤ b)) && (kind != 3 || decide (0 < a)) && decide (fld w 0 4 < fld w 8 5)
    && decide (s.cfgF 0x13 n 6 0 16 < fld w 16 16)

/-- The rule of R208 on a group. -/
def State.groupOk (s : State) (g : Nat) : Bool :=
  let w := s.cfgN 0x14 g 0
  !bit w 0 || decide (fld w 8 10 ≤ ((List.range 512).filter (s.inGroup g)).length)

/-! The other blocks. -/

/-- FAILOVER names no route for itself (R548). DEDUCED, log entry 94. -/
def State.failoverOk (s : State) : Bool :=
  (List.range 8).all (fun r =>
    let f := s.cfgF 0x01 0 0x511 (4 * r) 4
    decide (f ≤ 8) && f != r + 1)

/-- A TIME pair needs LEAD_EN (R539). -/
def State.timePairOk (s : State) : Bool := !s.cfgB 0x01 0 0x510 12 || s.leadEn

/-- The SEED pair (R250). -/
def State.seedOk (s : State) : Bool := (s.cfgN 0x02 0 5 + s.cfgN 0x02 0 6 * 2 ^ 32) % 62500 == 0

/-- PT_CFG and ASYM of a port (R260). -/
def State.portTimeOk (s : State) (p : Nat) : Bool :=
  let w := s.cfgN 0x02 (0x010 + p) 0
  let sync := fld w 16 4
  (!bit w 2 || (decide (p < 2) && s.ethMode p)) && (sync == 0 || decide (12 ≤ sync))
    && decide ((signed 32 (s.cfgN 0x02 (0x010 + p) 1)).natAbs ≤ 1000000)

/-- LANE_CFG and FFE_INIT of a port (R461). DEDUCED, log entry 27. -/
def State.laneCfgOk (s : State) (p : Nat) : Bool :=
  (decide (p < 2) || !s.ethMode p) && ffeOk (ffeOf (s.cfgN 0x03 p 1))

/-- LANE_TEST and ERR_INJ of an image (R463). DEDUCED, log entry 94. -/
def State.laneImageOk (s : State) (p : Nat) : Bool := s.cfgN 0x03 p 3 == 0 && !s.cfgB 0x03 p 6 1

/-- SRC_CFG and SRC_W of a fault source (R505, R513, R516). -/
def State.faultSrcOk (s : State) (n : Nat) : Bool :=
  let w := s.cfgN 0x05 (0x100 + n) 0
  if srcFixed n then w == srcCfgDefault n && s.cfgN 0x05 (0x100 + n) 1 == srcWDefault n
  else (!bit w 8 || (unitOf n).isSome) && ((n != 98 && n != 99) || bit w 10)

/-- The staged set of an optical source (R318). -/
def State.stagedOk (s : State) (n : Nat) : Bool :=
  fld (s.osStaged n 0) 0 3 < 2 || decide (4096 ≤ s.osStaged n 2)

/-- A watermark's levels (R407). -/
def State.wmOk (s : State) (k : Nat) : Bool := decide (s.cfgF 0x08 0 k 16 12 < s.cfgF 0x08 0 k 0 12)

/-- SPILL_OFF below SPILL_ON (R432). -/
def State.spillOk (s : State) : Bool := decide (s.cfgF 0x08 0 7 12 12 < s.cfgF 0x08 0 7 0 12)

/-- The alarm channels, each once for every entry that names it (R552). -/
def State.alarmList (s : State) : List Nat :=
  ((List.range 32).filter s.pairEn).flatMap (fun p => [(s.pairChans p).1, (s.pairChans p).2])

/-- The rules of R552 on one entry with EN set. -/
def State.pairOk (s : State) (p : Nat) : Bool :=
  let c := s.pairChans p
  let kind := fld (s.pairCfg p) 28 3
  let item := fun (k : Nat) => signed 32 (s.cfgN 0x06 0 (0x100 + 8 * p + k))
  !s.pairEn p || (decide (c.1 < 384 ∧ c.2 < 384) && cellOfCh c.1 != cellOfCh c.2 && decide (1 ≤ kind ∧ kind ≤ 3)
    && (kind != 3 || decide (item 1 < item 2)) && !s.mayPause c.1 && !s.mayPause c.2)

/-- NSL_ID of the connections with EN set (R575). -/
def State.nslIdsOk (s : State) : Bool :=
  let ids := ((List.range 16).filter (fun c => bit (s.nslCfg c) 16)).map (fun c => s.cfgN 0x06 0 (0x201 + 8 * c))
  !ids.contains 0 && ids.Nodup

/-- The rules on the safety section (R552, R575). -/
def State.safetyOk (s : State) : Bool :=
  decide (2 * s.cfgF 0x06 0 1 0 6 ≤ s.cfgF 0x06 0 0 16 7) && (List.range 32).all s.pairOk && s.alarmList.Nodup && s.nslIdsOk

/-! Live writes. -/

/-- Whether the resulting configuration keeps the rules that a live write of an item can break (R350). -/
def State.resultOk (s : State) (id : Nat) : Bool :=
  let i := pidInst id
  let k := pidItem id
  match pidBlock id with
  | 0x01 => if k = 0x510 then s.timePairOk else if k = 0x511 then s.failoverOk else true
  | 0x02 =>
    if i = 0 ∧ (k = 5 ∨ k = 6) then s.seedOk
    else if 0x010 ≤ i ∧ i ≤ 0x015 then s.portTimeOk (i - 0x010)
    else true
  | 0x03 => if k ≤ 1 then s.laneCfgOk i && s.portTimeOk i else true
  | 0x05 => i < 0x100 || s.faultSrcOk (i - 0x100)
  | 0x07 => 16 ≤ i || s.stagedOk i
  | 0x08 => if k = 1 ∨ k = 2 then s.wmOk k else if k = 7 then s.spillOk else true
  | 0x10 => s.routingOk i
  | 0x11 =>
    if k = 0x020 then s.routingOk (i / 8) && s.gainOk i
    else if k = 0x040 then s.gainOk i
    else if k = 0x050 then s.referenceOk false false i && s.profilesOk (s.hasMember [i])
    else if k = 0x052 then s.referenceOk false true i
    else true
  | 0x12 =>
    if k ≤ 2 then s.gaitOk false (k == 1) i && (k != 0 || s.profilesOk (s.hasMember (s.selecting i))) else true
  | 0x13 => s.slotOk i
  | 0x14 => s.groupOk i
  | 0x15 => s.profilesOk (fun q => q == i)
  | 0x17 => s.settingOk i && s.vwOk i && (chansOf (i / 4)).all (s.referenceOk false false)
  | _ => true

/-- Whether an item belongs to the section of an alarm cell, an alarm channel or a source that serves one (R554). -/
def State.alarmItem (s : State) (id : Nat) : Bool :=
  let i := pidInst id
  match pidBlock id with
  | 0x10 => s.alarmCell i
  | 0x11 => s.isAlarm i
  | 0x17 => s.alarmSource i
  | _ => false

/-- Whether an item belongs to the active bank of its gait, or to any while a swap is pending, or is a coefficient of a
built-in set (R137, R138). -/
def State.bankClosed (s : State) (g k : Nat) : Bool :=
  let b := k == 0x011 || decide (0x400 ≤ k)
  let x := s.gait g
  if k = 0x010 ∨ k = 0x011 ∨ 0x200 ≤ k then
    b == x.active || x.pendingAt.isSome || (decide (0x200 ≤ k) && fld (s.cfgN 0x12 g (0x010 + b2n b)) 28 3 != 0)
  else false

/-- Whether an optical action that names source n is held or armed (R324). -/
def State.osNamed (s : State) (n : Nat) : Bool :=
  (List.range 64).any (fun k => (s.act k).busy && (s.act k).kind == 5 && bit ((s.act k).arg 0) n)

/-- Whether v changes what ARC_CFG says of MODE or the areas while a port is not detached (R433). -/
def State.layoutClosed (s : State) (v : Nat) : Bool :=
  let m := setFld (setFld v 0 1 0) 2 1 0
  let o := setFld (setFld (s.cfgN 0x04 0 0) 0 1 0) 2 1 0
  m != o && !s.bothDetached

/-- Whether the hub's state denies a write of v to an item (R138, R256, R267, R309, R324, R433, R458, R505, R554, R575).
DEDUCED, log entries 27, 73. -/
def State.denied (s : State) (id v : Nat) : Bool :=
  let i := pidInst id
  let k := pidItem id
  match pidBlock id with
  | 0x02 =>
    if i = 0 ∧ k = 7 then s.utcStatus != stOk
    else decide (0x100 ≤ i ∧ i ≤ 0x13F ∧ k ≤ 6) && (s.act (i - 0x100)).busy
  | 0x03 => k == 6 && v &&& 3 != 0 && !s.genEn i
  | 0x04 => i == 0 && k == 0 && s.layoutClosed v
  | 0x05 => decide (0x100 ≤ i) && srcFixed (i - 0x100)
  | 0x06 => true
  | 0x07 =>
    if i < 16 then decide (k ≤ 3) && s.osNamed i
    else i == 0x010 && k == 0 && s.pendingKind 5 64
  | 0x12 => s.bankClosed i k
  | 0x16 => decide (0x400 ≤ i) && bit v 0 && s.isAlarm (i - 0x400)
  | _ => s.alarmItem id

/-- The status of a write of v to one item by itself, its access, the hub's state and its fields considered (R350, R393).
DEDUCED, log entries 27, 73. -/
def State.writeStatus (s : State) (id v : Nat) : Nat :=
  match descOf id with
  | none => stParamRange
  | some d =>
    if heldBlock (pidBlock id) && !s.running then stNotCommitted
    else if d.acc = .ro ∨ (d.acc = .rw ∧ s.denied id v = true) then stDenied
    else if fieldsOk d v = false then stParamRange
    else if pidBlock id = 0x03 ∧ pidItem id = 3 then s.laneTestStatus (pidInst id) v
    else stOk

/-! Images. -/

/-- The rules on one section of the complete resulting configuration (check code 8 of R382). -/
def State.sectionOk (s : State) (b i : Nat) : Bool :=
  match b with
  | 0x01 => s.timePairOk && s.failoverOk
  | 0x02 => if i = 0 then s.seedOk else if i < 0x100 then s.portTimeOk (i - 0x010) else true
  | 0x03 => s.laneCfgOk i && s.laneImageOk i
  | 0x05 => i < 0x100 || s.faultSrcOk (i - 0x100)
  | 0x06 => s.safetyOk
  | 0x07 => 16 ≤ i || s.stagedOk i
  | 0x08 => s.wmOk 1 && s.wmOk 2 && s.spillOk
  | 0x10 => s.routingOk i
  | 0x11 => s.gainOk i && s.referenceOk true true i
  | 0x12 => s.gaitOk true true i
  | 0x13 => s.slotOk i
  | 0x14 => s.groupOk i
  | 0x15 => s.profilesOk (fun q => q == i)
  | 0x17 => s.settingOk i && s.vwOk i
  | _ => true

end Sys2Proof.Machine
end

