-- ==== Sys2Proof/Machine/ItemWrite.lean ====
section
/-! DEFINITION. Writes of items: the check of a set, the effect of each item, and the commands that write items (R28, R47,
R350, R351, R353, R362). -/

namespace Sys2Proof.Machine

/-! Command items. -/

/-- Whether an item starts a deferred operation, so that it must be the only one of its command (R351). -/
def deferredItem (id : Nat) : Bool :=
  let k := pidItem id
  (pidBlock id == 0x11 && k == 0x084) || (pidBlock id == 0x16 && pidInst id == 0 && (k == 4 || k == 6))

/-- The status of OS_CTL of a source (R318, R320, R331). -/
def State.osCtlStatus (s : State) (n v : Nat) : Nat :=
  if bit v 0 ∧ s.osCheck n ≠ stOk then s.osCheck n else if bit v 1 then s.osClearStatus n else stOk

/-- The status of a write of v to ACT_CTL of entry n, and its reason (R267, R268). -/
def State.actCtlStatus (s : State) (n v : Nat) : Nat × Nat :=
  match v with
  | 0 => (stOk, 0)
  | 1 => s.ctlStatus n
  | 2 => (s.cancelStatus n, (s.act n).reason)
  | _ => (stParamRange, (s.act n).reason)

/-- The own status of a write of v to a command item (R106, R140, R169, R182, R211, R213, R267, R291, R307, R331, R433,
R548). -/
def State.cmdStatus (s : State) (id v : Nat) : Nat :=
  let i := pidInst id
  let k := pidItem id
  match pidBlock id with
  | 0x01 => if v = 0 ∨ (s.timePair && s.time.isLead) = true then stOk else stDenied
  | 0x02 => if 0x100 ≤ i ∧ i ≤ 0x13F ∧ k = 7 then (s.actCtlStatus (i - 0x100) v).1 else stOk
  | 0x04 => if v = 3 then stParamRange else stOk
  | 0x07 => s.osCtlStatus i v
  | 0x10 => s.spAssignStatus i v
  | 0x11 => if k = 0x063 then redCtlStatus v else if v = 0 then stOk else s.measStatus i
  | 0x12 => if v = 0 then stOk else s.swapStatus i
  | 0x15 => if i = 0x1FF then s.manualStatus (fld v 0 4) else if v = 0 then stOk else s.rctlStatus (i - 0x100)
  | 0x16 =>
    if k = 4 then s.calStatus (fld v 0 4) (v >>> 4)
    else if k = 6 then s.testStatus (fld v 0 4) (v >>> 4)
    else stOk
  | _ => stOk

/-- Clears what QCTL names (R408, R432). -/
def State.doQctl (s : State) (v : Nat) : State :=
  let q := s.evq
  { s with
    evq := { q with
      underrun := q.underrun && !bit v 0
      lost := q.lost && !bit v 2
      wm0 := if bit v 1 then quietWm q.wm0 else q.wm0
      wm1 := if bit v 1 then quietWm q.wm1 else q.wm1 }
    cmds := { s.cmds with replyUnderrun := s.cmds.replyUnderrun && !bit v 3 } }

/-- OS_CTL of a source: APPLY, and CLEAR, whose test at once gives a result the command does not carry (R323, R328).
DESIGN CHOICE, log entry 79. -/
def State.doOsCtl (s : State) (n v : Nat) : State :=
  let s := if bit v 0 then s.doOsApply (s.now + 1) (2 ^ n) else s
  if bit v 1 then
    let f := s.takeFree
    f.2.doOsClear n (bit f.1.toNat 0)
  else s

/-- LANE_CTL: RETRAIN and CLEAR (R443, R460). -/
def State.doLaneCtl (s : State) (p v : Nat) : State :=
  let s := if bit v 0 then (s.modLane p (fun l => { l with excl := 0 })).laneRestart p else s
  if bit v 1 then s.doLaneClear p else s

/-- The effect of an accepted write of v to a command item. -/
def State.cmdEffect (s : State) (id v : Nat) : State :=
  let i := pidInst id
  let k := pidItem id
  match pidBlock id with
  | 0x01 => if v = 1 then s.yieldLead else s
  | 0x02 => if v = 1 then s.takeAct (i - 0x100) else if v = 2 then s.cancelAct (i - 0x100) else s
  | 0x03 => s.doLaneCtl i v
  | 0x04 => if v = 1 then s.doDetach (i - 1) else if v = 2 then s.doAttach (i - 1) else s
  | 0x07 => s.doOsCtl i v
  | 0x08 => s.doQctl v
  | 0x10 => s.doSpAssign i v
  | 0x11 => if k = 0x063 then s.doRedCtl i v else if v = 1 then s.doMeas i else s
  | 0x12 => if v = 1 then s.doSwap i (s.now + 1) true else s
  | 0x15 => if i = 0x1FF then (s.doManual (fld v 0 4) (bit v 4)).1 else if v = 1 then s.doRctl (i - 0x100) else s
  | _ => if k = 5 then s.doBaseline v else s

/-! Configurable items. -/

/-- An item of an action entry takes v (R267). -/
def State.putAct (s : State) (n k v : Nat) : State :=
  s.modAct n (fun a => {
    typ := if k = 0 then BitVec.ofNat 32 v else a.typ
    target :=
      if k = 1 then (a.target >>> 32) <<< 32 ||| v else if k = 2 then v <<< 32 ||| a.target % 2 ^ 32 else a.target
    args := (List.range 4).map (fun j => if k = 3 + j then BitVec.ofNat 32 v else a.args.getD j 0)
    st := a.st
    reason := a.reason })

/-- An item is configured as v: an action entry takes it itself, and SINGLE of ERR_INJ reads 0 (R267, R461). -/
def State.configure (s : State) (id v : Nat) : State :=
  let i := pidInst id
  if pidBlock id = 0x02 ∧ 0x100 ≤ i ∧ i ≤ 0x13F then s.putAct (i - 0x100) (pidItem id) v
  else if pidBlock id = 0x03 ∧ pidItem id = 6 then s.setCfg id (setFld v 0 1 0)
  else s.setCfg id v

/-- LANE_CFG of a lane goes from old to new (R443, R446, R461). -/
def State.laneCfgEffect (s : State) (p old new : Nat) : State :=
  let rest := fun (w : Nat) => setFld (setFld w 0 1 0) 8 1 0
  if bit old 0 && !bit new 0 then
    if laneActive (s.lane p).st then s.setLane p (laneStop .idle) else s
  else if !bit old 0 && bit new 0 then (s.modLane p (fun l => { l with excl := 0 })).laneStart p
  else if rest old ≠ rest new then s.laneRestart p
  else s

/-- PAIR_CFG goes from old to new: another partner has not been heard yet (R539 to R541, R547). -/
def State.pairCfgEffect (s : State) (old new : Nat) : State :=
  let now := s.now
  if fld old 0 10 = fld new 0 10 then s.routeRefresh
  else ({ s with pair := { s.pair with
    st := 0, rxSeq := none, run := 0, lastRx := now, partnerLeads := false } }).routeRefresh

/-- What follows at once from an item that went from old to new: everything that does not change a cell's signal path
takes effect when it arrives (R28). -/
def State.itemFollows (s : State) (id old new : Nat) : State :=
  let i := pidInst id
  let k := pidItem id
  match pidBlock id with
  | 0x01 =>
    if k = 0x510 then s.pairCfgEffect old new
    else if k = 0x511 ∨ (0x420 ≤ k ∧ k ≤ 0x427) then s.routeRefresh
    else s
  | 0x02 =>
    if i = 0 ∧ k = 0 ∧ old ≠ new then s.refreshLead.ptpCheck
    else if i = 0 ∧ k = 4 then s.limitBack
    else if 0x010 ≤ i ∧ i ≤ 0x015 ∧ k = 0 ∧ old ≠ new then (s.ptpReconf (i - 0x010)).refreshLead
    else s
  | 0x03 =>
    if k = 0 then s.laneCfgEffect i old new
    else if (k = 4 ∨ k = 5) ∧ old ≠ new ∧ s.cfgF 0x03 i 3 8 3 = 4 then s.patternChange i
    else if k = 6 ∧ bit new 0 = true then s.injectBit i
    else if k = 0x100 ∧ old ≠ new then s.floodOwn.routeRefresh
    else s
  | 0x08 => if k = 1 ∨ k = 2 then s.updWm else s
  | 0x13 => s.slotReset i
  | _ => s

/-- A write to an item of a fenced cell waits for the patience of its crossing (R23). DEDUCED, log entry 75. -/
def State.issueFenced (s : State) (id v : Nat) : State :=
  match cellOf id with
  | some c => if !signalPath id && s.cellFenced c then s.issue c id v else s
  | none => s

/-- The effect of an accepted write of v to a configurable item. DEDUCED, log entry 110. -/
def State.applyConfig (s : State) (id v : Nat) : State :=
  let b := pidBlock id
  let i := pidInst id
  let k := pidItem id
  let old := s.cfgAt id
  let s := s.issueFenced id v
  if b = 0x12 ∧ signalPath id = true then s.gaitWrite (s.now + 1) i id v
  else if signalPath id then (s.issue ((cellOf id).getD 0) id v).setCfg id v
  else if b = 0x11 ∧ k = 0x060 then (s.recfgIntervals i).setCfg id v
  else if b = 0x02 ∧ i = 0 ∧ k = 7 then s.doUtc v
  else if b = 0x03 ∧ k = 3 then s.doLaneTest i v
  else if b = 0x07 ∧ i = 0x010 ∧ k = 3 then s.doExtTemp v
  else (s.configure id v).itemFollows id old v

/-! Sets. -/

/-- Whether an item is a command item. -/
def isCommand (id : Nat) : Bool := ((descOf id).map (fun d => d.acc == .cmd || d.acc == .wo)).getD false

/-- The effect of an accepted write. -/
def State.applyItem (s : State) (x : Nat × Nat) : State :=
  if isCommand x.1 then s.cmdEffect x.1 x.2 else s.applyConfig x.1 x.2

/-- The configuration that a set of writes leaves. DEDUCED, log entry 74. -/
def State.resulting (s : State) (l : List (Nat × Nat)) : State :=
  forAll (l.filter (fun (x : Nat × Nat) => !isCommand x.1)) (fun s x => s.configure x.1 x.2) s

/-- The status of one write of a set of n, the resulting configuration r being given for the checks of command items
(R350, R351). DEDUCED, log entry 74. -/
def State.ownStatus (s r : State) (n : Nat) (x : Nat × Nat) : Nat :=
  if deferredItem x.1 && n != 1 then stParamRange
  else if s.writeStatus x.1 x.2 ≠ stOk then s.writeStatus x.1 x.2
  else if isCommand x.1 then r.cmdStatus x.1 x.2
  else stOk

/-- Whether the configuration that a list of writes leaves keeps every rule that they can break (R46, R47). -/
def State.listOk (s : State) (l : List (Nat × Nat)) : Bool :=
  let r := s.resulting l
  l.all (fun (x : Nat × Nat) => isCommand x.1 || r.resultOk x.1)

/-- The length of the longest beginning of a list of writes, of at most n, after which the rules hold. -/
def State.okLength (s : State) (l : List (Nat × Nat)) : Nat → Nat
  | 0 => 0
  | n + 1 => if s.listOk (l.take (n + 1)) then n + 1 else State.okLength s l n

/-- The status and the index of the first item of a set that fails: by itself, or as the item from which on the
configuration built in list order breaks a rule (R350). DEDUCED, log entry 74. -/
def State.setFailure (s : State) (l : List (Nat × Nat)) : Option (Nat × Nat) :=
  let own := l.map (s.ownStatus (s.resulting l) l.length)
  let good := l.zipIdx.filter (fun (x : (Nat × Nat) × Nat) => own.getD x.2 stOk == stOk)
  let items := good.map Prod.fst
  let n := s.okLength items items.length
  let brk := (good.getD n ((0, 0), l.length)).2
  match own.findIdx? (fun st => st != stOk) with
  | some i => if brk < i then some (stParamRange, brk) else some (own.getD i stOk, i)
  | none => if brk < l.length then some (stParamRange, brk) else none

/-- The reason of a rejected acceptance stands in ACT_STAT: that of the entry as the set would leave it, in r (R267, R273). -/
def State.noteFailure (s r : State) (x : Nat × Nat) : State :=
  let n := pidInst x.1 - 0x100
  if pidBlock x.1 = 0x02 ∧ 0x100 ≤ pidInst x.1 ∧ pidInst x.1 ≤ 0x13F ∧ pidItem x.1 = 7 ∧ s.writeStatus x.1 x.2 = stOk then
    s.noteReason n (r.actCtlStatus n x.2).2
  else s

/-- The deferred operation that a write starts (R351). -/
def State.startDeferred (s : State) (h : Hdr) (op id v : Nat) : State :=
  let kind := fld v 0 4
  let target := v >>> 4
  if pidBlock id = 0x11 then
    if v = 0 then s.finish h op stOk else (s.doMeas (pidInst id)).accept h op (.meas (pidInst id))
  else if pidItem id = 4 then (s.accept h op (.cal kind target)).doCal kind target
  else (s.accept h op (.test kind target)).doTest kind target

/-- Every item of an accepted set is applied, in order. -/
def State.applySet (s : State) (l : List (Nat × Nat)) : State := (forAll l State.applyItem s).abandonBusyGaps

/-- A write of a set (R350, R351, R362). -/
def State.writeSet (s : State) (h : Hdr) (op : Nat) (l : List (Nat × Nat)) : State :=
  match s.setFailure l with
  | some (st, i) => (s.noteFailure (s.resulting l) (l.getD i (0, 0))).finish h op st i
  | none =>
    match l with
    | [x] => if deferredItem x.1 then s.startDeferred h op x.1 x.2 else (s.applySet l).finish h op stOk
    | _ => (s.applySet l).finish h op stOk

/-- The item number of a range's end does not pass 0xFFF (R353). -/
def rangeOk (first n : Nat) : Bool := decide (pidItem first + n ≤ 0x1000)

/-- REGISTER_WRITE: a WRITE_PARAM of one item (R350). -/
def execRegisterWrite (t : Nat) (h : Hdr) (id val : Word) (s : State) : Host.Outcome State Fault Refusal :=
  packet opWriteParam h t s (fun s => s.writeSet h opWriteParam [(id.toNat, val.toNat)])

/-- WRITE_PARAM (R349, R350). DEDUCED, log entry 76. -/
def execWriteParam (t : Nat) (h : Hdr) (items : List (Word × Word)) (s : State) : Host.Outcome State Fault Refusal :=
  packet opWriteParam h t s (fun s =>
    if items.length < 1 ∨ 509 < items.length then s.finish h opWriteParam stParamRange
    else s.writeSet h opWriteParam (items.map (fun (x : Word × Word) => (x.1.toNat, x.2.toNat))))

/-- WRITE_RANGE (R349, R353). DEDUCED, log entry 76. -/
def execWriteRange (t : Nat) (h : Hdr) (first : Word) (vals : List Word) (s : State) : Host.Outcome State Fault Refusal :=
  packet 0x0203 h t s (fun s =>
    if vals.length < 1 ∨ 1017 < vals.length ∨ rangeOk first.toNat vals.length = false then s.finish h 0x0203 stParamRange
    else s.writeSet h 0x0203 (vals.zipIdx.map (fun (x : Word × Nat) => (first.toNat + x.2, x.1.toNat))))

/-! Reads. -/

/-- A read of a list of items; the detail word of a failure holds the index of the first failing item (R347, R352). -/
def State.readSet (s : State) (h : Hdr) (op : Nat) (ids : List Nat) : State :=
  match (ids.map readStatus).zipIdx.find? (fun x => x.1 != stOk) with
  | some x => s.finish h op x.1 x.2
  | none =>
    let r := s.readItems ids
    r.1.finish h op stOk 0 ((r.2.map (be 4)).flatten)

/-- READ_PARAM (R349, R352). DEDUCED, log entry 76. -/
def execReadParam (t : Nat) (h : Hdr) (ids : List Word) (s : State) : Host.Outcome State Fault Refusal :=
  packet 0x0200 h t s (fun s =>
    if ids.length < 1 ∨ 1018 < ids.length then s.finish h 0x0200 stParamRange
    else s.readSet h 0x0200 (ids.map BitVec.toNat))

/-- READ_RANGE (R349, R352, R353). DEDUCED, log entry 76. -/
def execReadRange (t : Nat) (h : Hdr) (first : Word) (count : Nat) (s : State) : Host.Outcome State Fault Refusal :=
  packet 0x0202 h t s (fun s =>
    if count < 1 ∨ 1018 < count ∨ rangeOk first.toNat count = false then s.finish h 0x0202 stParamRange
    else s.readSet h 0x0202 ((List.range count).map (first.toNat + ·)))

end Sys2Proof.Machine
end

