-- ==== Sys2Proof/Machine/ImageCheck.lean ====
section
/-! DEFINITION. Configuration images: their format, the checks of R382 and the signet (R374 to R382, R526, R564). -/

namespace Sys2Proof.Machine

/-- The longest image in bytes (R374). -/
def imageMax : Nat := 2097152

/-- The instances of a block that an image holds a section for, in ascending order (R378). -/
def imageInstances (b : Nat) : List Nat :=
  let run := fun (lo n : Nat) => (List.range n).map (lo + ·)
  match b with
  | 0x01 => [0]
  | 0x02 => [0] ++ run 0x010 6 ++ run 0x200 4
  | 0x03 => run 0 6
  | 0x04 => run 0 3
  | 0x05 => [0] ++ run 0x100 128
  | 0x06 => [0]
  | 0x07 => run 0 17 ++ run 0x020 4
  | 0x08 => [0]
  | 0x10 => run 0 48
  | 0x11 => run 0 384
  | 0x12 => run 0 8
  | 0x13 => run 0 512
  | 0x14 => run 0 32
  | 0x15 => run 0 16 ++ [0x1FF]
  | 0x16 => [0] ++ run 0x400 384
  | 0x17 => run 0 192
  | _ => []

/-- The keys of the 1751 sections of a complete image, in ascending order (R376, R378). -/
def imageKeys : List Nat :=
  [1, 2, 3, 4, 5, 6, 7, 8, 0x10, 0x11, 0x12, 0x13, 0x14, 0x15, 0x16, 0x17].flatMap
    (fun b => (imageInstances b).map (fun i => pid b i 0))

/-- A section: its key, the CRC-32 its header holds, and the words of its body (R376). -/
abbrev Sec := Nat × Nat × List Word

/-- The bytes of words, most significant byte first (R374). -/
def wordBytes (l : List Word) : List Byte := l.flatMap (fun w => be 4 w.toNat)

/-- Word k of an image. -/
def wordAt (l : List Word) (k : Nat) : Nat := (l.getD k 0).toNat

/-- The sections in the words after the header, as many as the header counts, and the words left; the code says that the body
of one runs past the image (5) or that one is missing (6), with no words left for its header (R382). DEDUCED, log entry 95. -/
def splitSecs : Nat → List Word → List Sec × List Word × Nat
  | 0, l => ([], l, 0)
  | n + 1, k :: len :: c :: r =>
    if len.toNat % 4 ≠ 0 ∨ r.length < len.toNat / 4 then ([], [], 5)
    else
      let m := len.toNat / 4
      let x := splitSecs n (r.drop m)
      ((k.toNat, c.toNat, r.take m) :: x.1, x.2.1, x.2.2)
  | _ + 1, _ => ([], [], 6)

/-- The items and values that the runs of a body name, none when a run is malformed; the fuel is the number of words
(R376). -/
def runsOf : Nat → List Word → Option (List (Nat × Nat))
  | _, [] => some []
  | 0, _ => none
  | n + 1, h :: r =>
    let first := h.toNat >>> 16
    let m := h.toNat % 2 ^ 16
    if m < 1 ∨ 4096 < m ∨ 0x1000 < first + m ∨ r.length < m then none
    else (runsOf n (r.drop m)).map (fun l => ((r.take m).zipIdx.map (fun (x : Word × Nat) => (first + x.2, x.1.toNat))) ++ l)

/-- The items and values of a section. -/
def secItems (x : Sec) : Option (List (Nat × Nat)) := runsOf x.2.2.length x.2.2

/-- Whether an image may name an item with a value: a setting with Access RW, and SINGLE of ERR_INJ clear (R379, R463). -/
def mayName (id v : Nat) : Bool :=
  match descOf id with
  | some d => d.acc == .rw && !(pidBlock id == 0x03 && pidItem id == 6 && bit v 0)
  | none => false

/-- Check 7 on a section: runs well formed, no item covered twice, every item allowed (R376, R379). -/
def runsOk (x : Sec) : Bool :=
  match secItems x with
  | none => false
  | some l => (l.map Prod.fst).Nodup && l.all (fun (y : Nat × Nat) => mayName (x.1 + y.1) y.2)

/-- The configured values that a section leaves different from their defaults. -/
def secTable (x : Sec) : Tbl Word :=
  ((secItems x).getD []).foldl (fun t (y : Nat × Nat) =>
    tset (BitVec.ofNat 32 (dfltOf (x.1 + y.1))) t (x.1 + y.1) (BitVec.ofNat 32 y.2)) []

/-- The whole configuration of an image: an item that no run names takes its default (R378). -/
def imageTable (l : List Sec) : Tbl Word := l.flatMap secTable

/-- Whether every value a section names keeps the fields of its item. -/
def secFieldsOk (x : Sec) : Bool :=
  ((secItems x).getD []).all (fun (y : Nat × Nat) =>
    ((descOf (x.1 + y.1)).map (fun d => fieldsOk d y.2)).getD false
      || (pidBlock x.1 == 0x05 && y.1 ≤ 1 && srcFixed (pidInst x.1 - 0x100)))

/-- The hub with an image's configuration in place of its own, for the checks of R382. -/
def State.withImage (s : State) (l : List Sec) : State := { s with cfg := imageTable l, cmds := { s.cmds with issued := [] } }

/-- Whether the signet covers a section (R564). -/
def State.signetKey (s : State) (key : Nat) : Bool := pidBlock key == 0x06 || s.alarmItem key

/-- The bytes of a section as they stand in the image. -/
def secBytes (x : Sec) : List Byte := be 4 x.1 ++ be 4 (4 * x.2.2.length) ++ be 4 x.2.1 ++ wordBytes x.2.2

/-- The signet of an image whose configuration s holds (R564). -/
def State.signetOf (s : State) (l : List Sec) : Nat :=
  crcNsl ((l.filter (fun (x : Sec) => s.signetKey x.1)).flatMap secBytes)

/-- The words between header and trailer. -/
def imageBody (ws : List Word) : List Word := (ws.drop 16).dropLast

/-- The sections of an image. -/
def imageSecs (ws : List Word) : List Sec × List Word × Nat := splitSecs (wordAt ws 1 % 2 ^ 16) (imageBody ws)

/-- Check 2: the header (R374, R375). -/
def headerOk (ws : List Word) (gen : Nat) : Bool :=
  decide (17 ≤ ws.length) && wordAt ws 0 == 0x5A434647 && wordAt ws 1 >>> 16 == 0x0100 && wordAt ws 2 == gen
    && wordAt ws 3 == 4 * ws.length && fld (wordAt ws 7) 26 6 == 0 && fld (wordAt ws 7) 0 16 == 0 && wordAt ws 15 == 0

/-- The target hub ID of an image. -/
def imageTarget (ws : List Word) : Nat := fld (wordAt ws 7) 16 10

/-- Check 3: the target is any hub or this one. -/
def State.targetOk (s : State) (ws : List Word) : Bool :=
  imageTarget ws == 1023 || some (imageTarget ws) == s.net.id

/-- Check 4: the trailer (R377). -/
def trailerOk (ws : List Word) : Bool := wordAt ws (ws.length - 1) == crc32 (wordBytes ws.dropLast)

/-- The index at which keys first differ from those of a complete image, none when they are the same (R378).
DEDUCED, log entry 95. -/
def keyMismatch (keys : List Nat) : Option Nat :=
  if keys = imageKeys then none
  else some (((keys.zip imageKeys).findIdx? (fun (x : Nat × Nat) => x.1 != x.2)).getD (min keys.length imageKeys.length))

/-- Checks 5 to 9 on the sections: the code and the failing section index (R382). DEDUCED, log entry 95. -/
def State.checkSecs (s : State) (ws : List Word) : Nat × Nat :=
  let x := imageSecs ws
  let secs := x.1
  let r := s.withImage secs
  let bad5 := (secs.findIdx? (fun (y : Sec) => y.2.1 != crc32 (wordBytes y.2.2))).orElse (fun _ =>
    if x.2.2 = 5 then some secs.length else none)
  let bad6 := (keyMismatch (secs.map Prod.fst)).orElse (fun _ => if x.2.1.isEmpty && x.2.2 != 6 then none else some secs.length)
  match bad5, bad6, secs.findIdx? (fun y => !runsOk y) with
  | some i, _, _ => (5, i)
  | none, some i, _ => (6, i)
  | none, none, some i => (7, i)
  | none, none, none =>
    match secs.findIdx? (fun (y : Sec) => !(secFieldsOk y && r.sectionOk (pidBlock y.1) (pidInst y.1))) with
    | some i => (8, i)
    | none => if r.signetOf secs = wordAt ws 8 then (0, 0xFFFF) else (9, 0xFFFF)

/-- The checks of R382 from check 2 on: the code and the failing section index. -/
def State.checkImage (s : State) (ws : List Word) (gen : Nat) : Nat × Nat :=
  if headerOk ws gen = false then (2, 0xFFFF)
  else if s.targetOk ws = false then (3, 0xFFFF)
  else if trailerOk ws = false then (4, 0xFFFF)
  else s.checkSecs ws

/-- The checks of R382 on the staged image. -/
def State.checkStaged (s : State) : Nat × Nat :=
  let m := s.image
  if 4 * m.words.length < m.len then (1, 0xFFFF) else s.checkImage (m.words.map Prod.snd) m.gen

end Sys2Proof.Machine
end

