-- ==== Sys2Proof/Machine/Image.lean ====
section
/-! DEFINITION. The staging area, commits, the store of a committed image and the loading of stored copies at the start
(R380 to R396). -/

namespace Sys2Proof.Machine

/-- The image part of the state changed. -/
def State.modImage (s : State) (f : Image → Image) : State := { s with image := f s.image }

/-! Staging (R380 to R382). -/

/-- Whether a CONFIG_COMMIT action is held or armed, so that it names the staging area. -/
def State.commitNamed (s : State) : Bool := s.pendingKind 7 64

/-- Whether the staging area is the source's own. -/
def State.ownsStaging (s : State) (h : Hdr) : Bool := s.image.owner == some (ownerOf h)

/-- A verification in progress ends without a result: its final reply is RETRY. DEDUCED, log entry 80. -/
def State.dropVerify (s : State) : State := if s.image.verifying then s.finalReply .verify stRetry else s

/-- The status of IMG_OPEN (R36, R381). -/
def State.openStatus (s : State) (h : Hdr) (gen len : Nat) : Nat :=
  if (s.image.owner.isSome && !s.ownsStaging h) || s.commitNamed then stDenied
  else if len % 4 ≠ 0 ∨ imageMax < len ∨ sdiff 32 gen s.image.committedGen ≤ 0 then stParamRange
  else stOk

/-- IMG_OPEN (R380, R381). DEDUCED, log entry 80. -/
def execImgOpen (t : Nat) (h : Hdr) (gen len : Nat) (s : State) : Host.Outcome State Fault Refusal :=
  packet 0x0210 h t s (fun s =>
    let st := s.openStatus h (wrap 32 gen) len
    if st ≠ stOk then s.finish h 0x0210 st
    else
      let s := s.dropVerify.emptyStaging.modImage (fun m => { m with
        owner := some (ownerOf h), gen := wrap 32 gen, len := len, base := m.committedGen })
      s.finish h 0x0210 stOk)

/-- Puts words from index k. -/
def putWords : List Word → Nat → Tbl Word → Tbl Word
  | [], _, t => t
  | w :: r, k, t => putWords r (k + 1) (tput t k w)

/-- The status of IMG_WRITE (R381). -/
def State.imgWriteStatus (s : State) (h : Hdr) (off n : Nat) : Nat :=
  if s.ownsStaging h = false ∨ s.image.verifying = true ∨ s.image.verified = true then stDenied
  else if off % 4 ≠ 0 ∨ s.image.len < off + 4 * n then stParamRange
  else stOk

/-- IMG_WRITE (R380 to R382): a later piece overwrites an earlier one. -/
def execImgWrite (t : Nat) (h : Hdr) (off : Nat) (data : List Word) (s : State) : Host.Outcome State Fault Refusal :=
  packet 0x0211 h t s (fun s =>
    let st := s.imgWriteStatus h off data.length
    if st ≠ stOk then s.finish h 0x0211 st
    else (s.modImage (fun m => { m with words := putWords data (off / 4) m.words })).finish h 0x0211 stOk)

/-- IMG_VERIFY (R380, R381). DEDUCED, log entry 80. -/
def execImgVerify (t : Nat) (h : Hdr) (s : State) : Host.Outcome State Fault Refusal :=
  packet 0x0212 h t s (fun s =>
    if s.ownsStaging h = false then s.finish h 0x0212 stDenied
    else if s.image.verifying then s.finish h 0x0212 stRetry
    else (s.modImage (fun m => { m with verifying := true })).accept h 0x0212 .verify)

/-- The staged image has been checked with result r (R382, R397). DEDUCED, log entry 77. -/
def State.noteCheck (s : State) (r : Nat × Nat) : State :=
  s.modImage (fun m => { m with verifying := false, verified := r.1 == 0, code := r.1, failing := r.2 })

/-- IMG_VERIFY_COMPLETE (R382). -/
def execImgVerifyComplete (t : Nat) (s : State) : Host.Outcome State Fault Refusal :=
  command t s (fun s =>
    if s.image.verifying then
      let r := s.checkStaged
      let ok : Bool := r.1 == 0
      (s.noteCheck r).finalReply .verify (if ok then stOk else stParamRange) (if ok then 0 else r.2) (be 2 r.2 ++ be 1 r.1)
    else s)

/-- IMG_ABORT (R381). DEDUCED, log entry 80. -/
def execImgAbort (t : Nat) (h : Hdr) (s : State) : Host.Outcome State Fault Refusal :=
  packet 0x0214 h t s (fun s =>
    if s.commitNamed then s.finish h 0x0214 stDenied else s.dropVerify.emptyStaging.finish h 0x0214 stOk)

/-! Taking a commit (R383, R386). -/

/-- The cell number and the ID under which an IMG_COMMIT counts as a configuration write on its way (R386). -/
def commitCell : Nat := 56

/-- The verified staged image goes into the shadow registers, and its boundary comes next (R383, R386).
DEDUCED, log entry 81. -/
def State.takeCommit (s : State) (h : Hdr) (store : Bool) : State :=
  let now := s.now
  let w : Issued := ⟨s.cmds.writes, commitCell, 0xFFFFFFFF, 0, 0, now⟩
  { s with
    image := { s.image with
      commitAt := some (now + 1)
      commitBy := some h
      store := store
      loading := false
      shadow := s.image.words.map Prod.snd
      shadowGen := s.image.gen
      shadowBase := s.image.base }
    cmds := { s.cmds with issued := s.cmds.issued ++ [w], writes := s.cmds.writes + 1 } }

/-- IMG_COMMIT (R380, R381, R383): answered at its boundary. -/
def execImgCommit (t : Nat) (h : Hdr) (store : Bool) (s : State) : Host.Outcome State Fault Refusal :=
  packet 0x0213 h t s (fun s =>
    if s.ownsStaging h = false then s.finish h 0x0213 stDenied
    else if s.image.verifying || s.image.commitAt.isSome then s.finish h 0x0213 stRetry
    else if s.image.verified then s.takeCommit h store
    else
      let r := s.checkStaged
      let s := s.noteCheck r
      if r.1 = 0 then s.takeCommit h store else s.finish h 0x0213 stParamRange r.2)

/-! The boundary (R384 to R394). -/

/-- A commit is no longer under way. -/
def State.endCommit (s : State) : State :=
  { s with
    image := { s.image with
      commitAt := none, commitBy := none, byAction := none, store := false, loading := false, shadow := [], shadowGen := 0,
      shadowBase := 0 }
    cmds := { s.cmds with issued := s.cmds.issued.filter (fun w => w.cell != commitCell) } }

/-- A commit fails at C: the answer is PARAM_RANGE, an action is dropped, and the running configuration stays (R387). -/
def State.failCommit (s : State) : State :=
  let m := s.image
  let s := s.endCommit
  let s := match m.commitBy with
    | some h => s.finish h 0x0213 stParamRange
    | none => s
  match m.byAction with
  | some n => s.dropAct n 6
  | none => s

/-- An item that changes at C: its ID, the value in force before and the value of the image. -/
abbrev Change := Nat × Nat × Nat

/-- What an image changes: each item whose value in force is another one (R384). -/
def State.imageChanges (s : State) (new : Tbl Word) : List Change :=
  let r := { s with cfg := new }
  let ids := ((s.cfg ++ new).map Prod.fst ++ s.cmds.issued.map (fun w => w.id.toNat)).eraseDups
  (ids.filter (fun id => s.effAt id != r.cfgAt id)).map (fun id => (id, s.effAt id, r.cfgAt id))

/-- The channels whose reduction an image configures anew close their intervals (R175). -/
def State.splitForImage (s : State) (l : List Change) : State :=
  forAll (l.filter (fun (x : Change) => pidBlock x.1 == 0x11 && pidItem x.1 == 0x060)) (fun s x =>
    s.recfgIntervals (pidInst x.1)) s

/-- The image's values take the place of the configuration, with every write that was on its way; those that wait for a fenced
cell still run out of patience (R23, R384, R386). -/
def State.putImage (s : State) (new : Tbl Word) : State :=
  let r := { s with cfg := new }
  { r with cmds := { r.cmds with
    issued := (r.cmds.issued.filter (fun w => decide (w.cell < 48) && r.cellFenced w.cell)).map (fun w =>
      { w with old := BitVec.ofNat 32 (r.cfgAt w.id.toNat) }) } }

/-- The changes in the signal paths of the running cells at C; crosspoints that change close 250 ns later (R48, R384). -/
def State.cellChanges (s : State) (l : List Change) : State :=
  let here := l.filter (fun (x : Change) =>
    signalPath x.1 && pidBlock x.1 != 0x12 && s.cellRuns ((cellOf x.1).getD 0))
  let s := forAll here (fun s x => s.itemEffect ((cellOf x.1).getD 0) x.1 x.2.1 x.2.2 s.now) s
  let cells := ((here.filter (fun (x : Change) => matrixItem x.1)).map (fun (x : Change) => (cellOf x.1).getD 0)).eraseDups
  forAll cells (fun s c => s.openPoints c s.now) s

/-- Whether the changes of a gait make its channels change to it afresh: DECIM, LOCKIN EN, or the active bank (R156,
R384). -/
def State.gaitChanged (s : State) (g : Nat) (l : List Change) : Bool :=
  let b := b2n (s.gait g).active
  l.any (fun (x : Change) =>
    let k := pidItem x.1
    k == 0 || (k == 2 && bit x.2.1 0 != bit x.2.2 0) || k == 0x010 + b
      || (decide (0x200 * (b + 1) ≤ k) && decide (k < 0x200 * (b + 2)) && fld (s.cfgN 0x12 g (0x010 + b)) 28 3 == 0))

/-- The changes of the gaits at C: a gait change of every channel on the gait, or an HP or REFWAVE change at its output
boundary (R156, R384). DEDUCED, log entry 85. -/
def State.gaitChanges (s : State) (l : List Change) : State :=
  forAll (List.range 8) (fun s g =>
    let m := l.filter (fun (x : Change) => pidBlock x.1 == 0x12 && pidInst x.1 == g)
    let has := fun (k : Nat) => m.any (fun (x : Change) => pidItem x.1 == k)
    let e := s.now
    if s.gaitChanged g m then forAll (s.onGait g) (fun s ch =>
      (s.modChan ch (fun c => { c with gaitPend := some (c.gaitPend.getD (g, e)) })).pendingGait ch) s
    else
      let s := if has 1 then forAll (s.onGait g) (fun s ch => s.atOutput ch e 0x1201) s else s
      if has 2 then forAll (s.onGait g) (fun s ch => s.atOutput ch e 0x1202) s else s) s

/-- The condition slots with a changed item start afresh (R202, R384). -/
def State.slotChanges (s : State) (l : List Change) : State :=
  let ns := ((l.filter (fun (x : Change) => pidBlock x.1 == 0x13)).map (fun (x : Change) => pidInst x.1)).eraseDups
  forAll ns State.slotReset s

/-- What follows from the other items at C; a value that the hub's state turns away is held (R384, R385).
DEDUCED, log entry 85. -/
def State.otherChange (s : State) (x : Change) : State :=
  let i := pidInst x.1
  let k := pidItem x.1
  match pidBlock x.1 with
  | 0x02 => if i = 0 ∧ k = 7 then (if s.utcStatus = stOk then s.doUtc x.2.2 else s) else s.itemFollows x.1 x.2.1 x.2.2
  | 0x03 =>
    if k = 3 then (if s.laneTestStatus i x.2.2 = stOk then s.doLaneTest i x.2.2 else s)
    else s.itemFollows x.1 x.2.1 x.2.2
  | 0x07 => if i = 0x010 ∧ k = 3 then s.doExtTemp x.2.2 else s
  | 0x13 => s
  | _ => s.itemFollows x.1 x.2.1 x.2.2

/-- Whether the staged set of source n differs from its active set, or restarts the phase (R319, R384). -/
def State.osStagedNew (s : State) (n : Nat) : Bool :=
  let o := s.osLast n
  let w := s.osStaged n 0
  fld w 0 3 != o.mode || fld w 4 2 != o.cls || s.osStaged n 1 != o.set || s.osStaged n 2 != o.dim || s.osStaged n 3 != o.freq || bit w 8

/-- Staged optical sets are applied at C (R384). -/
def State.opticalChanges (s : State) : State :=
  (s.doOsApply s.now (maskOf ((List.range 16).filter s.osStagedNew))).relevelAll

/-- The safety items that changed start afresh: alarm pairs and connections (R552 to R562). DEDUCED, log entry 85. -/
def State.safetyChange (s : State) (x : Change) : State :=
  let k := pidItem x.1
  if pidBlock x.1 ≠ 0x06 then s
  else if 0x100 ≤ k ∧ k < 0x200 then s.modPair ((k - 0x100) / 8) (fun _ => {})
  else if 0x200 ≤ k ∧ k < 0x280 then s.modNsl ((k - 0x200) / 8) (fun _ => {})
  else s

/-- The signet of the image comes into force; a change of it, or of the safety section, withdraws the confirmation, with
event 0x55 (R389, R565). DEDUCED, log entry 63. -/
def State.newSignet (s : State) (l : List Change) (sig : Word) : State :=
  let change : Bool := s.safety.signet != sig || l.any (fun (x : Change) => pidBlock x.1 == 0x06)
  let was := s.safety.confirmed
  let s := { s with safety := { s.safety with signet := sig } }
  if change && was then
    ({ s with safety := { s.safety with confirmed := false } }).raise 0x55 [(2, 2), (sig.toNat, 32)]
  else s

/-- The confirmation at a start: a stored value equal to the signet confirms it, another one reports source 107 (R565).
DEDUCED, log entry 63. -/
def State.startSignet (s : State) : State :=
  match s.boot.signetConf with
  | none => s
  | some w =>
    if w = s.safety.signet then { s with safety := { s.safety with confirmed := true } } else s.report 107 1

/-- The start value of the channels' sequence numbers, which becomes the mark (R166). DEDUCED, log entry 84. -/
def State.startSeq (s : State) : Nat × State :=
  let q := (s.boot.seqMark.map (· + 2 ^ 29)).getD 0
  (q, s.modBoot (fun b => { b with seqMark := some q }))

/-- A channel on its configured gait from C on, with the start value q (R166, R394). -/
def State.firstChan (s : State) (q c ch : Nat) : State :=
  let g := s.cfgF 0x11 ch 0x050 0 3
  let s := s.modChan ch (fun x => { x with seq := q, slotAt := c, fedAt := c, gait := g, d := s.cfgN 0x12 g 0 })
  s.modChan ch (fun x => { x with chain := { s.freshChain ch c with part := c } })

/-- The hub leaves HELD at C: natural gaps on channels that are no longer idle are abandoned, every cell restarts there, each
channel with the start value Q, and outputs have run from then on (R166, R246, R289, R391, R394). DEDUCED, log entry 84. -/
def State.leaveHeld (s : State) : State :=
  let c := s.now
  let q := s.startSeq
  let s := q.2
  let s := s.modImage (fun m => { m with running := true })
  let s := s.modBoot (fun b => { b with waitId := none })
  let s := forAll (List.range 48) (fun s k => s.modCell k (fun d => { d with origin := c })) s
  let s := forAll (List.range 192) (fun s n => s.modSrc n (fun x => { x with phase := 0, phaseAt := c })) s
  let s := forAll (List.range 384) (fun s ch => s.firstChan q.1 c ch)
    (s.dropBusyGaps.modTime (fun m => { m with outputs := true }))
  let s := forAll ((List.range 48).filter s.cellRuns) (fun s k => s.startCell false c k) s
  forAll (List.range 48) State.calKick (forAll (List.range 512) State.slotReset s)

/-- The words of a committed image become the committed configuration, counted; a copy is stored when asked for, and nobody owns
the staging area any longer, which is left as it was (R381, R388, R390, R398). -/
def State.noteCommit (s : State) : State :=
  let m := s.image
  let s := s.modImage (fun m => { m with
    committedGen := m.shadowGen, committed := m.shadow, fromStorage := m.loading, storing := m.storing || m.store
    toStore := if m.store then (m.shadowGen, m.shadow) else m.toStore
    owner := if m.verified && !m.loading && m.gen == m.shadowGen then none else m.owner })
  s.bump (pid 0x01 0 0x204) 16 16

/-- The configuration of the image in the shadow registers replaces the one in force, in a hub that ran or not (R384, R389,
R394). -/
def State.takeImage (s : State) : State :=
  let ws := s.image.shadow
  let new := imageTable (imageSecs ws).1
  let l := s.imageChanges new
  let was := s.running
  let s := (s.splitForImage l).putImage new
  let s := if was then ((s.cellChanges l).gaitChanges l).slotChanges l else s.leaveHeld
  let s := forAll l State.otherChange s
  let s := (forAll l State.safetyChange s.opticalChanges).newSignet l (ws.getD 8 0)
  (if was then s.abandonBusyGaps else s.startSignet)

/-- The GAIT actions fired within the base-rate period that ends at C come after the commit (R271). -/
def State.gaitAgain (s : State) : State :=
  forAll (s.gaitLate.filter (fun x => s.now < x.1 + basePeriod)) (fun s x => s.gaitItems x.1 x.2) s

/-- The configuration of the image in the shadow registers comes into force, with the reports and the SENSOR flags of the
statuses it changes (R66, R67, R384). -/
def State.applyImage (s : State) : State :=
  let old := (List.range 384).map (fun ch => (ch, (s.chanStatus ch).1))
  let s := s.sensorEnds (List.range 384) (fun s => s.takeImage.gaitAgain)
  let s := forAll old (fun s (o : Nat × Nat) => s.reportStatus o.1 o.2) s
  s.safetyRefresh.updWm

/-- COMMIT_BOUNDARY (R383 to R394), after the entries that fire there (R271). DEDUCED, log entry 81. -/
def execCommitBoundary (t : Nat) (s : State) : Host.Outcome State Fault Refusal :=
  at_ t s (fun s =>
    if !s.commitNow || s.firesNow then s
    else if !s.image.loading && s.image.committedGen != s.image.shadowBase then s.failCommit
    else
      let h := s.image.commitBy
      let gen := s.image.shadowGen
      let s := s.applyImage.noteCommit.endCommit
      match h with
      | some h => s.finish h 0x0213 stOk 0 (be 4 gen)
      | none => s)

end Sys2Proof.Machine
end

