-- ==== Sys2Proof/Machine/Loading.lean ====
section
/-! DEFINITION. The stored copies of the configuration: their writing, and the loading of one at the start, with the events
that lead to it (R283 to R285, R390, R391, R395, R396, R418, R419, R480). -/

namespace Sys2Proof.Machine

/-! Storing (R390). -/

/-- The two copies of a partition after the older one, an empty one first, has been overwritten. -/
def storeCopy (x : Nat × List Word) (d : St) : St :=
  match d.cfg0, d.cfg1 with
  | none, _ => { d with cfg0 := some x }
  | some _, none => { d with cfg1 := some x }
  | some a, some b => if sdiff 32 a.1 b.1 ≤ 0 then { d with cfg0 := some x } else { d with cfg1 := some x }

/-- IMAGE_STORE_COMPLETE (R390): the image committed last with STORE set is written; a failure raises one event and undoes nothing. DEDUCED, log entry 88. -/
def execImageStoreComplete (t : Nat) (ok : Bool) (s : State) : Host.Outcome State Fault Refusal :=
  at_ t s (fun s =>
    if !s.image.storing then s
    else
      let x := s.image.toStore
      let ports := [0, 1].filter s.inLayout
      let s := s.modImage (fun m => { m with storing := false })
      if ok && !ports.isEmpty then forAll ports (fun s n => s.modStore n (storeCopy x)) s else s.raise 0x11 [])

/-! Loading (R395, R396). -/

/-- Whether a storage port holds a device that answers, in use or not (R395, R418). DEDUCED, log entry 87. -/
def State.stPresent (s : State) (n : Nat) : Bool := s.pd 14 && (s.inLayout n || (s.store n).st == 4)

/-- The stored copies of every device present, with their generations (R395). -/
def State.copies (s : State) : List (Nat × List Word) :=
  ([0, 1].filter s.stPresent).flatMap (fun n => (s.store n).cfg0.toList ++ (s.store n).cfg1.toList)

/-- The copy of a list whose generation is ahead of the others. -/
def leading : List (Nat × List Word) → Option (Nat × List Word)
  | [] => none
  | x :: r =>
    match leading r with
    | none => some x
    | some y => if 0 ≤ sdiff 32 x.1 y.1 then some x else some y

/-- The result of the checks on a copy. DEDUCED, log entry 87. -/
def State.checkCopy (s : State) (x : Nat × List Word) : Nat × Nat := s.checkImage x.2 x.1

/-- Whether a copy is valid but for its target. DEDUCED, log entry 87. -/
def State.foreignCopy (s : State) (x : Nat × List Word) : Bool :=
  headerOk x.2 x.1 && !s.targetOk x.2 && trailerOk x.2 && (s.checkSecs x.2).1 == 0

/-- Source 108 with its detail: code 3 for another hub's target, else the code and section index of the newest copy
(R396). -/
def State.noCopy (s : State) : State :=
  if s.copies.any s.foreignCopy then s.report 108 3
  else match leading s.copies with
    | none => s
    | some x =>
      let r := s.checkCopy x
      s.report 108 (BitVec.ofNat 32 (r.1 ||| (r.2 % 2 ^ 12) <<< 4))

/-- The firmware reads the stored copies and commits the leading one of those that pass; without an ID it waits when all
the valid ones name a target (R395). DEDUCED, log entry 87. -/
def State.loadCopies (s : State) : State :=
  let s := s.modBoot (fun b => { b with loadTried := true, waitId := none })
  match leading (s.copies.filter (fun x => (s.checkCopy x).1 == 0)) with
  | some x =>
    let now := s.now
    s.modImage (fun m => { m with
      commitAt := some (now + 1)
      commitBy := none
      byAction := none
      store := false
      loading := true
      shadow := x.2
      shadowGen := x.1
      shadowBase := m.committedGen })
  | none =>
    if s.copies.any s.foreignCopy && s.net.id.isNone then
      let now := s.now
      s.modBoot (fun b => { b with waitId := some now })
    else s.noCopy

/-- The copies are read once calibration has ended and no storage port still initialises, while the hub is HELD (R391,
R395). -/
def State.tryLoad (s : State) : State :=
  let busy : Bool := s.pd 14 && [0, 1].any (fun n => (s.store n).st == 1)
  if s.boot.phase == .ready && !s.boot.loadTried && !s.running && s.image.commitAt.isNone && !busy then s.loadCopies else s

/-- HUB_ID_WAIT_EXPIRY (R395, R396): no ID has come within 10 s. DEDUCED, log entry 87. -/
def execHubIdWaitExpiry (t : Nat) (s : State) : Host.Outcome State Fault Refusal :=
  command t s (fun s =>
    match s.boot.waitId with
    | none => s
    | some since =>
      if s.now < since + 10000000000 then s
      else
        let s := s.modBoot (fun b => { b with waitId := none })
        if s.running then s else s.noCopy)

/-- POWERUP_CALIBRATION_END (R283 to R285, R391): at a start, after the triangulation run of step 1, the results of every object, and
the hub is HELD; later those of the quadrants that have come back and that the results name. DESIGN CHOICE, log entry 6. -/
def execPowerupCalibrationEnd (t : Nat) (results : List CalOut) (s : State) : Host.Outcome State Fault Refusal :=
  command t s (fun s =>
    if !s.cal.puDone then
      if s.cal.running then s else
      let s := s.puResults results
      ({ s with
        cal := { s.cal with puDone := true }
        boot := { s.boot with calRecord := some (s.cal.convs, s.cal.srcs, s.cal.amps), phase := .ready } }).tryLoad
    else forAll ((List.range 4).filter (fun q => (s.causes 3 q).contains .calibrate
          && results.any (fun (c : CalOut) => quadOf (objCell c.obj) == q))) (fun s q =>
        (s.puQuad results q).quadReady q) s)

/-- ID_CLAIM_WAIT_END (R480): 200 ms after a claim the candidate is taken, unless it has been lost; a load that waits for
the ID goes on (R395). DEDUCED, log entry 46. -/
def execIdClaimWaitEnd (t : Nat) (s : State) : Host.Outcome State Fault Refusal :=
  at_ t s (fun s =>
    if s.net.idState = 1 ∧ s.net.claimAt + 200000000 ≤ s.now then
      if s.net.lostClaim || s.idTaken s.net.candidate then s.claimLost
      else
        let s := s.takeId
        if s.boot.waitId.isSome && !s.running && s.image.commitAt.isNone then s.loadCopies else s
    else s)

/-- A storage port takes what its device holds: the label, and the configuration copies that its partition shows, else those the
port last knew of a device that was not exchanged (R395, R419). DEDUCED, log entry 87. -/
def St.found (d : StDev) (x : St) : St :=
  { x with
    label := d.label
    lifeAt := none
    cfg0 := d.cfg0.orElse (fun _ => if x.attach then none else x.cfg0)
    cfg1 := d.cfg1.orElse (fun _ => if x.attach then none else x.cfg1) }

/-- ST_INIT_COMPLETE (R36, R418, R419): the hub's own device is used, another one is labelled on ATTACH or AUTO_FORMAT, and a
device that does not answer fails; of one larger than 2 TiB the remainder is left unused, with an event. DEDUCED, log entries
41, 42. -/
def execStInitComplete (t st : Nat) (d : StDev) (s : State) : Host.Outcome State Fault Refusal :=
  onUnit .storage st t s (fun s =>
    if !(s.pd 14 && (s.store st).st == 1) then s
    else
      let ready := fun (s : State) =>
        let cap := sectorsUsed d.sectors
        let own := d.label.isSome && d.label == s.labelId
        let resilver := (s.store st).attach && !s.arc.mode && s.stReady (1 - st)
        if own && !resilver then
          (s.modStore st (fun x => { x.found d with st := 2, cap := cap, attach := false })).mount
        else if (s.store st).attach || s.cfgB 0x04 0 0 2 then s.labelDevice st cap
        else s.modStore st (fun x => { x.found d with st := 4, cap := cap })
      let ready := fun (s : State) => if 2 ^ 32 < d.sectors then (ready s).evStorage st else ready s
      let s :=
        if d.ok then ready s
        else ((s.modStore st (fun x => { x with st := 5, attach := false })).evStorage st).report (92 + st) 2
      s.tryLoad)

end Sys2Proof.Machine
end

