-- ==== Sys2Proof/Machine/Dispatch.lean ====
section
/-! DEFINITION. One arm per command: each calls the command's own meaning. -/

namespace Sys2Proof.Machine

open Host

def exec (i : Instr) (s : State) : Host.Outcome State Fault Refusal :=
  match i with
  | .write t stated bytes => Sys2Proof.Machine.execWrite t stated bytes s
  | .readReply t clocked ecc => Sys2Proof.Machine.execReadReply t clocked ecc s
  | .readEvents t clocked ecc => Sys2Proof.Machine.execReadEvents t clocked ecc s
  | .status t => Sys2Proof.Machine.execStatus t s
  | .badTransactionCode t code => Sys2Proof.Machine.execBadTransactionCode t code s
  | .commandStart t => Sys2Proof.Machine.execCommandStart t s
  | .nop t h => Sys2Proof.Machine.execNop t h s
  | .identify t h => Sys2Proof.Machine.execIdentify t h s
  | .fence t h scope => Sys2Proof.Machine.execFence t h scope s
  | .fenceCfgMet t h => Sys2Proof.Machine.execFenceCfgMet t h s
  | .fenceOutMet t h => Sys2Proof.Machine.execFenceOutMet t h s
  | .pdCtl t h domain action lanes => Sys2Proof.Machine.execPdCtl t h domain action lanes s
  | .readParam t h ids => Sys2Proof.Machine.execReadParam t h ids s
  | .writeParam t h items => Sys2Proof.Machine.execWriteParam t h items s
  | .readRange t h first count => Sys2Proof.Machine.execReadRange t h first count s
  | .writeRange t h first vals => Sys2Proof.Machine.execWriteRange t h first vals s
  | .registerWrite t h id val => Sys2Proof.Machine.execRegisterWrite t h id val s
  | .cellWriteEffect t cell => Sys2Proof.Machine.execCellWriteEffect t cell s
  | .crosspointClose t cell => Sys2Proof.Machine.execCrosspointClose t cell s
  | .crossingPatienceExpiry t x unit => Sys2Proof.Machine.execCrossingPatienceExpiry t x unit s
  | .vwRead t h src => Sys2Proof.Machine.execVwRead t h src s
  | .vwResistanceEnd t src coil => Sys2Proof.Machine.execVwResistanceEnd t src coil s
  | .vwPluckStart t src => Sys2Proof.Machine.execVwPluckStart t src s
  | .vwListenStart t src => Sys2Proof.Machine.execVwListenStart t src s
  | .vwCaptureEnd t src => Sys2Proof.Machine.execVwCaptureEnd t src s
  | .recordManual t h profile net => Sys2Proof.Machine.execRecordManual t h profile net s
  | .recordClose t h slot => Sys2Proof.Machine.execRecordClose t h slot s
  | .schedule t h typ target args => Sys2Proof.Machine.execSchedule t h typ target args s
  | .cancel t h entry => Sys2Proof.Machine.execCancel t h entry s
  | .timeRead t h => Sys2Proof.Machine.execTimeRead t h s
  | .calRequest t h kind target => Sys2Proof.Machine.execCalRequest t h kind target s
  | .selfTest t h test target => Sys2Proof.Machine.execSelfTest t h test target s
  | .osApply t h mask => Sys2Proof.Machine.execOsApply t h mask s
  | .calReq t h kind target => Sys2Proof.Machine.execCalReq t h kind target s
  | .testReq t h test target => Sys2Proof.Machine.execTestReq t h test target s
  | .baseline t h val => Sys2Proof.Machine.execBaseline t h val s
  | .tapExcursionStart t cell tap => Sys2Proof.Machine.execTapExcursionStart t cell tap s
  | .tapExcursionEnd t cell tap => Sys2Proof.Machine.execTapExcursionEnd t cell tap s
  | .sourceMonitorEvaluation t src m => Sys2Proof.Machine.execSourceMonitorEvaluation t src m s
  | .driftEvaluation t src m => Sys2Proof.Machine.execDriftEvaluation t src m s
  | .blankingEnd t src => Sys2Proof.Machine.execBlankingEnd t src s
  | .qaThresholdCrossing t cell qa lv => Sys2Proof.Machine.execQaThresholdCrossing t cell qa lv s
  | .qaPeriodicReset t cell qa lv => Sys2Proof.Machine.execQaPeriodicReset t cell qa lv s
  | .qaDeferredReset t cell qa lv => Sys2Proof.Machine.execQaDeferredReset t cell qa lv s
  | .rangeRecoveryEnd t ch => Sys2Proof.Machine.execRangeRecoveryEnd t ch s
  | .converterPathValid t cell => Sys2Proof.Machine.execConverterPathValid t cell s
  | .seamlessSeam t cell => Sys2Proof.Machine.execSeamlessSeam t cell s
  | .seamlessHandbackSeam t cell => Sys2Proof.Machine.execSeamlessHandbackSeam t cell s
  | .spAssign t h cell val => Sys2Proof.Machine.execSpAssign t h cell val s
  | .warmSeam t cell ps => Sys2Proof.Machine.execWarmSeam t cell ps s
  | .autoRangeLower t ch => Sys2Proof.Machine.execAutoRangeLower t ch s
  | .autoRangeRaise t ch => Sys2Proof.Machine.execAutoRangeRaise t ch s
  | .modulatorFailure t cell modulator => Sys2Proof.Machine.execModulatorFailure t cell modulator s
  | .coldSwitchResume t ch => Sys2Proof.Machine.execColdSwitchResume t ch s
  | .outputSample t ch v => Sys2Proof.Machine.execOutputSample t ch v s
  | .coarseValue t ch v => Sys2Proof.Machine.execCoarseValue t ch v s
  | .swap t h gait => Sys2Proof.Machine.execSwap t h gait s
  | .swapEffect t gait => Sys2Proof.Machine.execSwapEffect t gait s
  | .gaitChange t ch => Sys2Proof.Machine.execGaitChange t ch s
  | .redCloseAcc t h ch => Sys2Proof.Machine.execRedCloseAcc t h ch s
  | .redCloseMm t h ch => Sys2Proof.Machine.execRedCloseMm t h ch s
  | .redLatchLive t h ch => Sys2Proof.Machine.execRedLatchLive t h ch s
  | .redLatchLast t h ch => Sys2Proof.Machine.execRedLatchLast t h ch s
  | .intervalClose t ch => Sys2Proof.Machine.execIntervalClose t ch s
  | .measCmd t h ch => Sys2Proof.Machine.execMeasCmd t h ch s
  | .spanEnd t ch ofRecord => Sys2Proof.Machine.execSpanEnd t ch ofRecord s
  | .measResult t ch ofRecord => Sys2Proof.Machine.execMeasResult t ch ofRecord s
  | .gapEntryCont t ch => Sys2Proof.Machine.execGapEntryCont t ch s
  | .lastSampleRead t h ch => Sys2Proof.Machine.execLastSampleRead t h ch s
  | .lastCoarseRead t h ch => Sys2Proof.Machine.execLastCoarseRead t h ch s
  | .slotResult t slot => Sys2Proof.Machine.execSlotResult t slot s
  | .triggerEvent t trig => Sys2Proof.Machine.execTriggerEvent t trig s
  | .manual t h profile net => Sys2Proof.Machine.execManual t h profile net s
  | .rctl t h slot => Sys2Proof.Machine.execRctl t h slot s
  | .recordEnd t slot => Sys2Proof.Machine.execRecordEnd t slot s
  | .networkTriggerReceive t port seq hops m => Sys2Proof.Machine.execNetworkTriggerReceive t port seq hops m s
  | .blockFlush t ch slot => Sys2Proof.Machine.execBlockFlush t ch slot s
  | .refclkLost t cause => Sys2Proof.Machine.execRefclkLost t cause s
  | .refclkReturn t => Sys2Proof.Machine.execRefclkReturn t s
  | .syncSend t port => Sys2Proof.Machine.execSyncSend t port s
  | .syncReceive t port m => Sys2Proof.Machine.execSyncReceive t port m s
  | .delayReqReceive t port m => Sys2Proof.Machine.execDelayReqReceive t port m s
  | .delayRespReceive t port m y => Sys2Proof.Machine.execDelayRespReceive t port m y s
  | .ptpMessageReceive t port m y => Sys2Proof.Machine.execPtpMessageReceive t port m y s
  | .parentLoss t => Sys2Proof.Machine.execParentLoss t s
  | .parentReplaceTimeout t => Sys2Proof.Machine.execParentReplaceTimeout t s
  | .leadWaitExpiry t => Sys2Proof.Machine.execLeadWaitExpiry t s
  | .holdLimitPassed t => Sys2Proof.Machine.execHoldLimitPassed t s
  | .slewComplete t => Sys2Proof.Machine.execSlewComplete t s
  | .actAccept t h entry => Sys2Proof.Machine.execActAccept t h entry s
  | .actCancel t h entry => Sys2Proof.Machine.execActCancel t h entry s
  | .actionArmCheck t => Sys2Proof.Machine.execActionArmCheck t s
  | .actionFire t entry => Sys2Proof.Machine.execActionFire t entry s
  | .heldActionDrop t entry => Sys2Proof.Machine.execHeldActionDrop t entry s
  | .ntimeLatRead t h => Sys2Proof.Machine.execNtimeLatRead t h s
  | .utc t h val => Sys2Proof.Machine.execUtc t h val s
  | .reinEdge t line rising => Sys2Proof.Machine.execReinEdge t line rising s
  | .reinSyncDrive t => Sys2Proof.Machine.execReinSyncDrive t s
  | .reinPulseEnd t line => Sys2Proof.Machine.execReinPulseEnd t line s
  | .reinClkMissing t => Sys2Proof.Machine.execReinClkMissing t s
  | .reinSyncMissing t => Sys2Proof.Machine.execReinSyncMissing t s
  | .reinReadbackFault t line => Sys2Proof.Machine.execReinReadbackFault t line s
  | .reinLineStuckHigh t line => Sys2Proof.Machine.execReinLineStuckHigh t line s
  | .powerupCalibrationEnd t results => Sys2Proof.Machine.execPowerupCalibrationEnd t results s
  | .backgroundCalibration t cell => Sys2Proof.Machine.execBackgroundCalibration t cell s
  | .calibrationResult t c => Sys2Proof.Machine.execCalibrationResult t c s
  | .trimApply t cell conv => Sys2Proof.Machine.execTrimApply t cell conv s
  | .triangulationRun t => Sys2Proof.Machine.execTriangulationRun t s
  | .triangulationResult t o => Sys2Proof.Machine.execTriangulationResult t o s
  | .triangulationTrimUpdate t quadrant => Sys2Proof.Machine.execTriangulationTrimUpdate t quadrant s
  | .driftLogRetry t ok => Sys2Proof.Machine.execDriftLogRetry t ok s
  | .calAgeTick t => Sys2Proof.Machine.execCalAgeTick t s
  | .selfTestEnd t test target failed data => Sys2Proof.Machine.execSelfTestEnd t test target failed data s
  | .opticalUpdate t tdrv => Sys2Proof.Machine.execOpticalUpdate t tdrv s
  | .osCtlApply t h os => Sys2Proof.Machine.execOsCtlApply t h os s
  | .osCtlClear t h os shorted => Sys2Proof.Machine.execOsCtlClear t h os shorted s
  | .osOpenDetect t os => Sys2Proof.Machine.execOsOpenDetect t os s
  | .osOpenClear t os => Sys2Proof.Machine.execOsOpenClear t os s
  | .neighbourShortTest t pair shorted => Sys2Proof.Machine.execNeighbourShortTest t pair shorted s
  | .extTemp t h val => Sys2Proof.Machine.execExtTemp t h val s
  | .extTempStale t => Sys2Proof.Machine.execExtTempStale t s
  | .imgOpen t h gen len => Sys2Proof.Machine.execImgOpen t h gen len s
  | .imgWrite t h off data => Sys2Proof.Machine.execImgWrite t h off data s
  | .imgVerify t h => Sys2Proof.Machine.execImgVerify t h s
  | .imgVerifyComplete t => Sys2Proof.Machine.execImgVerifyComplete t s
  | .imgCommit t h store => Sys2Proof.Machine.execImgCommit t h store s
  | .imgAbort t h => Sys2Proof.Machine.execImgAbort t h s
  | .commitBoundary t => Sys2Proof.Machine.execCommitBoundary t s
  | .imageStoreComplete t ok => Sys2Proof.Machine.execImageStoreComplete t ok s
  | .hubIdWaitExpiry t => Sys2Proof.Machine.execHubIdWaitExpiry t s
  | .qctlClearUnderrun t h => Sys2Proof.Machine.execQctlClearUnderrun t h s
  | .qctlClearNotices t h => Sys2Proof.Machine.execQctlClearNotices t h s
  | .qctlClearLost t h => Sys2Proof.Machine.execQctlClearLost t h s
  | .qctlClearReplyUnderrun t h => Sys2Proof.Machine.execQctlClearReplyUnderrun t h s
  | .spill t => Sys2Proof.Machine.execSpill t s
  | .spillReadback t => Sys2Proof.Machine.execSpillReadback t s
  | .portFrameSend t port ecc => Sys2Proof.Machine.execPortFrameSend t port ecc s
  | .blockSent t port => Sys2Proof.Machine.execBlockSent t port s
  | .storagePortFail t st => Sys2Proof.Machine.execStoragePortFail t st s
  | .stCtlDetach t h st => Sys2Proof.Machine.execStCtlDetach t h st s
  | .stCtlAttach t h st => Sys2Proof.Machine.execStCtlAttach t h st s
  | .resilverComplete t st => Sys2Proof.Machine.execResilverComplete t st s
  | .lifeCheck t st lifeA lifeB eol => Sys2Proof.Machine.execLifeCheck t st lifeA lifeB eol s
  | .archiveBlockWrite t ch ecc => Sys2Proof.Machine.execArchiveBlockWrite t ch ecc s
  | .eventRead t h count ecc => Sys2Proof.Machine.execEventRead t h count ecc s
  | .arcExport t h sel => Sys2Proof.Machine.execArcExport t h sel s
  | .arcCompress t h sel => Sys2Proof.Machine.execArcCompress t h sel s
  | .arcRead t h off len => Sys2Proof.Machine.execArcRead t h off len s
  | .jobCancel t h => Sys2Proof.Machine.execJobCancel t h s
  | .jobComplete t o => Sys2Proof.Machine.execJobComplete t o s
  | .laneSwitchClose t lane => Sys2Proof.Machine.execLaneSwitchClose t lane s
  | .pllLock t lane => Sys2Proof.Machine.execPllLock t lane s
  | .pllLockTimeout t lane => Sys2Proof.Machine.execPllLockTimeout t lane s
  | .pllLoss t lane => Sys2Proof.Machine.execPllLoss t lane s
  | .failedRetry t lane locked => Sys2Proof.Machine.execFailedRetry t lane locked s
  | .helloSend t port => Sys2Proof.Machine.execHelloSend t port s
  | .helloReceive t port m => Sys2Proof.Machine.execHelloReceive t port m s
  | .countdownSwitch t port => Sys2Proof.Machine.execCountdownSwitch t port s
  | .adaptLock t port => Sys2Proof.Machine.execAdaptLock t port s
  | .adaptFailure t port => Sys2Proof.Machine.execAdaptFailure t port s
  | .trainingFrameReceive t port control status eyeOk => Sys2Proof.Machine.execTrainingFrameReceive t port control status eyeOk s
  | .dataStart t port => Sys2Proof.Machine.execDataStart t port s
  | .markerReceive t port inPlace => Sys2Proof.Machine.execMarkerReceive t port inPlace s
  | .lockLoss t port => Sys2Proof.Machine.execLockLoss t port s
  | .lockRegainTimeout t port => Sys2Proof.Machine.execLockRegainTimeout t port s
  | .ethLinkUp t port fullDuplex => Sys2Proof.Machine.execEthLinkUp t port fullDuplex s
  | .laneTest t h port val => Sys2Proof.Machine.execLaneTest t h port val s
  | .errInjSingle t h port => Sys2Proof.Machine.execErrInjSingle t h port s
  | .laneCtlRetrain t h port => Sys2Proof.Machine.execLaneCtlRetrain t h port s
  | .laneCtlClear t h port => Sys2Proof.Machine.execLaneCtlClear t h port s
  | .fecLimitCheck t port corr unc sym => Sys2Proof.Machine.execFecLimitCheck t port corr unc sym s
  | .creditReceive t port c2 c3 => Sys2Proof.Machine.execCreditReceive t port c2 c3 s
  | .creditSend t port => Sys2Proof.Machine.execCreditSend t port s
  | .wcpFrameReceive t port f => Sys2Proof.Machine.execWcpFrameReceive t port f s
  | .streamFrameReceive t port f => Sys2Proof.Machine.execStreamFrameReceive t port f s
  | .ethFrameReceive t port etherType f => Sys2Proof.Machine.execEthFrameReceive t port etherType f s
  | .lsaReceive t port m => Sys2Proof.Machine.execLsaReceive t port m s
  | .lsaRefresh t => Sys2Proof.Machine.execLsaRefresh t s
  | .lsaUnreachableHold t eui => Sys2Proof.Machine.execLsaUnreachableHold t eui s
  | .idHoldExpiry t eui => Sys2Proof.Machine.execIdHoldExpiry t eui s
  | .idClaimWaitEnd t => Sys2Proof.Machine.execIdClaimWaitEnd t s
  | .partnerGone t port => Sys2Proof.Machine.execPartnerGone t port s
  | .routeRecompute t => Sys2Proof.Machine.execRouteRecompute t s
  | .queuedFrameExpiry t dest => Sys2Proof.Machine.execQueuedFrameExpiry t dest s
  | .proxyExpiry t tag => Sys2Proof.Machine.execProxyExpiry t tag s
  | .streamAttach t h detach => Sys2Proof.Machine.execStreamAttach t h detach s
  | .topologyRead t h id => Sys2Proof.Machine.execTopologyRead t h id s
  | .idRelease t h id => Sys2Proof.Machine.execIdRelease t h id s
  | .faultPairActive t src detail => Sys2Proof.Machine.execFaultPairActive t src detail s
  | .faultPairInactive t src => Sys2Proof.Machine.execFaultPairInactive t src s
  | .wireFault t pair => Sys2Proof.Machine.execWireFault t pair s
  | .aliveToggle t => Sys2Proof.Machine.execAliveToggle t s
  | .watchdogMiss t => Sys2Proof.Machine.execWatchdogMiss t s
  | .restartWindowExpiry t => Sys2Proof.Machine.execRestartWindowExpiry t s
  | .faultNRelease t => Sys2Proof.Machine.execFaultNRelease t s
  | .locketCopy t => Sys2Proof.Machine.execLocketCopy t s
  | .locketRead t h prev => Sys2Proof.Machine.execLocketRead t h prev s
  | .faultClear t h mask locket faultN => Sys2Proof.Machine.execFaultClear t h mask locket faultN s
  | .unfence t h kind num => Sys2Proof.Machine.execUnfence t h kind num s
  | .unfenceComplete t kind num => Sys2Proof.Machine.execUnfenceComplete t kind num s
  | .fenceUnit t h kind num => Sys2Proof.Machine.execFenceUnit t h kind num s
  | .claspMinority t core => Sys2Proof.Machine.execClaspMinority t core s
  | .coreResyncComplete t ok => Sys2Proof.Machine.execCoreResyncComplete t ok s
  | .claspDoubleDisagreement t => Sys2Proof.Machine.execClaspDoubleDisagreement t s
  | .restartServed t unitsSwapped => Sys2Proof.Machine.execRestartServed t unitsSwapped s
  | .scrub t mismatch => Sys2Proof.Machine.execScrub t mismatch s
  | .heartbeatSend t => Sys2Proof.Machine.execHeartbeatSend t s
  | .heartbeatReceive t port m => Sys2Proof.Machine.execHeartbeatReceive t port m s
  | .partnerLoss t => Sys2Proof.Machine.execPartnerLoss t s
  | .pairCtlYield t h => Sys2Proof.Machine.execPairCtlYield t h s
  | .yieldTimeout t => Sys2Proof.Machine.execYieldTimeout t s
  | .yieldRetry t => Sys2Proof.Machine.execYieldRetry t s
  | .pairMemberValue t pair memberB v => Sys2Proof.Machine.execPairMemberValue t pair memberB v s
  | .pairDiscrepancy t pair => Sys2Proof.Machine.execPairDiscrepancy t pair s
  | .siChange t si a b => Sys2Proof.Machine.execSiChange t si a b s
  | .siFilterExpiry t si => Sys2Proof.Machine.execSiFilterExpiry t si s
  | .siDiscrepancy t si => Sys2Proof.Machine.execSiDiscrepancy t si s
  | .nslCycle t h bytes => Sys2Proof.Machine.execNslCycle t h bytes s
  | .confirmSignet t h bytes => Sys2Proof.Machine.execConfirmSignet t h bytes s
  | .safetyReset t h bytes => Sys2Proof.Machine.execSafetyReset t h bytes s
  | .nslOpen t h bytes => Sys2Proof.Machine.execNslOpen t h bytes s
  | .nslTimeout t conn => Sys2Proof.Machine.execNslTimeout t conn s
  | .soReadback t so hrb lrb => Sys2Proof.Machine.execSoReadback t so hrb lrb s
  | .rbTExpiry t so => Sys2Proof.Machine.execRbTExpiry t so s
  | .tpWidthEnd t so => Sys2Proof.Machine.execTpWidthEnd t so s
  | .powerUp t b => Sys2Proof.Machine.execPowerUp t b s
  | .firmwareStart t => Sys2Proof.Machine.execFirmwareStart t s
  | .domainGood t pd badPairs => Sys2Proof.Machine.execDomainGood t pd badPairs s
  | .railWaitExpiry t pd => Sys2Proof.Machine.execRailWaitExpiry t pd s
  | .railTrip t rail overV => Sys2Proof.Machine.execRailTrip t rail overV s
  | .resetNAssert t => Sys2Proof.Machine.execResetNAssert t s
  | .resetNRelease t b => Sys2Proof.Machine.execResetNRelease t b s
  | .resetNTimeout t b => Sys2Proof.Machine.execResetNTimeout t b s
  | .resetNStuckClear t => Sys2Proof.Machine.execResetNStuckClear t s
  | .codeSwap t kind num ok => Sys2Proof.Machine.execCodeSwap t kind num ok s
  | .updStatus t h => Sys2Proof.Machine.execUpdStatus t h s
  | .updOpen t h slot len => Sys2Proof.Machine.execUpdOpen t h slot len s
  | .slotEraseComplete t => Sys2Proof.Machine.execSlotEraseComplete t s
  | .updWrite t h off bytes => Sys2Proof.Machine.execUpdWrite t h off bytes s
  | .updVerify t h slot => Sys2Proof.Machine.execUpdVerify t h slot s
  | .updVerifyComplete t slot keyOk sigOk => Sys2Proof.Machine.execUpdVerifyComplete t slot keyOk sigOk s
  | .updConfirm t h burn => Sys2Proof.Machine.execUpdConfirm t h burn s
  | .updBoot t h slot code => Sys2Proof.Machine.execUpdBoot t h slot code s
  | .tapUnlock t h magic => Sys2Proof.Machine.execTapUnlock t h magic s
  | .unlockWindowExpiry t => Sys2Proof.Machine.execUnlockWindowExpiry t s
  | .bistReport t h => Sys2Proof.Machine.execBistReport t h s
  | .extest t shift => Sys2Proof.Machine.execExtest t shift s
  | .samplePreload t shift => Sys2Proof.Machine.execSamplePreload t shift s
  | .idcode t => Sys2Proof.Machine.execIdcode t s
  | .probe t => Sys2Proof.Machine.execProbe t s
  | .extestPulse t => Sys2Proof.Machine.execExtestPulse t s
  | .extestTrain t => Sys2Proof.Machine.execExtestTrain t s
  | .clamp t => Sys2Proof.Machine.execClamp t s
  | .highz t => Sys2Proof.Machine.execHighz t s
  | .mbist t failing => Sys2Proof.Machine.execMbist t failing s
  | .modbist t map => Sys2Proof.Machine.execModbist t map s
  | .bistResult t => Sys2Proof.Machine.execBistResult t s
  | .bypass t code => Sys2Proof.Machine.execBypass t code s
  | .testLogicReset t => Sys2Proof.Machine.execTestLogicReset t s
  | .tjHoursTick t temp sensor => Sys2Proof.Machine.execTjHoursTick t temp sensor s
  | .stInitComplete t st d => Sys2Proof.Machine.execStInitComplete t st d s
  | .storageWriteComplete t index => Sys2Proof.Machine.execStorageWriteComplete t index s
  | .checkerLock t port => Sys2Proof.Machine.execCheckerLock t port s
  | .checkerLockLoss t port => Sys2Proof.Machine.execCheckerLockLoss t port s
  | .checkerCountSaturate t port bits => Sys2Proof.Machine.execCheckerCountSaturate t port bits s
  | .railGood t rail => Sys2Proof.Machine.execRailGood t rail s
  | .ptpMessageSend t port kind => Sys2Proof.Machine.execPtpMessageSend t port kind s

end Sys2Proof.Machine
end

