-- ==== Sys2Proof/Safety.lean ====
section
/-! DEFINITION. What counts as a safe run, in the terms the statements use: when the hub serves opcodes, the invariant that
every command keeps, and what an answer leaves alone. -/

namespace Sys2Proof.Machine

/-- The hub serves opcodes: a voted core runs its firmware, and not the ROM of recovery mode (R31, R371, R597). -/
def State.serves (s : State) : Prop := s.coreUp = true ∧ s.boot.phase ≠ .recovery

/-- The invariant of every command: RUNTIME fits its 64 bits (R238), no domain is reported good while it is off (R31, R34),
and the signet is confirmed only on a hub that runs, never in HELD (R392, R565). -/
def State.Inv (s : State) : Prop :=
  s.time.runtime < 2 ^ 64 ∧ s.pdGood &&& ~~~s.pdOn = 0 ∧ (s.safety.confirmed = true → s.image.running = true)

/-- The hub without what answering a command may change: its counters, the event queue, the command path with its reply
queues, the hold store and the archive's open blocks, which a FENCE that is met may close (R362, R367, R372), and the
model's own count of free values. -/
def State.beside (s : State) : State :=
  { s with counts := [], evq := {}, cmds := {}, hold := {}, arc := {}, free := 0 }

/-- The commands that a full reset or the loss of PD0's rails starts anew (R590, R602). -/
def startsAnew : Instr → Bool
  | .resetNAssert _ => true
  | .railTrip _ r _ => r == .vddaon || r == .vioaon
  | _ => false

/-- The commands that may change a configured value: the writes of items, an image at its boundary, an opened or closed
stream route, an action whose GAIT items take effect, and a start anew (R266, R350, R384, R491, R590, R602). -/
def writesConfig : Instr → Bool
  | .registerWrite .. => true
  | .writeParam .. => true
  | .writeRange .. => true
  | .utc .. => true
  | .extTemp .. => true
  | .laneTest .. => true
  | .streamAttach .. => true
  | .commitBoundary _ => true
  | .actionFire .. => true
  | c => startsAnew c

/-- The commands that may switch a power domain or change whether it is good: PD_CTL, starts and resets, the rails, and the
test port's intrusive instructions, which hold the hub in its test state (R31, R33, R34, R584, R588, R605, R625). -/
def switchesDomains : Instr → Bool
  | .pdCtl .. => true
  | .powerUp .. => true
  | .resetNAssert _ => true
  | .resetNRelease .. => true
  | .resetNTimeout .. => true
  | .firmwareStart _ => true
  | .domainGood .. => true
  | .railWaitExpiry .. => true
  | .railTrip .. => true
  | .railGood .. => true
  | .extest .. => true
  | .probe _ => true
  | .extestPulse _ => true
  | .extestTrain _ => true
  | .clamp _ => true
  | .highz _ => true
  | .mbist .. => true
  | .modbist .. => true
  | _ => false

end Sys2Proof.Machine
end

