-- ==== Sys2Proof/Certificates/Slice0/Obligations.lean ====
section
/-! DEFINITION. The statements for the provers: what the block does with each command, the invariants that every step keeps,
and the rules of the spec that hold of the whole hub. -/

open Sys2Proof Sys2Proof.Machine

/-- Transactions of the host port. Each clause gives the conditions under which one command of the table has its own
effect, and the next state that exec then answers: what the clause does not change in u is unchanged. The commands:
WRITE, READ_REPLY, READ_EVENTS, STATUS, BAD_TRANSACTION_CODE. -/
def Obligations.HostPortCommandsComplete : Prop :=
  ∀ (t : Nat) (s u : State), u = s.tick t →
    (∀ (stated : Nat) (bytes : List Byte), u.pd 15 = true → bytes.length = stated → 20 ≤ stated → stated ≤ 4096 →
      u.rxReady = true → u.coreUp = true → u.closed.contains (.hostCore, 0) = false → crcGood bytes = true →
      exec (.write t stated bytes) s = .next (((u.setLast 0).takePacket 6 bytes).shift u.statusWord)) ∧
    (∀ (clocked : Nat) (ecc : List Ecc) (r : Reply) (rest : List Reply) (y : State), u.pd 15 = true →
      ecc.contains .bad = false → u.cmds.replies = r :: rest → y = u.holdRead ecc →
      (y.replyBytesOf r).length ≤ clocked →
      exec (.readReply t clocked ecc) s =
        .next (({ y with cmds := { y.cmds with replies := rest } }.updWm).shift
          (y.statusWord ++ (y.replyBytesOf r).take clocked ++ zeros (clocked - (y.replyBytesOf r).length)))) ∧
    (∀ (clocked : Nat) (ecc : List Ecc), u.pd 15 = true →
      exec (.readEvents t clocked ecc) s = .next (u.hostReadEvents clocked ecc)) ∧
    (u.pd 15 = true → exec (.status t) s = .next ({ u with cmds := { u.cmds with miso := u.statusWord } })) ∧
    (∀ (code : Nat), u.pd 15 = true → (code = 0 ∨ 4 < code) →
      exec (.badTransactionCode t code) s = .next (((u.setLast 3).bump (pid 0x01 0 0x302) 16 15).shift u.statusWord))

/-- Starting commands, NOP, IDENTIFY, FENCE and its steps, PD_CTL. Each clause gives the conditions under which one
command of the table has its own effect, and the next state that exec then answers: what the clause does not change in
u is unchanged. The commands: COMMAND_START, NOP, IDENTIFY, FENCE, FENCE_CFG_MET, FENCE_OUT_MET, PD_CTL. -/
def Obligations.SystemCommandsComplete : Prop :=
  ∀ (t : Nat) (s u : State), u = s.tick t →
    (∀ (p : Pkt), u.coreUp = true → u.core.st = .running → pickPkt (u.cmds.waiting.filter u.ready) = some p →
      exec (.commandStart t) s = .next ({ u with
          cmds := { u.cmds with waiting := u.cmds.waiting.erase p, started := u.cmds.started ++ [p] } })) ∧
    (∀ (h : Hdr), u.serves → u.waits h = false → exec (.nop t h) s = .next (u.finish h 0x0100 stOk)) ∧
    (∀ (h : Hdr), u.serves → u.waits h = false → u.boot.running < 2 →
      exec (.identify t h) s = .next (u.finish h 0x0101 stOk 0 (u.identity (u.fw u.boot.running).version.toNat))) ∧
    (∀ (h : Hdr) (scope : Nat), u.serves → u.waits h = false → fld scope 0 4 ≠ 0 →
      exec (.fence t h scope) s = .next (u.openFence h scope)) ∧
    (∀ (h : Hdr) (f : Fence) (y : State), u.coreUp = true →
      u.cmds.fences.find? (fun f => f.h == h && f.step == .cfg) = some f → u.cfgMet f = true → y = u.fenceOutStep f →
      exec (.fenceCfgMet t h) s = .next (State.runFences y.cmds.fences.length y)) ∧
    (∀ (h : Hdr) (f : Fence), u.coreUp = true → u.cmds.fences.find? (fun f => f.h == h && f.step == .out) = some f →
      u.outMet f = true →
      exec (.fenceOutMet t h) s = .next (State.runFences (u.fenceDone f).cmds.fences.length (u.fenceDone f))) ∧
    (∀ (h : Hdr) (domain action : Nat), u.serves → u.waits h = false → u.pdCtlStatus domain action 0 = stOk →
      exec (.pdCtl t h domain action 0) s = .next (u.pdSwitch h domain action))

/-- Writes that reach a cell, the switch matrix, the tap comparators and the source monitors. Each clause gives the
conditions under which one command of the table has its own effect, and the next state that exec then answers: what
the clause does not change in u is unchanged. The commands: CELL_WRITE_EFFECT, CROSSPOINT_CLOSE,
CROSSING_PATIENCE_EXPIRY, TAP_EXCURSION_START, TAP_EXCURSION_END, SOURCE_MONITOR_EVALUATION, DRIFT_EVALUATION,
BLANKING_END. -/
def Obligations.RoutingAndSourceCommandsComplete : Prop :=
  ∀ (t : Nat) (s u : State), u = s.tick t →
    (∀ (cell : Nat) (ws : List (Nat × Nat × Nat)), cell < 48 → u.cellRuns cell = true →
      onGrid (u.cell cell).origin basePeriod u.now = true → ws = u.dueWrites cell →
      exec (.cellWriteEffect t cell) s =
        .next (u.withStatus cell (fun x => (fun y => forAll (y.vwAsked cell) State.vwBegin y)
          ((fun z => if ws.any (fun w => matrixItem w.1) then z.openPoints cell z.now else z)
            (forAll ws (fun y w => y.itemEffect cell w.1 w.2.1 w.2.2 y.now) (x.takeIssued cell)))))) ∧
    (∀ (cell : Nat) (e : Nat), cell < 48 → (u.cell cell).closing = some e → e ≤ u.now →
      exec (.crosspointClose t cell) s = .next (u.closePoints cell)) ∧
    (∀ (x : Crossing) (unit : Nat), unit < unitCount (crossingUnit x) →
      exec (.crossingPatienceExpiry t x unit) s = .next (u.patience x unit)) ∧
    (∀ (cell tap : Nat), cell < 48 → tap < 12 → u.cellRuns cell = true →
      bit (u.cell cell).excursions.toNat tap = false →
      exec (.tapExcursionStart t cell tap) s = .next ((u.modCell cell (fun c => { c with
          excursions := c.excursions ||| BitVec.ofNat 12 (2 ^ tap) })).raise 0x02 [(cell, 6), (tap, 4)])) ∧
    (∀ (cell tap : Nat), cell < 48 → tap < 12 →
      exec (.tapExcursionEnd t cell tap) s =
        .next (u.sensorEnds (chansOf cell) (fun x => x.modCell cell (fun c => { c with
            excursions := c.excursions &&& ~~~ BitVec.ofNat 12 (2 ^ tap) })))) ∧
    (∀ (src : Nat) (m : Monitor), src < 192 → u.evaluates src = true → (u.src src).evalAt ≤ u.now →
      exec (.sourceMonitorEvaluation t src m) s =
        .next (((u.modSrc src (Src.measured m u.now)).monitorStep src m).setSrcStatus src)) ∧
    (∀ (src : Nat) (m : Monitor) (z y : State), src < 192 →
      z = whenB (u.evaluates src && decide ((u.src src).evalAt ≤ u.now))
        (fun x => ((x.modSrc src (Src.measured m x.now)).monitorStep src m).setSrcStatus src) u →
      z.evaluates src = true → (z.src src).rN ≠ 0 → (z.src src).driftAt ≤ z.now →
      fld (z.effAt (pid 0x17 src 0x014)) 0 20 ≠ 0 → z.effAt (pid 0x17 src 0x010) ≠ 0 →
      y = z.modSrc src (fun c => { c with rSum := 0, rN := 0, driftAt := z.now + 1000000000 }) →
      y.effF 0x17 src 0 0 3 ≠ 0 →
      exec (.driftEvaluation t src m) s =
        .next ((y.modSrc src (driftStep (fld (z.effAt (pid 0x17 src 0x014)) 0 20) (z.effAt (pid 0x17 src 0x010))
          (60 * fld (z.effAt (pid 0x17 src 0x014)) 20 12) (rne (z.src src).rSum (z.src src).rN).toNat)).setSrcStatus
            src)) ∧
    (∀ (src : Nat) (e : Nat), src < 192 → (u.src src).blankUntil = some e → e ≤ u.now →
      exec (.blankingEnd t src) s = .next (u.modSrc src (fun c => { c with blankUntil := none })))

/-- Charge amplifiers, range changes and converter changes. Each clause gives the conditions under which one command of
the table has its own effect, and the next state that exec then answers: what the clause does not change in u is
unchanged. The commands: QA_THRESHOLD_CROSSING, QA_PERIODIC_RESET, QA_DEFERRED_RESET, RANGE_RECOVERY_END,
CONVERTER_PATH_VALID, SEAMLESS_SEAM, SEAMLESS_HANDBACK_SEAM, AUTO_RANGE_LOWER, AUTO_RANGE_RAISE, MODULATOR_FAILURE,
COLD_SWITCH_RESUME, SP_ASSIGN, WARM_SEAM. -/
def Obligations.AmplifierAndRangeCommandsComplete : Prop :=
  ∀ (t : Nat) (s u : State), u = s.tick t →
    (∀ (cell qa : Nat) (lv : QaLevels), cell < 48 → qa < 2 →
      ((u.effF 0x10 cell (0x130 + qa) 4 2 ≠ 1 ∧ u.qaBeyond cell qa (u.effF 0x10 cell (0x130 + qa) 8 7) lv = true) ∨
        ((u.qa cell qa).due = true ∧ u.qaBeyond cell qa 95 lv = true)) →
      u.cellRuns cell = true → u.qaWaits cell qa lv = false →
      exec (.qaThresholdCrossing t cell qa lv) s = .next (u.qaReset cell qa lv)) ∧
    (∀ (cell qa : Nat) (lv : QaLevels), cell < 48 → qa < 2 → u.effF 0x10 cell (0x130 + qa) 4 2 ≠ 0 →
      onGrid (u.cell cell).origin basePeriod u.now = true →
      (u.qa cell qa).last + u.effF 0x10 cell (0x130 + qa) 16 12 * 1000000000 ≤ u.now → u.cellRuns cell = true →
      u.qaWaits cell qa lv = false → exec (.qaPeriodicReset t cell qa lv) s = .next (u.qaReset cell qa lv)) ∧
    (∀ (cell qa : Nat) (lv : QaLevels), cell < 48 → qa < 2 → (u.qa cell qa).due = true →
      onGrid (u.cell cell).origin basePeriod u.now = true → u.cellRuns cell = true → u.qaWaits cell qa lv = false →
      exec (.qaDeferredReset t cell qa lv) s = .next (u.qaReset cell qa lv)) ∧
    (∀ (ch : Nat) (e : Nat), ch < 384 → (u.chan ch).recEnd = some e → e ≤ u.now →
      exec (.rangeRecoveryEnd t ch) s = .next (u.modChan ch (fun c => { c with recEnd := none, autoRec := false }))) ∧
    (∀ (cell : Nat) (p : Bool) (ch c : Nat) (v : Bool), cell < 48 → u.cellRuns cell = true →
      (u.cell cell).seam = .takeover p ch c v → c + 64 * basePeriod ≤ u.now → u.chanRuns ch = true →
      exec (.converterPathValid t cell) s =
        .next (u.modCell cell (fun d => { d with seam := .takeover p ch c true }))) ∧
    (∀ (cell : Nat) (ch g b : Nat), cell < 48 → (u.cell cell).seam = .seamless 1 ch g b → u.seamAt ch b 256 = true →
      exec (.seamlessSeam t cell) s =
        .next ((((u.seamTo ch .spTemp g).setGain ch g (u.now - 1)).modCell cell (fun c => { c with
            seam := .seamless 4 ch g u.now })).convStart ch false)) ∧
    (∀ (cell : Nat) (ch g b : Nat), cell < 48 → (u.cell cell).seam = .seamless 4 ch g b → u.seamAt ch b 4160 = true →
      exec (.seamlessHandbackSeam t cell) s = .next (((u.seamTo ch .own (u.chan ch).gain).spIdle cell).calKick cell)) ∧
    (∀ (ch : Nat), ch < 384 → u.autoReady ch = true → u.effF 0x11 ch 0x040 8 3 < (u.chan ch).gain →
      u.clippedTwice ch = true →
      exec (.autoRangeLower t ch) s = .next ((((u.flaggedGain ch ((u.chan ch).gain - 1)).modChan ch (fun c => { c with
          autoRec := true })).evAutoRange ch (u.chan ch).gain ((u.chan ch).gain - 1) 0).calKick (cellOfCh ch))) ∧
    (∀ (ch : Nat), ch < 384 → u.autoReady ch = true → u.changing ch = false →
      (u.chan ch).gain < u.effF 0x11 ch 0x040 12 3 →
      (u.chan ch).quietFrom + u.effF 0x11 ch 0x041 0 12 * 1000000000 ≤ (u.chan ch).fedAt →
      exec (.autoRangeRaise t ch) s =
        .next (((u.takeGain ch ((u.chan ch).gain + 1)).evAutoRange ch (u.chan ch).gain ((u.chan ch).gain + 1)
          1).calKick (cellOfCh ch))) ∧
    (∀ (cell modulator : Nat), cell < 48 → modulator < 9 → u.cellRuns cell = true → modulator ≠ 8 →
      u.isRetired cell modulator = false → (u.chan (8 * cell + modulator)).conv ≠ .none_ →
      (u.chan (8 * cell + modulator)).pausedFrom.any (fun e => e ≤ u.now) = false →
      exec (.modulatorFailure t cell modulator) s = .next (u.ownFails cell modulator)) ∧
    (∀ (ch : Nat) (e : Nat), ch < 384 → (u.chan ch).coldUntil = some e → e ≤ u.now → u.outAt ch u.now = true →
      exec (.coldSwitchResume t ch) s =
        .next (((u.modChan ch (fun c => { c with coldUntil := none })).calswapAt ch u.now).openSettle ch u.now)) ∧
    (∀ (h : Hdr) (cell : Nat) (val : Word), u.serves → u.waits h = false →
      u.itemStatus (pid 0x10 cell 0x120) val.toNat = stOk → u.spAssignStatus cell val.toNat = stOk →
      exec (.spAssign t h cell val) s = .next ((u.doSpAssign cell val.toNat).finish h opWriteParam stOk)) ∧
    (∀ (cell : Nat) (ps : List BasePer) (p : Bool) (ch c : Nat), cell < 48 →
      (u.cell cell).seam = .takeover p ch c true → u.seamAt ch c 4160 = true →
      exec (.warmSeam t cell ps) s = .next ((whenB (u.feeds ch) (fun x => x.feed ch ps) u).takeoverSeam p cell ch)) ∧
    (∀ (cell : Nat) (ps : List BasePer) (p : Bool) (ch c : Nat), cell < 48 →
      (u.cell cell).seam = .handback p ch c true → u.seamAt ch c 4160 = true →
      exec (.warmSeam t cell ps) s = .next ((whenB (u.feeds ch) (fun x => x.feed ch ps) u).handbackSeam p cell ch))

/-- The vibrating-wire sequence. Each clause gives the conditions under which one command of the table has its own effect,
and the next state that exec then answers: what the clause does not change in u is unchanged. The commands: VW_READ,
VW_RESISTANCE_END, VW_PLUCK_START, VW_LISTEN_START, VW_CAPTURE_END. -/
def Obligations.VibratingWireCommandsComplete : Prop :=
  ∀ (t : Nat) (s u : State), u = s.tick t →
    (∀ (h : Hdr) (src : Nat), u.serves → u.waits h = false → u.vwReadStatus src = stOk →
      exec (.vwRead t h src) s = .next ((u.vwStart src).accept h 0x0301 (.vw src))) ∧
    (∀ (src : Nat) (m : Monitor), src < 192 → (u.src src).vw = .resistance →
      u.vwStepEnds src (u.effF 0x17 src 0x016 0 10 + 10) = true → u.coilCheck src m = 0 →
      exec (.vwResistanceEnd t src m) s = .next (u.modSrc src (fun c => { c with
          coil := coilMean c m, coilStatus := 0, vw := .pluckWait }))) ∧
    (∀ (src : Nat), src < 192 → (u.src src).vw = .pluckWait → u.vwStepEnds src 0 = true →
      exec (.vwPluckStart t src) s = .next (u.modSrc src (fun c => { c with
          vw := .pluck, vwSince := u.now, mode := 4, iSet := u.setCurrent src }))) ∧
    (∀ (src : Nat) (ch : Nat) (y : State), src < 192 → (u.src src).vw = .pluck →
      u.vwStepEnds src (u.effF 0x17 src 4 0 7) = true → ch = (u.src src).vwCh →
      y = ((u.modSrc src (fun c => { c with vw := .listen, vwSince := u.now, mode := 0, iSet := 0 })).openPoints
        (src / 4) u.now).spanBusy ch →
      exec (.vwListenStart t src) s = .next ((y.inputChange ch u.now).modChan ch (fun c => { c with
          span := some ⟨2, u.now, [], 0, some (u.captureLen ch), 0, false, 0, 0, false, u.now, c.gain, 2⟩ }))) ∧
    (∀ (src : Nat) (p : Span), src < 192 → (u.src src).vw = .listen → (u.chan (u.src src).vwCh).span = some p →
      p.left = some 0 →
      exec (.vwCaptureEnd t src) s =
        .next ((u.modChan (u.src src).vwCh (fun c => { c with span := none })).vwFinish src
          (u.resultOf le (u.src src).vwCh p false (u.src src).coil (u.src src).coilStatus)
            (u.resultOf be (u.src src).vwCh p false (u.src src).coil (u.src src).coilStatus)))

/-- Samples, coarse values, bank swaps and gait changes. Each clause gives the conditions under which one command of the
table has its own effect, and the next state that exec then answers: what the clause does not change in u is
unchanged. The commands: OUTPUT_SAMPLE, COARSE_VALUE, SWAP, SWAP_EFFECT, GAIT_CHANGE, GAP_ENTRY_CONT,
LAST_SAMPLE_READ, LAST_COARSE_READ. -/
def Obligations.SampleAndGaitCommandsComplete : Prop :=
  ∀ (t : Nat) (s u : State), u = s.tick t →
    (∀ (ch : Nat) (ps : List BasePer), ch < 384 → u.feeds ch = true →
      exec (.outputSample t ch ps) s = .next (u.feed ch ps)) ∧
    (∀ (ch : Nat) (ps : List BasePer) (y : State) (x : Int) (z : State), ch < 384 → u.feeds ch = true →
      onGrid (u.cell (cellOfCh ch)).origin 1000000 u.now = true → y = u.feed ch ps → y.chanRuns ch = true →
      x = (y.chan ch).coarseNow →
      z = y.modChan ch (fun c => { c with coarseV := BitVec.ofInt 32 x, coarseFl := y.coarseFl ch }) →
      exec (.coarseValue t ch ps) s =
        .next ((z.slotValues ch false x (!hasFl (y.coarseFl ch) 1) z.now).reduceCoarse ch (some (x, y.coarseFl ch)))) ∧
    (∀ (h : Hdr) (gait : Nat), u.serves → u.waits h = false → u.itemStatus (pid 0x12 gait 0x012) 1 = stOk →
      u.swapStatus gait = stOk →
      exec (.swap t h gait) s = .next ((u.doSwap gait (u.now + 1) true).finish h opWriteParam stOk)) ∧
    (∀ (gait : Nat) (b : Nat) (y : State), gait < 8 → (u.gait gait).pendingAt = some b → u.boundaryWaits = false →
      b ≤ u.now → u.gaitBoundary gait = true → (u.gait gait).written = false →
      y = forAll (List.range 384) State.pendingGait u →
      exec (.swapEffect t gait) s =
        .next ((y.modGait gait (fun c => { c with pendingAt := none, written := false })).swapNow gait b)) ∧
    (∀ (ch : Nat) (g b : Nat), ch < 384 → u.boundaryWaits = false → (u.chan ch).gaitPend = some (g, b) →
      u.chanRuns ch = true → b ≤ u.now → u.outAt ch u.now = true →
      exec (.gaitChange t ch) s = .next (u.takeGait ch g)) ∧
    (∀ (ch : Nat) (g : Gap) (y : State), ch < 384 → (u.chan ch).gap = some g → gapDue g u.now = true → u.pd 2 = true →
      y = (u.putGap ch none g true).modChan ch (fun c => { c with
          gap := some (gapRest g u.now (g.t0 + g.count * u.outPeriod ch)) }) →
      y.trig.recs = [] → exec (.gapEntryCont t ch) s = .next (y)) ∧
    (∀ (h : Hdr) (ch : Nat), u.serves → u.waits h = false → ch < 384 →
      exec (.lastSampleRead t h ch) s =
        .next ((u.readLastSample ch).1.finish h 0x0200 stOk 0 (be 4 (u.readLastSample ch).2))) ∧
    (∀ (h : Hdr) (ch : Nat), u.serves → u.waits h = false → ch < 384 →
      exec (.lastCoarseRead t h ch) s =
        .next ((u.readLastCoarse ch).1.finish h 0x0200 stOk 0 (be 4 (u.readLastCoarse ch).2)))

/-- Accumulators, min and max, and measurements. Each clause gives the conditions under which one command of the table has
its own effect, and the next state that exec then answers: what the clause does not change in u is unchanged. The
commands: RED_CLOSE_ACC, RED_CLOSE_MM, RED_LATCH_LIVE, RED_LATCH_LAST, INTERVAL_CLOSE, MEAS_CMD, SPAN_END,
MEAS_RESULT. -/
def Obligations.ReductionCommandsComplete : Prop :=
  ∀ (t : Nat) (s u : State), u = s.tick t →
    (∀ (h : Hdr) (ch : Nat), u.serves → u.waits h = false → u.itemStatus (pid 0x11 ch 0x063) 1 = stOk →
      exec (.redCloseAcc t h ch) s = .next ((u.doRedCtl ch 1).finish h opWriteParam stOk)) ∧
    (∀ (h : Hdr) (ch : Nat), u.serves → u.waits h = false → u.itemStatus (pid 0x11 ch 0x063) 2 = stOk →
      exec (.redCloseMm t h ch) s = .next ((u.doRedCtl ch 2).finish h opWriteParam stOk)) ∧
    (∀ (h : Hdr) (ch : Nat), u.serves → u.waits h = false → u.itemStatus (pid 0x11 ch 0x063) 4 = stOk →
      exec (.redLatchLive t h ch) s = .next ((u.doRedCtl ch 4).finish h opWriteParam stOk)) ∧
    (∀ (h : Hdr) (ch : Nat), u.serves → u.waits h = false → u.itemStatus (pid 0x11 ch 0x063) 8 = stOk →
      exec (.redLatchLast t h ch) s = .next ((u.doRedCtl ch 8).finish h opWriteParam stOk)) ∧
    (∀ (ch : Nat) (y : State), ch < 384 → (u.chan ch).gridDue = true →
      y = u.modChan ch (fun c => { c with gridDue := false }) → y.redEn ch 0 = true → y.cfgN 0x11 ch 0x061 ≠ 0 →
      (u.chan ch).gridSlot % y.cfgN 0x11 ch 0x061 = 0 → (y.closeAcc ch {}).redEn ch 1 = false →
      exec (.intervalClose t ch) s = .next (y.closeAcc ch {})) ∧
    (∀ (h : Hdr) (ch : Nat), u.serves → u.waits h = false → u.itemStatus (pid 0x11 ch 0x084) 1 = stOk →
      u.measStatus ch = stOk → exec (.measCmd t h ch) s = .next ((u.doMeas ch).accept h opWriteParam (.meas ch))) ∧
    (∀ (ch : Nat) (p : Span), ch < 384 → (u.chan ch).span = some p → p.left = some 0 →
      exec (.spanEnd t ch false) s = .next (u.modChan ch (fun c => { c with span := some { p with ended := true } }))) ∧
    (∀ (ch : Nat) (p : Span), ch < 384 → (u.chan ch).span = some p → p.ended = true → p.typ = 3 →
      exec (.measResult t ch false) s = .next (u.cmdResult ch p))

/-- Trigger events, records and blocks. Each clause gives the conditions under which one command of the table has its own
effect, and the next state that exec then answers: what the clause does not change in u is unchanged. The commands:
MANUAL, RECORD_MANUAL, RCTL, RECORD_CLOSE, SLOT_RESULT, TRIGGER_EVENT, RECORD_END, NETWORK_TRIGGER_RECEIVE,
BLOCK_FLUSH. -/
def Obligations.RecordCommandsComplete : Prop :=
  ∀ (t : Nat) (s u : State), u = s.tick t →
    (∀ (h : Hdr) (profile : Nat) (net : Bool), u.serves → u.waits h = false →
      u.itemStatus (pid 0x15 0x1FF 4) (profile ||| b2n net <<< 4) = stOk → u.manualStatus profile = stOk →
      exec (.manual t h profile net) s = .next (((u.doManual profile net).1).finish h opWriteParam stOk)) ∧
    (∀ (h : Hdr) (profile : Nat) (net : Bool) (y : State) (n : Nat), u.serves → u.waits h = false → u.running = true →
      profile < 16 → u.manualStatus profile = stOk → u.localRec profile = none →
      u.doManual profile net = (y, some n) →
      exec (.recordManual t h profile net) s =
        .next (y.finish h 0x0400 stOk (b2n (u.wantsNet profile net && u.time.state == .unlocked))
          (recReply u.trig.epoch n))) ∧
    (∀ (h : Hdr) (slot : Nat), u.serves → u.waits h = false → u.itemStatus (pid 0x15 (0x100 + slot) 5) 1 = stOk →
      u.rctlStatus slot = stOk → exec (.rctl t h slot) s = .next ((u.doRctl slot).finish h opWriteParam stOk)) ∧
    (∀ (h : Hdr) (slot : Nat), u.serves → u.waits h = false → u.running = true → slot < 16 →
      u.rctlStatus slot = stOk → exec (.recordClose t h slot) s = .next ((u.doRctl slot).finish h 0x0401 stOk)) ∧
    (∀ (slot : Nat) (x : Nat) (r : List Nat), slot < 512 → u.pd 2 = true → (u.slot slot).results = x :: r →
      exec (.slotResult t slot) s = .next ((u.modSlot slot (fun c => { c with results := r })).combine slot x)) ∧
    (∀ (trig : Nat) (f : Forming), u.pd 2 = true →
      u.trig.forming.find? (fun f => f.trig == trig && decide (f.first + 100000 ≤ u.now)) = some f →
      exec (.triggerEvent t trig) s = .next ({ u with
          trig := { u.trig with
              forming := u.trig.forming.erase f
              evaluated := if u.trig.evaluated.contains trig then u.trig.evaluated else trig ::
                u.trig.evaluated } }.evalTrigger f)) ∧
    (∀ (slot : Nat) (r : Record) (y : State), slot < 16 → tfind u.trig.recs slot = some r →
      r.members.all Member.finished = true → r.want ≤ r.results.length → r.taken + 125000 ≤ u.now →
      u.admitOther (itemSize 0 false (.trailer (trailerOf r))) = true →
      y = u.putLone 0x13 r.profile (.trailer (trailerOf r)) →
      exec (.recordEnd t slot) s = .next ({ y with trig := { y.trig with recs := tdel y.trig.recs slot } })) ∧
    (∀ (port seq hops : Nat) (m : NetTrig), port < 6 → u.carries port = true → u.bcastNew m.hub seq = true →
      exec (.networkTriggerReceive t port seq hops m) s = .next (u.netTrigger port seq hops m)) ∧
    (∀ (ch : Nat) (slot : Option Nat) (b : Blk), ch < 384 → u.openOf ch slot = some b →
      b.opened + u.cfgF 0x11 ch 0x0B0 16 16 * 1000000 ≤ u.now →
      exec (.blockFlush t ch slot) s = .next (u.closeOpen ch slot))

/-- The time exchanges and the time states. Each clause gives the conditions under which one command of the table has its
own effect, and the next state that exec then answers: what the clause does not change in u is unchanged. The
commands: REFCLK_LOST, REFCLK_RETURN, SYNC_SEND, SYNC_RECEIVE, DELAY_REQ_RECEIVE, DELAY_RESP_RECEIVE,
PTP_MESSAGE_RECEIVE, PTP_MESSAGE_SEND, PARENT_LOSS, PARENT_REPLACE_TIMEOUT, LEAD_WAIT_EXPIRY, HOLD_LIMIT_PASSED,
SLEW_COMPLETE. -/
def Obligations.TimeMessageCommandsComplete : Prop :=
  ∀ (t : Nat) (s u : State), u = s.tick t →
    (∀ (cause : Nat), u.time.refclkOk = true →
      exec (.refclkLost t cause) s =
        .next (((u.modTime (fun m => { m with refclkOk := false })).newSegment.report 74
          (BitVec.ofNat 32 cause)).yieldLead)) ∧
    (u.time.refclkOk = false → ((u.modTime (fun m => { m with refclkOk := true })).newSegment.fsrc 74).active = true →
      exec (.refclkReturn t) s =
        .next ((u.modTime (fun m => { m with refclkOk := true })).newSegment.pairInactive 74)) ∧
    (∀ (port : Nat) (x : Nat), port < 6 → u.timeOn port = true → u.time.state ≠ .unlocked → u.time.parent ≠ port →
      u.elapsed (u.ptime port).syncAt 62500000 = true → x = ((u.ptime port).exch + 1) % 256 →
      exec (.syncSend t port) s =
        .next ((u.modPtime port (fun p => { p with exch := x, t1 := 0, syncAt := some u.now })).sendTime port 1
          (u.timeMsg x 0 0 0 0 (code 32 (u.ptime port).delay)))) ∧
    (∀ (port : Nat) (m : TimeMsg), port < 6 → u.timeOn port = true → m.state ≠ 0 → u.time.parent = port →
      exec (.syncReceive t port m) s = .next ((u.modPtime port (fun p => { p with
          exch := m.exch, t1 := m.t1, t2 := u.rxStamp port, t3 := 0 })).sendTime port 2
            (u.timeMsg m.exch 0 (u.rxStamp port) 0 0 (code 32 (u.ptime port).delay)))) ∧
    (∀ (port : Nat) (m : TimeMsg) (d : Int) (y : State), port < 6 → u.timeOn port = true → u.time.parent ≠ port →
      m.exch = (u.ptime port).exch → u.time.state ≠ .unlocked →
      d = meanDelay (u.ptime port).t1 m.t2 m.t3 (u.rxStamp port) →
      y = u.modPtime port (fun p => { p with role := 2, t2 := m.t2, t3 := m.t3, t4 := u.rxStamp port, delay := d }) →
      exec (.delayReqReceive t port m) s =
        .next ((y.compareDelay port m.d).sendTime port 3 (y.timeMsg m.exch (u.ptime port).t1 m.t2 m.t3
          (u.rxStamp port) (code 32 d)))) ∧
    (∀ (port : Nat) (m : TimeMsg) (y : Int) (d : Int) (x : State), port < 6 → u.timeOn port = true →
      u.time.parent = port → m.exch = (u.ptime port).exch → m.state ≠ 0 →
      d = meanDelay m.t1 (u.ptime port).t2 (u.ptime port).t3 m.t4 →
      x = u.modPtime port (fun p => { p with role := 3, t1 := m.t1, t4 := m.t4, delay := d }) →
      exec (.delayRespReceive t port m y) s =
        .next ((x.compareDelay port m.d).timeUpdate (x.offsetOf port m.t1 (u.ptime port).t2 d) y m.bound)) ∧
    (∀ (port : Nat) (m : PtpMsg) (y : Int), port < 6 → u.ptpMine port m = true →
      exec (.ptpMessageReceive t port m y) s = .next (u.ptpTake port m y (u.ptpSlave == some port))) ∧
    (∀ (port : Nat), port < 6 → u.ptpOn port = true → u.ptpSlave = some port → u.p2p port = false →
      exec (.ptpMessageSend t port 1) s =
        .next ((u.modPtime port (fun q => { q with t3 := u.txStamp port })).ptpSend port 1 (u.ptime port).exch 0)) ∧
    (u.time.parent ≠ 7 → exec (.parentLoss t) s = .next (u.loseParent)) ∧
    (∀ (x : Nat), u.time.lostAt = some x → u.time.state = .locked → u.time.isLead = false → x + 250000000 ≤ u.now →
      exec (.parentReplaceTimeout t) s = .next (u.enterHoldover)) ∧
    (u.leadEn = true → u.net.id.isSome = true → u.time.parent = 7 → u.time.isLead = false → u.time.state ≠ .locked →
      bestAnn u.announces = none → u.leadWaitFrom + u.cfgF 0x02 0 1 24 8 * 100000000 ≤ u.now →
      exec (.leadWaitExpiry t) s = .next (u.found)) ∧
    (u.time.state = .holdover → u.time.limitPassed = false → u.holdLimit < u.bound →
      exec (.holdLimitPassed t) s = .next ((u.modTime (fun m => { m with limitPassed := true })).report 75 2)) ∧
    (∀ (y : State), u.time.slewFrom.isSome = true → u.slewTotal = 0 → y = u.slewFold false → y.time.state = .locked →
      exec (.slewComplete t) s = .next (y))

/-- Reading the time, UTC and the Rein bus. Each clause gives the conditions under which one command of the table has its
own effect, and the next state that exec then answers: what the clause does not change in u is unchanged. The
commands: NTIME_LAT_READ, UTC, TIME_READ, REIN_EDGE, REIN_SYNC_DRIVE, REIN_PULSE_END, REIN_CLK_MISSING,
REIN_SYNC_MISSING, REIN_READBACK_FAULT, REIN_LINE_STUCK_HIGH. -/
def Obligations.TimeItemAndReinCommandsComplete : Prop :=
  ∀ (t : Nat) (s u : State), u = s.tick t →
    (∀ (h : Hdr), u.serves → u.waits h = false →
      exec (.ntimeLatRead t h) s = .next (u.readNtimeLat.1.finish h 0x0200 stOk 0 (be 4 u.readNtimeLat.2))) ∧
    (∀ (h : Hdr) (val : Word), u.serves → u.waits h = false → u.itemStatus (pid 0x02 0 7) val.toNat = stOk →
      u.utcStatus = stOk → exec (.utc t h val) s = .next ((u.doUtc val.toNat).finish h opWriteParam stOk)) ∧
    (∀ (h : Hdr), u.serves → u.waits h = false →
      exec (.timeRead t h) s = .next (u.finish h 0x0502 stOk 0 u.timeReply)) ∧
    (∀ (line : Nat) (rising : Bool), line < 4 → u.reinDir line = 1 →
      exec (.reinEdge t line rising) s =
        .next ((u.lineEdge line rising).edgeIn line (u.now - u.reinComp line) rising)) ∧
    (∀ (line : Nat) (rising : Bool), line < 4 → u.reinDir line = 0 →
      exec (.reinEdge t line rising) s = .next (u.lineEdge line rising)) ∧
    (u.reinDir 1 = 2 → (u.line 1).fault = false → u.time.state ≠ .unlocked → u.syncDue = true →
      exec (.reinSyncDrive t) s = .next ((u.lineEdge 1 true).modLine 1 (fun l => { l with
          pulseEnd := some (u.now + 1000000) }))) ∧
    (∀ (line : Nat) (e : Nat), line < 4 → (u.line line).pulseEnd = some e → e ≤ u.now → (u.line line).level = true →
      exec (.reinPulseEnd t line) s = .next (u.lineEdge line false)) ∧
    (u.time.parent = 6 → (u.line 0).edgeAt + 1000 ≤ u.now →
      exec (.reinClkMissing t) s =
        .next (((u.modTime (fun m => { m with reinClk := false })).reinFault 0 2).loseParent)) ∧
    (u.time.parent = 6 → max (u.line 1).riseAt u.time.reinFrom + 1100000000 ≤ u.now →
      exec (.reinSyncMissing t) s = .next (u.reinFault 1 4)) ∧
    (∀ (line : Nat), line < 4 → u.reinDir line = 2 → (u.line line).fault = false →
      exec (.reinReadbackFault t line) s =
        .next ((u.modLine line (fun l => { l with fault := true, level := false })).reinFault line 1)) ∧
    (∀ (line : Nat), line < 4 → 2 ≤ line → (u.line line).level = true → (u.line line).riseAt + 1000000 < u.now →
      exec (.reinLineStuckHigh t line) s = .next (u.reinFault line 5))

/-- Calibration, trims, triangulation and the drift log. Each clause gives the conditions under which one command of the
table has its own effect, and the next state that exec then answers: what the clause does not change in u is
unchanged. The commands: CAL_REQUEST, CAL_REQ, BASELINE, BACKGROUND_CALIBRATION, CALIBRATION_RESULT, TRIM_APPLY,
TRIANGULATION_RUN, TRIANGULATION_RESULT, TRIANGULATION_TRIM_UPDATE, DRIFT_LOG_RETRY, CAL_AGE_TICK. That source 94 ends
with a write that succeeds is the model's reading (log entry 114). -/
def Obligations.CalibrationCommandsComplete : Prop :=
  ∀ (t : Nat) (s u : State), u = s.tick t →
    (∀ (h : Hdr) (kind target : Nat), u.serves → u.waits h = false → u.running = true →
      u.calStatus kind target = stOk →
      exec (.calRequest t h kind target) s = .next ((u.accept h 0x0600 (.cal kind target)).doCal kind target)) ∧
    (∀ (h : Hdr) (kind target : Nat), u.serves → u.waits h = false →
      u.itemStatus (pid 0x16 0 4) (kind ||| target <<< 4) = stOk → u.calStatus kind target = stOk →
      exec (.calReq t h kind target) s = .next ((u.accept h opWriteParam (.cal kind target)).doCal kind target)) ∧
    (∀ (h : Hdr) (val : Word), u.serves → u.waits h = false → u.itemStatus (pid 0x16 0 5) val.toNat = stOk →
      exec (.baseline t h val) s = .next ((u.doBaseline val.toNat).finish h opWriteParam stOk)) ∧
    (∀ (cell : Nat) (ch k : Nat) (y : State), cell < 48 → u.coreUp = true → ch = 8 * cell + (u.cell cell).bgNext →
      k = convKey cell (ch % 8) → u.bgDue k = true → u.cellFenced cell = false → u.calBusy cell = false →
      y = (u.bgMark k).modCell cell (fun c => { c with bgNext := (c.bgNext + 1) % 8 }) → y.natIdle ch = true →
      y.cfgB 0x16 (0x400 + ch) 0 1 = false → y.isRetired cell (ch % 8) = false →
      y.cal.queue.contains (1, ch) = false →
      exec (.backgroundCalibration t cell) s = .next ({ y with
          cal := { y.cal with queue := y.cal.queue ++ [(1, ch)] } }.calKick cell)) ∧
    (∀ (c : CalOut) (n : Nat), c.obj = .source n → n < 192 → u.coreUp = true → u.cellFenced (n / 4) = false →
      exec (.calibrationResult t c) s = .next (u.sourceResult n c)) ∧
    (∀ (cell conv : Nat) (o g : List Int) (y : State), cell < 48 → conv < 9 →
      onGrid (u.cell cell).origin basePeriod u.now = true → u.inOverlap cell conv = false →
      (u.trims (convKey cell conv)).pending = some (o, g) →
      y = u.modTrims (convKey cell conv) (fun c => { c with ofs := o, gain := g, pending := none }) →
      y.channelOf cell conv = none → exec (.trimApply t cell conv) s = .next (y)) ∧
    (∀ (due : Nat), u.coreUp = true → u.cal.running = false →
      due = u.cal.triDue.getD ((u.cal.triAt.map (fun x => x + u.cfgF 0x16 0 0 16 8 * 60000000000)).getD 0) →
      due ≤ u.now → u.triBusy = [] → exec (.triangulationRun t) s = .next (u.triStart [])) ∧
    (∀ (o : TriOut), u.coreUp = true → u.cal.running = true → u.cfgB 0x16 0 0 1 = false →
      u.closureOf o * 10000000 ≤ 1 →
      exec (.triangulationResult t o) s = .next ({ u with
          cal := { u.cal with
              running := false, temps := o.temps, closure :=
                (rneQ (u.closureOf o * 1000000000)).toNat } }.triAccepted o)) ∧
    (∀ (quadrant : Nat) (d k : Int), quadrant < 4 → tfind u.cal.trimDue quadrant = some d →
      u.trimSecond quadrant = true → k = rne (d * 524288) 5000000 →
      exec (.triangulationTrimUpdate t quadrant) s =
        .next (forAll (cellsOf quadrant) (fun s c => forAll (List.range 9) (fun s m => s.triTrim c m k) s) { u with
            cal := { u.cal with
                trimDue := tset 0 u.cal.trimDue quadrant 0
                corr := setNth u.cal.corr quadrant (u.cal.corr.getD quadrant 0 + rne (k * 5000000) 524288) } })) ∧
    (∀ (e : LogEntry), u.coreUp = true → u.cal.unwritten = some e → u.cal.unwrittenAt + 3600000000000 ≤ u.now →
      exec (.driftLogRetry t true) s =
        .next (({ u with cal := { u.cal with unwritten := none } }.logPut e).pairEnds 94)) ∧
    (u.coreUp = true → u.elapsed u.cal.ageAt 3600000000000 = true →
      exec (.calAgeTick t) s =
        .next (forAll (List.range 432) (fun s key => s.ageOne (4 * s.cfgF 0x16 0 0 8 8) key) { u with
            cal := { u.cal with ageAt := some u.now } }))

/-- Self-tests and the optical sources. Each clause gives the conditions under which one command of the table has its own
effect, and the next state that exec then answers: what the clause does not change in u is unchanged. The commands:
SELF_TEST, TEST_REQ, SELF_TEST_END, OS_APPLY, OS_CTL_APPLY, OS_CTL_CLEAR, OPTICAL_UPDATE, OS_OPEN_DETECT,
OS_OPEN_CLEAR, NEIGHBOUR_SHORT_TEST, EXT_TEMP, EXT_TEMP_STALE. -/
def Obligations.SelfTestAndOpticalCommandsComplete : Prop :=
  ∀ (t : Nat) (s u : State), u = s.tick t →
    (∀ (h : Hdr) (test target : Nat), u.serves → u.waits h = false → u.running = true →
      u.testStatus test target = stOk →
      exec (.selfTest t h test target) s = .next ((u.accept h 0x0601 (.test test target)).doTest test target)) ∧
    (∀ (h : Hdr) (test target : Nat), u.serves → u.waits h = false →
      u.itemStatus (pid 0x16 0 6) (test ||| target <<< 4) = stOk → u.testStatus test target = stOk →
      exec (.testReq t h test target) s = .next ((u.accept h opWriteParam (.test test target)).doTest test target)) ∧
    (∀ (test target : Nat) (failed : Bool) (data : Nat), u.coreUp = true →
      u.hasWork (fun w => w == .test test target) = true → test ≠ 1 → liveTest test = true →
      exec (.selfTestEnd t test target failed data) s =
        .next (u.finalReply (.test test target) stOk 0 (be 1 (b2n failed) ++ be 3 data))) ∧
    (∀ (h : Hdr) (mask : Nat), u.serves → u.waits h = false → u.running = true → u.osMaskStatus mask = stOk →
      exec (.osApply t h mask) s =
        .next ((u.doOsApply (u.now + 1) mask).finishLate h 0x0700 (.instant (u.opticalEdge (u.now + 1))))) ∧
    (∀ (h : Hdr) (os : Nat), u.serves → u.waits h = false → u.itemStatus (pid 0x07 os 4) 1 = stOk →
      u.osCheck os = stOk →
      exec (.osCtlApply t h os) s = .next ((u.doOsApply (u.now + 1) (2 ^ os)).finish h opWriteParam stOk)) ∧
    (∀ (h : Hdr) (os : Nat) (shorted : Bool), u.serves → u.waits h = false → u.itemStatus (pid 0x07 os 4) 2 = stOk →
      u.osClearStatus os = stOk →
      exec (.osCtlClear t h os shorted) s = .next ((u.doOsClear os shorted).finish h opWriteParam stOk)) ∧
    (∀ (tdrv : Int), u.pd 12 = true → u.updateDue = true → exec (.opticalUpdate t tdrv) s = .next (u.update tdrv)) ∧
    (∀ (os : Nat), os < 16 → u.pd 12 = true → u.osLit os = true → (u.os os).short = false → (u.os os).openC = false →
      exec (.osOpenDetect t os) s = .next (u.osStatus os (fun o => { o with openC := true, openAt := u.now }))) ∧
    (∀ (os : Nat), os < 16 → (u.os os).openC = true → (u.os os).openAt + 100000000 ≤ u.now →
      exec (.osOpenClear t os) s = .next (u.osStatus os (fun o => { o with openC := false }))) ∧
    (∀ (pair : Nat), pair < 15 → u.pd 12 = true → u.pairDue pair = true → (u.os pair).level = 0 →
      (u.os (pair + 1)).level = 0 → exec (.neighbourShortTest t pair false) s = .next (u.pairTested pair)) ∧
    (∀ (pair : Nat), pair < 15 → u.pd 12 = true → u.pairDue pair = true → (u.os pair).level = 0 →
      (u.os (pair + 1)).level = 0 → u.opt.shorted.contains pair = false →
      exec (.neighbourShortTest t pair true) s =
        .next ((u.pairTested pair).setShorted ((u.pairTested pair).opt.shorted ++ [pair]))) ∧
    (∀ (h : Hdr) (val : Word), u.serves → u.waits h = false → u.itemStatus (pid 0x07 0x010 3) val.toNat = stOk →
      exec (.extTemp t h val) s = .next ((u.doExtTemp val.toNat).finish h opWriteParam stOk)) ∧
    (u.opt.extStale = false → u.opt.extAt + 60000000000 < u.now →
      exec (.extTempStale t) s = .next ({ u with opt := { u.opt with extStale := true } }.evOptical 16 64))

/-- QCTL, EVENT_READ and the spill. Each clause gives the conditions under which one command of the table has its own
effect, and the next state that exec then answers: what the clause does not change in u is unchanged. The commands:
QCTL_CLEAR_UNDERRUN, QCTL_CLEAR_NOTICES, QCTL_CLEAR_LOST, QCTL_CLEAR_REPLY_UNDERRUN, EVENT_READ, SPILL,
SPILL_READBACK. -/
def Obligations.QueueCommandsComplete : Prop :=
  ∀ (t : Nat) (s u : State), u = s.tick t →
    (∀ (h : Hdr), u.serves → u.waits h = false → u.itemStatus qctlId 1 = stOk →
      exec (.qctlClearUnderrun t h) s =
        .next (({ u with evq := { u.evq with underrun := false } }).finish h opWriteParam stOk)) ∧
    (∀ (h : Hdr), u.serves → u.waits h = false → u.itemStatus qctlId 2 = stOk →
      exec (.qctlClearNotices t h) s = .next (({ u with
          evq := { u.evq with wm0 := quietWm u.evq.wm0, wm1 := quietWm u.evq.wm1 } }).finish h opWriteParam stOk)) ∧
    (∀ (h : Hdr), u.serves → u.waits h = false → u.itemStatus qctlId 4 = stOk →
      exec (.qctlClearLost t h) s =
        .next (({ u with evq := { u.evq with lost := false } }).finish h opWriteParam stOk)) ∧
    (∀ (h : Hdr), u.serves → u.waits h = false → u.itemStatus qctlId 8 = stOk →
      exec (.qctlClearReplyUnderrun t h) s =
        .next (({ u with cmds := { u.cmds with replyUnderrun := false } }).finish h opWriteParam stOk)) ∧
    (∀ (h : Hdr) (count : Nat) (ecc : List Ecc) (y : State) (bytes : List Byte) (n : Nat), u.serves →
      u.waits h = false → 1 ≤ count → count ≤ 509 → State.takeEntries count u ecc = (y, bytes, n, 0) →
      exec (.eventRead t h count ecc) s = .next (y.updWm.finish h 0x0800 stOk n bytes)) ∧
    (u.pd 2 = true → u.anyReady = true → u.cfgF 0x08 0 7 0 12 * 4096 ≤ u.fill →
      exec (.spill t) s = .next ((State.spillMore u.hold.blks.length u).updWm)) ∧
    (∀ (b : Blk), u.hold.blks.find? u.readable = some b →
      ((u.hold.blks.filter Blk.staged).map Blk.size).sum + b.size ≤ stagingRegion →
      exec (.spillReadback t) s = .next ({ u with
          hold := { u.hold with
              blks := u.hold.blks.map (fun x => if x.order = b.order then { x with staged := true } else x) } }))

/-- The storage ports and the archive. Each clause gives the conditions under which one command of the table has its own
effect, and the next state that exec then answers: what the clause does not change in u is unchanged. The commands:
STORAGE_PORT_FAIL, ST_CTL_DETACH, ST_CTL_ATTACH, ST_INIT_COMPLETE, RESILVER_COMPLETE, LIFE_CHECK, ARCHIVE_BLOCK_WRITE,
STORAGE_WRITE_COMPLETE, JOB_COMPLETE, ARC_EXPORT, ARC_COMPRESS, ARC_READ, JOB_CANCEL. -/
def Obligations.StorageCommandsComplete : Prop :=
  ∀ (t : Nat) (s u : State), u = s.tick t →
    (∀ (st : Nat), st < 2 → u.pd 14 = true → 1 ≤ (u.store st).st → (u.store st).st ≤ 3 →
      exec (.storagePortFail t st) s =
        .next (((u.bumpBy (pid 0x04 (1 + st) 1) 16 16 3).storeStops st 5).report (92 + st) 1)) ∧
    (∀ (h : Hdr) (st : Nat), u.serves → u.waits h = false → u.itemStatus (pid 0x04 (1 + st) 0) 1 = stOk →
      exec (.stCtlDetach t h st) s = .next ((u.doDetach st).finish h opWriteParam stOk)) ∧
    (∀ (h : Hdr) (st : Nat), u.serves → u.waits h = false → u.itemStatus (pid 0x04 (1 + st) 0) 2 = stOk →
      exec (.stCtlAttach t h st) s = .next ((u.doAttach st).finish h opWriteParam stOk)) ∧
    (∀ (st : Nat) (d : StDev) (y : State), st < 2 → u.pd 14 = true → (u.store st).st = 1 →
      (u.store st).attach = false → d.ok = true → d.label.isSome = true → d.label = u.labelId →
      y = (u.modStore st (fun x => { x.found d with st := 2, cap := sectorsUsed d.sectors, attach := false })).mount →
      exec (.stInitComplete t st d) s = .next ((if 2 ^ 32 < d.sectors then y.evStorage st else y).tryLoad)) ∧
    (∀ (st : Nat) (y : State), st < 2 → (u.store st).st = 3 → (u.store (1 - st)).cap ≤ u.resilverPoint st →
      y = { u with
          hold := { u.hold with blks := u.hold.blks.map (fun (b : Blk) => { b with spillPort := 2 }) }
          arc := { u.arc with written := u.arc.written.map (fun (a : ArcBlk) => { a with alone := false }) } } →
      exec (.resilverComplete t st) s = .next ((y.modStore st (fun d => { d with
          st := 2
          cap := (u.store (1 - st)).cap
          resilver := (u.store (1 - st)).cap
          cfg0 := (u.store (1 - st)).cfg0
          cfg1 := (u.store (1 - st)).cfg1 })).mount)) ∧
    (∀ (st lifeA lifeB eol : Nat), st < 2 → u.inLayout st = true → lifeA < u.cfgF 0x04 0 4 0 4 →
      lifeB < u.cfgF 0x04 0 4 0 4 → eol < 2 → u.elapsed (u.store st).lifeAt 3600000000000 = true →
      exec (.lifeCheck t st lifeA lifeB eol) s = .next (u.modStore st (fun d => { d with
          lifeA := lifeA % 16, lifeB := lifeB % 16, eol := eol % 4, lifeAt := some u.now }))) ∧
    (∀ (ch : Nat) (ecc : List Ecc), u.pd 2 = true → u.arc.mounted = true → u.anyReady = true → u.ringSize ≠ 0 →
      u.arcReady ch = true →
      exec (.archiveBlockWrite t ch ecc) s = .next ((State.arcReads (tget [] u.arc.openBlks ch) u ecc).arcWrite ch)) ∧
    (∀ (index : Nat), u.arc.mounted = true →
      exec (.storageWriteComplete t index) s = .next ({ u with
          arc := { u.arc with
              written := u.arc.written.map (fun (a : ArcBlk) => if a.index = index then { a with durable := true }
                else a) } }.arcFree)) ∧
    (∀ (sel : ArcSel) (bad : List Nat) (n : Nat) (y : State), u.arc.job = some (true, sel) →
      n = (u.arc.written.filter (fun (a : ArcBlk) => selArc sel a && bad.contains a.index)).length →
      y = { u with arc := { u.arc with jobSkipped := min 0xFFFF n } } →
      exec (.jobComplete t (.complete bad)) s =
        .next ((if 0xFFFF ≤ n then y.raise 0x10 (satFields (pid 0x04 0 0x032) 16) else y).exportDone sel bad)) ∧
    (∀ (h : Hdr) (sel : ArcSel), u.serves → u.waits h = false → u.arc.job = none → u.anyReady = true →
      exec (.arcExport t h sel) s = .next (({ u with
          arc := { u.arc with job := some (true, sel), jobSt := 1, jobStatus := 0, jobSkipped := 0 } }).accept h
            0x0801 .job)) ∧
    (∀ (h : Hdr) (sel : ArcSel), u.serves → u.waits h = false → u.arc.job = none → u.anyReady = true →
      exec (.arcCompress t h sel) s = .next (({ u with
          arc := { u.arc with job := some (false, sel), jobSt := 1, jobStatus := 0, jobSkipped := 0 } }).accept h
            0x0802 .job)) ∧
    (∀ (h : Hdr) (off len : Nat), u.serves → u.waits h = false → 1 ≤ len → len ≤ 4072 →
      off + len ≤ u.arc.exported.length →
      exec (.arcRead t h off len) s = .next (u.finish h 0x0803 stOk 0 (slice u.arc.exported off len))) ∧
    (∀ (h : Hdr), u.serves → u.waits h = false → u.arc.job.isSome = true →
      exec (.jobCancel t h) s = .next ((u.jobEnd 3 stRetry 1 []).finish h 0x0804 stOk))

/-- Bringing a lane up and keeping it. Each clause gives the conditions under which one command of the table has its own
effect, and the next state that exec then answers: what the clause does not change in u is unchanged. The commands:
LANE_SWITCH_CLOSE, PLL_LOCK, PLL_LOCK_TIMEOUT, PLL_LOSS, FAILED_RETRY, HELLO_SEND, HELLO_RECEIVE, PARTNER_GONE,
COUNTDOWN_SWITCH, ADAPT_LOCK, ADAPT_FAILURE, TRAINING_FRAME_RECEIVE, DATA_START, MARKER_RECEIVE, LOCK_LOSS,
LOCK_REGAIN_TIMEOUT, ETH_LINK_UP. -/
def Obligations.LaneBringUpCommandsComplete : Prop :=
  ∀ (t : Nat) (s u : State), u = s.tick t →
    (∀ (lane : Nat), lane < 6 → u.lanePowered lane = true → (u.lane lane).st = .down →
      exec (.laneSwitchClose t lane) s = .next (u.modLane lane (fun l => { l with pllAt := some u.now }))) ∧
    (∀ (lane : Nat), lane < 6 → u.lanePowered lane = true → (u.lane lane).st = .down →
      (u.lane lane).pllAt.isSome = true → exec (.pllLock t lane) s = .next (u.laneIdle lane)) ∧
    (∀ (lane : Nat) (a : Nat), lane < 6 → u.lanePowered lane = true → (u.lane lane).st = .down →
      (u.lane lane).pllAt = some a → a + 1000000 ≤ u.now → exec (.pllLockTimeout t lane) s = .next (u.laneFail lane)) ∧
    (∀ (lane : Nat), lane < 6 → (u.lane lane).st ≠ .down → (u.lane lane).st ≠ .failed →
      exec (.pllLoss t lane) s = .next ((u.chkFold lane).laneFail lane)) ∧
    (∀ (lane : Nat), lane < 6 → (u.lane lane).st = .failed → u.elapsed (u.lane lane).pllAt 100000000 = true →
      exec (.failedRetry t lane true) s = .next (u.laneIdle lane)) ∧
    (∀ (lane : Nat), lane < 6 → (u.lane lane).st = .failed → u.elapsed (u.lane lane).pllAt 100000000 = true →
      exec (.failedRetry t lane false) s = .next (u.modLane lane (fun l => { l with pllAt := some u.now }))) ∧
    (∀ (port : Nat), port < 6 → u.helloDue port = true → exec (.helloSend t port) s = .next (u.sendHello port)) ∧
    (∀ (port : Nat) (m : Hello) (y : State), port < 6 → u.borku port = true → (u.lane port).st = .up →
      y = (u.takePartner port m).modLane port (fun l => { l with seenPartner := true, signal := true }) →
      (y.lane port).st ≠ .seek → exec (.helloReceive t port m) s = .next ((y.takeRefuse port m).refreshLead)) ∧
    (∀ (port : Nat), port < 6 → (u.link port).lastHello + 30000000 ≤ u.now →
      exec (.partnerGone t port) s = .next (u.loseLink port)) ∧
    (∀ (port : Nat) (a : Nat), port < 6 → (u.lane port).st = .change → (u.lane port).switchAt = some a → a ≤ u.now →
      exec (.countdownSwitch t port) s = .next (u.setLane port (fun l => { l with
          st := .adapt
          gen := l.target
          countdown := none
          switchAt := some u.now
          ffe := BitVec.ofNat 32 (u.cfgN 0x03 port 1)
          trainReq := 0
          trainStat := 0
          rxReady := false
          readyFrames := 0
          dataOn := false
          markers := 0
          missed := 0
          lock := false
          lastTrain := u.now
          signal := false }))) ∧
    (∀ (port : Nat), port < 6 → (u.lane port).st = .adapt → (u.lane port).gen = 2 →
      exec (.adaptLock t port) s = .next (u.laneUp port)) ∧
    (∀ (port : Nat), port < 6 → u.adaptFailed port = true →
      exec (.adaptFailure t port) s = .next (u.setLane port (fun l => { laneSeek l with
          excl := l.excl ||| BitVec.ofNat 3 (2 ^ (l.gen - 1)) }))) ∧
    (∀ (port : Nat) (control status : BitVec 16) (eyeOk : Bool), port < 6 → (u.lane port).st = .adapt →
      (u.lane port).gen = 3 → (u.lane port).dataOn = false →
      exec (.trainingFrameReceive t port control status eyeOk) s =
        .next (u.trainFrame port control.toNat status.toNat eyeOk)) ∧
    (∀ (port : Nat), port < 6 → (u.lane port).st = .adapt → (u.lane port).gen = 3 → (u.lane port).dataOn = false →
      64 ≤ (u.lane port).readyFrames →
      exec (.dataStart t port) s = .next (u.modLane port (fun l => { l with
          dataOn := true, markers := 0, missed := 0, lock := false }))) ∧
    (∀ (port : Nat), port < 6 → (u.lane port).gen = 3 → (u.lane port).st = .up →
      exec (.markerReceive t port true) s = .next (u.modLane port (fun l => { l with
          markers := l.markers + 1
          missed := 0
          lock := l.lock || decide (2 ≤ l.markers + 1)
          lostAt := if 2 ≤ l.markers + 1 then none else l.lostAt }))) ∧
    (∀ (port : Nat), port < 6 → (u.lane port).st = .up → exec (.lockLoss t port) s = .next (u.loseLock port)) ∧
    (∀ (port : Nat) (a : Nat), port < 6 → (u.lane port).st = .up → (u.lane port).lostAt = some a →
      a + 1000000 ≤ u.now → u.ethMode port = false → exec (.lockRegainTimeout t port) s = .next (u.laneLost port)) ∧
    (∀ (port : Nat) (fullDuplex : Bool), port < 6 → (u.lane port).st = .seek → u.ethMode port = true →
      u.cfgF 0x03 port 0 1 2 ≠ 1 →
      exec (.ethLinkUp t port fullDuplex) s = .next ((u.laneUp port).modLane port (fun l => { l with
          anDone := false, gen := 2 })))

/-- Lane tests, error counts and credits. Each clause gives the conditions under which one command of the table has its
own effect, and the next state that exec then answers: what the clause does not change in u is unchanged. The
commands: LANE_TEST, ERR_INJ_SINGLE, LANE_CTL_RETRAIN, LANE_CTL_CLEAR, CHECKER_LOCK, CHECKER_LOCK_LOSS,
CHECKER_COUNT_SATURATE, FEC_LIMIT_CHECK, CREDIT_RECEIVE, CREDIT_SEND. -/
def Obligations.LaneTestAndCreditCommandsComplete : Prop :=
  ∀ (t : Nat) (s u : State), u = s.tick t →
    (∀ (h : Hdr) (port : Nat) (val : Word), u.serves → u.waits h = false →
      u.itemStatus (pid 0x03 port 3) val.toNat = stOk → u.laneTestStatus port val.toNat = stOk →
      exec (.laneTest t h port val) s = .next ((u.doLaneTest port val.toNat).finish h opWriteParam stOk)) ∧
    (∀ (h : Hdr) (port : Nat), u.serves → u.waits h = false →
      u.itemStatus (pid 0x03 port 6) (u.cfgN 0x03 port 6 ||| 1) = stOk → u.genEn port = true →
      exec (.errInjSingle t h port) s = .next ((u.injectBit port).finish h opWriteParam stOk)) ∧
    (∀ (h : Hdr) (port : Nat), u.serves → u.waits h = false → u.itemStatus (pid 0x03 port 8) 1 = stOk →
      exec (.laneCtlRetrain t h port) s =
        .next (((u.modLane port (fun l => { l with excl := 0 })).laneRestart port).finish h opWriteParam stOk)) ∧
    (∀ (h : Hdr) (port : Nat), u.serves → u.waits h = false → u.itemStatus (pid 0x03 port 8) 2 = stOk →
      exec (.laneCtlClear t h port) s = .next ((u.doLaneClear port).finish h opWriteParam stOk)) ∧
    (∀ (port : Nat), port < 6 → (u.lane port).st = .test → u.cfgB 0x03 port 3 13 = true →
      (u.lane port).chkLock = false →
      exec (.checkerLock t port) s = .next (u.modLane port (fun l => { l with chkLock := true, chkSince := u.now }))) ∧
    (∀ (port : Nat), port < 6 → (u.lane port).chkLock = true →
      exec (.checkerLockLoss t port) s = .next ((u.chkFold port).bump (pid 0x03 port 0x01C) 16 16)) ∧
    (∀ (port : Nat), port < 6 → (u.lane port).chkLock = true → (u.lane port).bits ≠ chkMax →
      exec (.checkerCountSaturate t port false) s = .next (u.chkPut port (u.lane port).bits chkMax)) ∧
    (∀ (port corr unc sym : Nat) (y z : State), port < 6 → (u.lane port).gen = 3 →
      u.elapsed (u.lane port).fecAt 1000000000 = true →
      y = ((u.bumpBy (pid 0x03 port 0x014) 0 31 corr).bumpBy (pid 0x03 port 0x015) 0 31 unc).bumpBy
        (pid 0x03 port 0x016) 0 31 sym →
      z = y.modLane port (fun l => { l with
          fecOver := if y.cfgF 0x03 port 7 0 16 < unc then l.fecOver + 1 else 0, fecAt := some u.now }) →
      (z.lane port).fecOver ≠ 3 → exec (.fecLimitCheck t port corr unc sym) s = .next (z)) ∧
    (∀ (port c2 c3 : Nat), port < 6 → u.up port = true → u.borku port = true →
      exec (.creditReceive t port c2 c3) s = .next (u.modLink port (fun k => { k with
          pGrant2 := c2 % 2 ^ 16, pGrant3 := c3 % 2 ^ 16 }))) ∧
    (∀ (port : Nat), port < 6 → u.up port = true → u.borku port = true →
      4 ≤ (u.link port).wait2 + (u.link port).wait3 →
      exec (.creditSend t port) s =
        .next ((u.sendLocal port 2 (be 2 (u.link port).grant2 ++ be 2 (u.link port).grant3 ++ zeros 4)).modLink port
          (fun k => { k with wait2 := 0, wait3 := 0 })))

/-- Frames, the topology database and the routes. Each clause gives the conditions under which one command of the table
has its own effect, and the next state that exec then answers: what the clause does not change in u is unchanged. The
commands: PORT_FRAME_SEND, BLOCK_SENT, WCP_FRAME_RECEIVE, STREAM_FRAME_RECEIVE, ETH_FRAME_RECEIVE, LSA_RECEIVE,
LSA_REFRESH, LSA_UNREACHABLE_HOLD, ID_HOLD_EXPIRY, ROUTE_RECOMPUTE, QUEUED_FRAME_EXPIRY, PROXY_EXPIRY, STREAM_ATTACH,
TOPOLOGY_READ, ID_RELEASE, ID_CLAIM_WAIT_END. -/
def Obligations.FrameAndRoutingCommandsComplete : Prop :=
  ∀ (t : Nat) (s u : State), u = s.tick t →
    (∀ (port : Nat) (ecc : List Ecc) (y : State) (x : Ready), port < 6 → u.carries port = true →
      tfind u.hold.sending port = none → y = u.admitWaiting → y.pickFrame port = some x →
      exec (.portFrameSend t port ecc) s = .next (y.sendOne port ecc x)) ∧
    (∀ (port : Nat) (order r : Nat), port < 6 → tfind u.hold.sending port = some (order, r) →
      exec (.blockSent t port) s =
        .next (({ u with hold := { u.hold with sending := tdel u.hold.sending port } }.blockGone order r).bump
          (pid 0x03 port 0x115) 0 31)) ∧
    (∀ (port : Nat) (f : Frame), port < 6 → u.carries port = true → u.frameOk port f [0x05, 0x10] = true →
      f.typ = 0x10 → u.collectorUp port = false → f.bcast = false → u.net.id = some f.dest →
      exec (.wcpFrameReceive t port f) s = .next (u.deliverWcp port f.payload)) ∧
    (∀ (port : Nat) (f : Frame), port < 6 → u.carries port = true → u.frameOk port f [0x20, 0x21] = true →
      u.net.id ≠ some f.dest → exec (.streamFrameReceive t port f) s = .next (u.forward port f)) ∧
    (∀ (port etherType : Nat) (f : Frame), port < 6 → u.carries port = true → u.ethMode port = true →
      etherType ≠ 0x88F7 → etherType = u.cfgF 0x03 port 0x101 0 16 → f.typ = 0x10 →
      exec (.ethFrameReceive t port etherType f) s = .next (u.takeWcp port f)) ∧
    (∀ (port : Nat) (m : Lsa) (y : State), port < 6 → u.carries port = true → u.borku port = true →
      m.eui ≠ u.ident.eui → u.lsaNewer m = true → y = (u.storeLsa m).flood port (u.lsaFrame m) →
      exec (.lsaReceive t port m) s = .next (((y.lsaId m).refuseRefresh).routeRefresh)) ∧
    (u.pd 13 = true → u.net.lsaAt + 1000000000 ≤ u.now → exec (.lsaRefresh t) s = .next (u.floodOwn)) ∧
    (∀ (eui : Nat) (e : DbEntry), u.dbEntry eui = some e → e.held = false → tfind u.net.routes e.lsa.id = none →
      e.seenAt + 4000000000 ≤ u.now →
      exec (.lsaUnreachableHold t eui) s = .next (({ u with
          net := { u.net with db := tput u.net.db eui { e with held := true, t := u.now } } }.netDirty).routeRefresh)) ∧
    (∀ (eui : Nat) (e : DbEntry), u.dbEntry eui = some e → e.held = true →
      e.t + u.cfgF 0x01 0 0x400 16 8 * 3600000000000 ≤ u.now → exec (.idHoldExpiry t eui) s = .next (u.dropEntry eui)) ∧
    (u.net.dirty = true → exec (.routeRecompute t) s = .next (u.recomputeRoutes)) ∧
    (∀ (dest : Nat) (a : Nat), tfind u.net.mask0Since dest = some a → tfind u.net.routes dest = none →
      some dest ≠ u.net.id → a + 1000000000 ≤ u.now →
      exec (.queuedFrameExpiry t dest) s = .next (u.expireFrames dest)) ∧
    (∀ (tag : Nat) (x : Proxy) (a : Nat), tfind u.net.proxies tag = some x → x.lastReply = some a →
      x.accepted = false → a + 10000000000 ≤ u.now →
      exec (.proxyExpiry t tag) s = .next ({ u with net := { u.net with proxies := tdel u.net.proxies tag } })) ∧
    (∀ (h : Hdr) (detach : Bool), u.serves → u.waits h = false → u.attachStatus h = stOk →
      exec (.streamAttach t h detach) s = .next ((u.doAttachRoute h detach).finish h 0x0900 stOk)) ∧
    (∀ (h : Hdr) (id : Nat) (m : Lsa) (a : Nat), u.serves → u.waits h = false → u.lsaHeld id = some (m, a) →
      exec (.topologyRead t h id) s = .next (u.finish h 0x0901 stOk 0 (lsaBytes m ++ be 4 ((u.now - a) / 1000000)))) ∧
    (∀ (h : Hdr) (id : Nat), u.serves → u.waits h = false → tfind u.net.routes id = none → u.net.id ≠ some id →
      exec (.idRelease t h id) s =
        .next ((forAll ((u.net.db.filter (fun (x : Nat × DbEntry) => x.2.held && x.2.lsa.id == id)).map Prod.fst)
          State.dropEntry u).finish h 0x0902 stOk)) ∧
    (u.net.idState = 1 → u.net.claimAt + 200000000 ≤ u.now → u.net.lostClaim = false →
      u.idTaken u.net.candidate = false → u.takeId.boot.waitId = none → exec (.idClaimWaitEnd t) s = .next (u.takeId))

/-- The fault collector. Each clause gives the conditions under which one command of the table has its own effect, and the
next state that exec then answers: what the clause does not change in u is unchanged. The commands: FAULT_PAIR_ACTIVE,
FAULT_PAIR_INACTIVE, WIRE_FAULT, ALIVE_TOGGLE, WATCHDOG_MISS, FAULT_N_RELEASE, LOCKET_COPY, LOCKET_READ, FAULT_CLEAR,
UNFENCE, UNFENCE_COMPLETE, FENCE_UNIT. That event 0x41 shows the release when UNFENCE is accepted is the model's
reading (log entry 98). -/
def Obligations.FaultCommandsComplete : Prop :=
  ∀ (t : Nat) (s u : State), u = s.tick t →
    (∀ (src : Nat) (detail : Word), src < 128 → src < 92 → u.pairIgnored src = false →
      ((u.wireMends src).fsrc src).active = false →
      exec (.faultPairActive t src detail) s = .next ((u.wireMends src).takeOcc src detail)) ∧
    (∀ (src : Nat), src < 128 → src < 115 → src ≠ 99 → u.pairIgnored src = false →
      ((u.wireMends src).fsrc src).active = true →
      exec (.faultPairInactive t src) s = .next ((u.wireMends src).pairInactive src)) ∧
    (∀ (pair : Nat), pair < 128 → pair < 92 → u.pairIgnored pair = false → pair ∉ u.faults.wires →
      exec (.wireFault t pair) s =
        .next (({ u with faults := { u.faults with wires := pair :: u.faults.wires } }).takeOcc 115
          (BitVec.ofNat 32 pair))) ∧
    (∀ (y : State), u.elapsed u.faults.aliveAt 1000000 = true →
      y = { u with faults := { u.faults with aliveAt := some u.now } } → y.aliveHolds = true →
      y.faults.aliveCause = none →
      exec (.aliveToggle t) s = .next ({ y with
          faults := { y.faults with alive := true, aliveLevel := !y.faults.aliveLevel, aliveCause := none } })) ∧
    (u.faults.served = true → u.faults.window = none →
      exec (.watchdogMiss t) s = .next ({ u with faults := { u.faults with served := false } }.report 99 1)) ∧
    (u.faults.clearAsked = true → u.faults.tested = true → u.outSevere = [] → u.faults.lastLatch + 10000000 ≤ u.now →
      exec (.faultNRelease t) s = .next ({ u with faults := { u.faults with faultN := true, clearAsked := false } })) ∧
    (u.coreUp = true → u.faults.locket.valid = true → u.faults.copied = false →
      exec (.locketCopy t) s =
        .next ({ u with faults := { u.faults with stored := u.faults.locket, copied := true } })) ∧
    (∀ (h : Hdr), u.serves → u.waits h = false → u.faults.locket.valid = true →
      exec (.locketRead t h false) s = .next (u.finish h 0x0A00 stOk 0 (locketBytes u.faults.locket))) ∧
    (∀ (h : Hdr) (mask : BitVec 128) (locket faultN : Bool) (y : State), u.serves → u.waits h = false →
      y = u.faultClear (maskSrcs mask) locket faultN →
      exec (.faultClear t h mask locket faultN) s = .next (y.finish h 0x0A01 stOk (y.leftLatched (maskSrcs mask)))) ∧
    (∀ (h : Hdr) (kind num : Nat) (y : State), u.serves → u.waits h = false → num < unitKinds kind →
      u.unitFenced kind num = true → u.causeActive (u.causes kind num) = false → u.heldUnit kind num = false →
      u.core.st ≠ .resync →
      y = (if (u.causes kind num).all Cause.returning then u else u.raise 0x41 [(kind, 3), (num, 6), (0, 1),
        (lowestCause (u.causes kind num), 7)]) →
      exec (.unfence t h kind num) s =
        .next ((y.setCauses kind num (.reload :: (u.causes kind num).filter (fun c => c == .calibrate))).accept h
          0x0A02 (.unfence kind num))) ∧
    (∀ (kind num : Nat) (y : State), u.coreUp = true → (u.causes kind num).contains .reload = true →
      y = u.setCauses kind num ((u.causes kind num).filter (fun c => c != .reload)) → y.unitFenced kind num = false →
      exec (.unfenceComplete t kind num) s = .next ((y.unitRuns kind num).unfenceReplies kind num)) ∧
    (∀ (h : Hdr) (kind num : Nat), u.serves → u.waits h = false → num < unitKinds kind →
      u.alarmUnit kind num = false →
      exec (.fenceUnit t h kind num) s = .next ((u.fenceUnit kind num).finish h 0x0A03 stOk))

/-- The voted core and the hub pair. Each clause gives the conditions under which one command of the table has its own
effect, and the next state that exec then answers: what the clause does not change in u is unchanged. The commands:
CLASP_MINORITY, CORE_RESYNC_COMPLETE, CLASP_DOUBLE_DISAGREEMENT, SCRUB, HEARTBEAT_SEND, HEARTBEAT_RECEIVE,
PARTNER_LOSS, PAIR_CTL_YIELD, YIELD_TIMEOUT, YIELD_RETRY. -/
def Obligations.CoreAndPairCommandsComplete : Prop :=
  ∀ (t : Nat) (s u : State), u = s.tick t →
    (∀ (core : Nat), core < 3 → u.coreRuns = true → u.core.duplex = false →
      exec (.claspMinority t core) s =
        .next ((((u.report 97 (BitVec.ofNat 32 core)).bump coreStatId 16 16)).modCore (fun c => { c with
            st := .resync, minority := core }))) ∧
    (u.core.st = .resync →
      exec (.coreResyncComplete t true) s = .next ({ u with core := { u.core with st := .running } })) ∧
    (u.pd 1 = true → (u.core.st = .running ∨ u.core.st = .resync) →
      exec (.claspDoubleDisagreement t) s = .next (u.coreHalt)) ∧
    (u.coreRuns = true → u.core.scrubAt + 1000000000 ≤ u.now →
      exec (.scrub t none) s = .next ({ u with core := { u.core with scrubAt := u.now } })) ∧
    (∀ (r : Nat × Nat) (q : Nat) (y : State), u.net.id.isSome = true → u.partner ≠ 1023 → u.wholeMs = true →
      q = (u.pair.txSeq + 1) % 2 ^ 16 → y = { u with pair := { u.pair with txSeq := q } } →
      tfind y.net.routes u.partner = some r →
      exec (.heartbeatSend t) s =
        .next (y.enqueue r.1 6 ⟨5, 7, false, u.partner, y.hubId, 0, 0, u.heartbeatBytes q, true⟩)) ∧
    (∀ (port : Nat) (m : Heartbeat), port < 6 → u.carries port = true → u.hbAccepts m = true →
      exec (.heartbeatReceive t port m) s = .next (u.hbTake m)) ∧
    (u.partner ≠ 1023 → u.net.id.isSome = true → u.pair.st ≠ 2 → u.pair.lastRx + 3000000 ≤ u.now →
      exec (.partnerLoss t) s =
        .next ((({ u with pair := { u.pair with st := 2, run := 0 } }.report 114 (BitVec.ofNat 32 u.partner)).bump
          (pid 0x01 0 0x513) 16 16).routeRefresh)) ∧
    (∀ (h : Hdr), u.serves → u.waits h = false → u.itemStatus pairCtlId 1 = stOk → u.timePair = true →
      u.time.isLead = true → exec (.pairCtlYield t h) s = .next ((u.yieldLead).finish h opWriteParam stOk)) ∧
    (u.pair.yielding = true → u.pair.yieldAt + 3000000 ≤ u.now → u.yieldCause = false →
      exec (.yieldTimeout t) s =
        .next ({ u with pair := { u.pair with yielding := false, retryAt := none } }.evTime 2)) ∧
    (∀ (r : Nat) (y : State), u.pair.retryAt = some r → r ≤ u.now →
      y = { u with pair := { u.pair with retryAt := none } } → y.yieldCause = false →
      exec (.yieldRetry t) s = .next (y)) ∧
    (∀ (r : Nat), u.pair.retryAt = some r → r ≤ u.now → u.yieldCause = true → u.timePair = true →
      u.time.isLead = true → u.pair.yielding = false →
      exec (.yieldRetry t) s = .next ({ u with
          pair := { u.pair with yielding := true, yieldAt := u.now, retryAt := none } }))

/-- The structural alarm function. Each clause gives the conditions under which one command of the table has its own
effect, and the next state that exec then answers: what the clause does not change in u is unchanged. The commands:
PAIR_MEMBER_VALUE, PAIR_DISCREPANCY, SI_CHANGE, SI_FILTER_EXPIRY, SI_DISCREPANCY, NSL_CYCLE, CONFIRM_SIGNET,
SAFETY_RESET, NSL_OPEN, NSL_TIMEOUT, SO_READBACK, RB_T_EXPIRY, TP_WIDTH_END. That a discrepancy source stays active
until the inputs agree is the model's reading (log entry 114). -/
def Obligations.SafetyCommandsComplete : Prop :=
  ∀ (t : Nat) (s u : State), u = s.tick t →
    (∀ (pair : Nat) (v : Option CoarseVal), pair < 32 → u.running = true → u.pairEn pair = true →
      exec (.pairMemberValue t pair false v) s = .next (u.pairUpdate pair (fun x => { x with
          a := u.memberStep pair v x.a }))) ∧
    (∀ (pair : Nat) (d : Nat), pair < 32 → (u.apair pair).differSince = some d → u.pairEn pair = true →
      d + u.cfgF 0x06 0 (0x104 + 8 * pair) 16 10 * 1000000 < u.now →
      exec (.pairDiscrepancy t pair) s = .next (u.pairUpdate pair (fun x => { x with disc := true }))) ∧
    (∀ (si : Nat) (a b : Bool) (y : State), si < 4 →
      y = (if (u.si si).disc && a == b then u.pairEnds (102 + si) else u) →
      exec (.siChange t si a b) s = .next (y.modSi si (fun c => { c with
          a := a
          b := b
          sinceA := if c.a = a then c.sinceA else u.now
          sinceB := if c.b = b then c.sinceB else u.now
          disc := c.disc && a != b }))) ∧
    (∀ (si : Nat), si < 4 → exec (.siFilterExpiry t si) s = .next (u.siFilter si)) ∧
    (∀ (si : Nat), si < 4 → u.siEn si = true → (u.si si).a ≠ (u.si si).b → (u.si si).disc = false →
      max (u.si si).sinceA (u.si si).sinceB + fld (u.siCfg si) 0 10 * 1000000 < u.now → si ≠ 1 →
      exec (.siDiscrepancy t si) s =
        .next (((u.modSi si (fun c => { c with disc := true })).bump (pid 0x06 0 (0x028 + si)) 16 16).report
          (102 + si) (BitVec.ofNat 32 (b2n (u.si si).a ||| b2n (u.si si).b <<< 1)))) ∧
    (∀ (h : Hdr) (bytes : List Byte) (c st : Nat) (y z : State) (f : List Byte), y = u.endCmd h 0x0B00 →
      y.nslFind (fbe bytes 4 4) = some c → y.nslOk 0x0B00 h c bytes = true → y.nslTake 0x0B00 c bytes = (z, st, f) →
      exec (.nslCycle t h bytes) s = .next (z.answer h 0x0B00 st 0 f true)) ∧
    (∀ (h : Hdr) (bytes : List Byte) (c : Nat) (y z : State) (f : List Byte), y = u.endCmd h 0x0B01 →
      y.nslFind (fbe bytes 4 4) = some c → y.nslOk 0x0B01 h c bytes = true → y.nslTake 0x0B01 c bytes = (z, stOk, f) →
      exec (.confirmSignet t h bytes) s = .next (z.answer h 0x0B01 stOk 0 f true)) ∧
    (∀ (h : Hdr) (bytes : List Byte) (c : Nat) (y z : State) (f : List Byte), y = u.endCmd h 0x0B02 →
      y.nslFind (fbe bytes 4 4) = some c → y.nslOk 0x0B02 h c bytes = true → y.nslTake 0x0B02 c bytes = (z, stOk, f) →
      exec (.safetyReset t h bytes) s = .next (z.answer h 0x0B02 stOk 0 f true)) ∧
    (∀ (h : Hdr) (bytes : List Byte) (c st : Nat) (y z : State) (f : List Byte), y = u.endCmd h 0x0B03 →
      y.nslFind (fbe bytes 4 4) = some c → y.nslOk 0x0B03 h c bytes = true → y.nslTake 0x0B03 c bytes = (z, st, f) →
      exec (.nslOpen t h bytes) s = .next (z.answer h 0x0B03 st 0 f true)) ∧
    (∀ (conn : Nat), conn < 16 → bit (u.nslCfg conn) 16 = true → (u.nsl conn).st = 1 →
      (u.nsl conn).last + u.nslWd conn * 1000000 ≤ u.now →
      exec (.nslTimeout t conn) s =
        .next ((((u.modNsl conn (fun k => { k with st := 2 })).evNsl conn 3 0).report 106
          (BitVec.ofNat 32 conn)).safetyRefresh)) ∧
    (∀ (so : Nat) (lrb : Bool) (y : State), so < 2 → (u.so so).st = .starting → (u.so so).hs = true →
      y = u.modSo so (fun o => { o with hrb := true, lrb := lrb }) →
      exec (.soReadback t so true lrb) s = .next (y.soOn so)) ∧
    (∀ (so : Nat), so < 2 → (u.so so).st = .starting → (u.so so).hs = true → (u.so so).since + u.rbT ≤ u.now →
      exec (.rbTExpiry t so) s = .next (u.soFault so 0 2)) ∧
    (∀ (so : Nat), so < 2 → (u.so so).st = .testing → (u.so so).tpEnded = false →
      (u.so so).since + u.cfgF 0x06 0 0 16 7 * 10000 ≤ u.now → (u.so so).sawLow = true →
      exec (.tpWidthEnd t so) s = .next ((u.soDrive so true true).modSo so (fun o => { o with
          tpEnded := true, since := u.now })))

/-- Scheduled actions. Each clause gives the conditions under which one command of the table has its own effect, and the
next state that exec then answers: what the clause does not change in u is unchanged. The commands: SCHEDULE, CANCEL,
ACT_ACCEPT, ACT_CANCEL, ACTION_ARM_CHECK, ACTION_FIRE, HELD_ACTION_DROP. -/
def Obligations.ActionCommandsComplete : Prop :=
  ∀ (t : Nat) (s u : State), u = s.tick t →
    (∀ (h : Hdr) (typ : Word) (target : Nat) (args : List Word) (n : Nat) (y : State), u.serves → u.waits h = false →
      typ &&& 0x7F = typ → u.freeAct = some n →
      y = u.modAct n (fun a => { a with
          typ := typ
          target := wrap 64 target
          args := [args.getD 0 0, args.getD 1 0, args.getD 2 0, args.getD 3 0]
          st := .free }) →
      (y.acceptStatus n).1 = stOk →
      exec (.schedule t h typ target args) s =
        .next ((y.takeAct n).finish h 0x0500 stOk 0
          (be 1 n ++ be 1 (if ((y.takeAct n).act n).st = .armed then 2 else 1) ++ zeros 2))) ∧
    (∀ (h : Hdr) (entry : Nat), u.serves → u.waits h = false → entry < 64 → u.cancelStatus entry = stOk →
      exec (.cancel t h entry) s = .next ((u.cancelAct entry).finish h 0x0501 stOk)) ∧
    (∀ (h : Hdr) (entry : Nat), u.serves → u.waits h = false → entry < 64 → (u.ctlStatus entry).1 = stOk →
      exec (.actAccept t h entry) s = .next ((u.takeAct entry).finish h opWriteParam stOk)) ∧
    (∀ (h : Hdr) (entry : Nat), u.serves → u.waits h = false → u.itemStatus (actCtlId entry) 2 = stOk →
      u.cancelStatus entry = stOk →
      exec (.actCancel t h entry) s = .next ((u.cancelAct entry).finish h opWriteParam stOk)) ∧
    (u.coreUp = true → exec (.actionArmCheck t) s = .next ((u.armHeld.soPlan 0).soPlan 1)) ∧
    (∀ (entry : Nat), entry < 64 → u.actDue entry = true →
      exec (.actionFire t entry) s =
        .next (forAll (List.range 64) (fun x n => if x.actDue n then x.fireAct n else x) u)) ∧
    (∀ (entry : Nat), entry < 64 → u.core.st = .outOfService → (u.act entry).st = .held →
      (u.act entry).target ≤ u.counterOf (u.act entry) → exec (.heldActionDrop t entry) s = .next (u.dropAct entry 8))

/-- Power, reset and restarts. Each clause gives the conditions under which one command of the table has its own effect,
and the next state that exec then answers: what the clause does not change in u is unchanged. The commands: POWER_UP,
RESET_N_ASSERT, RESET_N_RELEASE, RESET_N_TIMEOUT, RESET_N_STUCK_CLEAR, FIRMWARE_START, DOMAIN_GOOD, RAIL_WAIT_EXPIRY,
RAIL_TRIP, RAIL_GOOD, RESTART_SERVED, RESTART_WINDOW_EXPIRY, CODE_SWAP. -/
def Obligations.PowerAndResetCommandsComplete : Prop :=
  ∀ (t : Nat) (s u : State), u = s.tick t →
    (∀ (b : BootIn), u.boot.phase = .off → u.railsGood 0 = true → u.railsGood 1 = true →
      exec (.powerUp t b) s = .next ((u.modTime (fun m => { m with refsel := b.refsel })).romStart 0 b)) ∧
    (u.boot.phase ≠ .off → u.boot.phase ≠ .reset → u.boot.stuck = false →
      exec (.resetNAssert t) s = .next (u.fullReset)) ∧
    (∀ (b : BootIn), u.boot.phase = .reset → u.railsGood 1 = true →
      exec (.resetNRelease t b) s = .next (u.romStart 1 b)) ∧
    (∀ (b : BootIn), u.boot.phase = .reset → u.railsGood 1 = true → u.boot.resetLow.getD 0 + 5000000000 ≤ u.now →
      exec (.resetNTimeout t b) s =
        .next (((u.romStart 1 b).report 112 0).modBoot (fun x => { x with stuck := true }))) ∧
    (∀ (y : State), u.boot.stuck = true → y = u.modBoot (fun x => { x with stuck := false }) →
      (y.fsrc 112).active = true → exec (.resetNStuckClear t) s = .next ((y.pairInactive 112).evResetPin false)) ∧
    (u.boot.phase = .rom → u.pd 1 = true → exec (.firmwareStart t) s = .next (u.firmwareStart)) ∧
    (∀ (pd : Nat) (badPairs : List Nat), pd < 16 → bit u.pdOn.toNat pd = true → bit u.pdGood.toNat pd = false →
      u.boot.phase ≠ .testHold → u.boot.toPower.head? ≠ some pd → pd ≠ 12 →
      exec (.domainGood t pd badPairs) s = .next (u.domainReturn pd badPairs)) ∧
    (∀ (pd : Nat), pd < 16 → u.boot.toPower.head? = some pd → u.railsGood pd = false →
      u.elapsed u.boot.railWait 1000000000 = true →
      exec (.railWaitExpiry t pd) s = .next (((u.modBoot (fun b => { b with
          toPower := b.toPower.tail, missing := b.missing ++ [pd], railWait := none })).report (58 + pd) 1).powerOn)) ∧
    (∀ (rail : Rail), railExists rail = true → u.railGood rail = true → rail ≠ .vddaon → rail ≠ .vioaon →
      exec (.railTrip t rail true) s =
        .next ((forAll (railFeeds rail) (fun s n => s.tripDomain 2 n) (u.loseRail rail)).safetyRefresh)) ∧
    (∀ (rail : Rail), railExists rail = true → u.railGood rail = false → u.boot.toPower = [] → u.boot.phase ≠ .off →
      (forAll (railFeeds rail) State.railBack
        (u.modBoot (fun b => { b with rails := b.rails ++ [rail] }))).boot.toPower = [] →
      exec (.railGood t rail) s = .next (forAll (railFeeds rail) State.railBack (u.modBoot (fun b => { b with
          rails := b.rails ++ [rail] })))) ∧
    (∀ (unitsSwapped : Nat) (r : Restart), u.core.st = .restarting → u.pd 1 = true → u.boot.restart = some r →
      exec (.restartServed t unitsSwapped) s = .next (u.restartServed r unitsSwapped)) ∧
    (∀ (r : Restart) (w : Nat), u.core.st = .restarting → u.boot.restart = some r → u.faults.window = some w →
      w ≤ u.now → exec (.restartWindowExpiry t) s = .next (u.windowMissed r)) ∧
    (∀ (kind num : Nat), num < swapUnits kind → u.coreUp = true → u.boot.phase ≠ .firmware →
      exec (.codeSwap t kind num false) s = .next (u.raise 0x74 [(kind, 2), (num, 6)])) ∧
    (∀ (kind num : Nat), num < swapUnits kind → exec (.codeSwap t kind num true) s = .next (u))

/-- Firmware update. Each clause gives the conditions under which one command of the table has its own effect, and the
next state that exec then answers: what the clause does not change in u is unchanged. The commands: UPD_STATUS,
UPD_OPEN, SLOT_ERASE_COMPLETE, UPD_WRITE, UPD_VERIFY, UPD_VERIFY_COMPLETE, UPD_CONFIRM, UPD_BOOT. -/
def Obligations.FirmwareUpdateCommandsComplete : Prop :=
  ∀ (t : Nat) (s u : State), u = s.tick t →
    (∀ (h : Hdr), u.serves → u.waits h = false →
      exec (.updStatus t h) s = .next (u.finish h 0x0C00 stOk 0 u.updStatus)) ∧
    (∀ (h : Hdr) (slot len : Nat), u.serves → u.waits h = false → u.updOpenStatus h slot len = stOk →
      exec (.updOpen t h slot len) s =
        .next (((u.modFw slot (fun w => { st := w.st, len := len, owner := some (ownerOf h) })).setSlot slot
          .empty).accept h 0x0C01 (.erase slot))) ∧
    (∀ (n : Nat), u.coreUp = true → u.erasing = some n →
      exec (.slotEraseComplete t) s = .next ((u.setSlot n .opened).finalReply (.erase n) stOk)) ∧
    (∀ (h : Hdr) (off : Nat) (bytes : List Byte) (n : Nat) (y : State), u.serves → u.waits h = false →
      u.openSlot h = some n → off % 4 = 0 → off + bytes.length ≤ (u.fw n).len →
      y = u.modFw n (fun w => { w with bytes := putBytes bytes off w.bytes }) → (y.fw n).bytes.length ≠ (y.fw n).len →
      exec (.updWrite t h off bytes) s = .next (y.finish h 0x0C02 stOk)) ∧
    (∀ (h : Hdr) (slot : Nat), u.serves → u.waits h = false → slot < 2 →
      ((u.fw slot).st = .written ∨ (u.fw slot).st = .verified) →
      exec (.updVerify t h slot) s = .next (u.accept h 0x0C03 (.slotVerify slot))) ∧
    (∀ (slot : Nat) (keyOk sigOk : Bool), slot < 2 → u.coreUp = true →
      u.hasWork (fun w => w == .slotVerify slot) = true → slotCode (u.fw slot).image u.boot.fuses keyOk sigOk = 0 →
      exec (.updVerifyComplete t slot keyOk sigOk) s = .next (((u.modFw slot (fun w => { w with
          code := 0, version := BitVec.ofNat 32 (fbe (u.fw slot).image 8 4), sv := fbe (u.fw slot).image 5
            1 })).setSlot slot .verified).finalReply (.slotVerify slot) stOk 0 (be 1 0))) ∧
    (∀ (h : Hdr) (y : State), u.serves → u.waits h = false → u.boot.running < 2 → (u.fw u.boot.running).st = .trial →
      u.boot.nonActive = false →
      y = (u.modBoot (fun b => { b with active := u.boot.running })).setSlot u.boot.running .good →
      exec (.updConfirm t h false) s = .next (y.finish h 0x0C04 stOk 0 (be 1 y.boot.fuses))) ∧
    (∀ (h : Hdr) (slot code : Nat) (y : State), u.coreUp = true → u.waits h = false → u.boot.phase = .recovery →
      slot < 2 → code % 16 = 0 → y = u.modFw slot (fun w => { w with code := code % 16 }) →
      exec (.updBoot t h slot code) s = .next (((y.finish h 0x0C05 stOk).setSlot slot .trial).romBoots slot false))

/-- The test access port, the built-in tests and the hours of use. Each clause gives the conditions under which one
command of the table has its own effect, and the next state that exec then answers: what the clause does not change in
u is unchanged. The commands: EXTEST, SAMPLE_PRELOAD, IDCODE, PROBE, EXTEST_PULSE, EXTEST_TRAIN, CLAMP, HIGHZ, MBIST,
MODBIST, BIST_RESULT, BYPASS, TEST_LOGIC_RESET, TAP_UNLOCK, UNLOCK_WINDOW_EXPIRY, BIST_REPORT, TJ_HOURS_TICK. -/
def Obligations.TestPortCommandsComplete : Prop :=
  ∀ (t : Nat) (s u : State), u = s.tick t →
    (∀ (shift : List Bool), (u.pd 15 = true ∨ u.boot.phase = .testHold) → u.unlocked = true →
      exec (.extest t shift) s = .next (u.testHold.modTap (fun q => (fun p => { p with
          preload := shift, soForced := u.ident.field, atBus := true }) (tapSelect 0x00 0 q)))) ∧
    (∀ (shift : List Bool), (u.pd 15 = true ∨ u.boot.phase = .testHold) →
      exec (.samplePreload t shift) s = .next (u.modTap (fun p => { tapSelect 0x01 0 p with preload := shift }))) ∧
    ((u.pd 15 = true ∨ u.boot.phase = .testHold) → exec (.idcode t) s = .next (u.modTap (tapSelect 0x02 u.idcode))) ∧
    ((u.pd 15 = true ∨ u.boot.phase = .testHold) → u.unlocked = true →
      exec (.probe t) s =
        .next (u.testHold.modTap (fun q => (fun p => { p with atBus := true }) (tapSelect 0x03 0 q)))) ∧
    ((u.pd 15 = true ∨ u.boot.phase = .testHold) → u.unlocked = true →
      exec (.extestPulse t) s =
        .next (u.testHold.modTap (fun q => (fun p => { p with acDrive := true }) (tapSelect 0x05 0 q)))) ∧
    ((u.pd 15 = true ∨ u.boot.phase = .testHold) → u.unlocked = true →
      exec (.extestTrain t) s =
        .next (u.testHold.modTap (fun q => (fun p => { p with acDrive := true }) (tapSelect 0x06 0 q)))) ∧
    ((u.pd 15 = true ∨ u.boot.phase = .testHold) → u.unlocked = true →
      exec (.clamp t) s =
        .next (u.testHold.modTap (fun q => (fun p => { p with soForced := u.ident.field }) (tapSelect 0x07 0 q)))) ∧
    ((u.pd 15 = true ∨ u.boot.phase = .testHold) → u.unlocked = true →
      exec (.highz t) s = .next (u.testHold.modTap (fun q => (fun p => { p with hiz := true }) (tapSelect 0x08 0 q)))) ∧
    (∀ (failing : Nat) (y : State), (u.pd 15 = true ∨ u.boot.phase = .testHold) → u.unlocked = true →
      y = u.testHold.modTap (tapSelect 0x20 0) →
      exec (.mbist t failing) s = .next (y.bistDone (mbistOf failing y.ident))) ∧
    (∀ (map : BitVec 432) (y : State), (u.pd 15 = true ∨ u.boot.phase = .testHold) → u.unlocked = true →
      u.ident.field = true → y = u.testHold.modTap (tapSelect 0x21 0) →
      exec (.modbist t map) s = .next (y.bistDone (modbistOf map y.ident))) ∧
    ((u.pd 15 = true ∨ u.boot.phase = .testHold) →
      exec (.bistResult t) s = .next (u.modTap (tapSelect 0x22 (u.tap.result.getD (bistRegister u.ident))))) ∧
    (∀ (code : BitVec 8), (u.pd 15 = true ∨ u.boot.phase = .testHold) → plainCode code = false →
      intrusiveCode code = false → exec (.bypass t code) s = .next (u.tapBypass code)) ∧
    ((u.pd 15 = true ∨ u.boot.phase = .testHold) →
      exec (.testLogicReset t) s = .next (u.modTap (tapSelect 0x02 u.idcode))) ∧
    (∀ (h : Hdr), u.serves → u.waits h = false → u.running = false → (u.so 0).st = .off → (u.so 1).st = .off →
      exec (.tapUnlock t h 0x54415055) s = .next ((u.modTap (fun p => { p with
          unlockUntil := some (u.now + 60000000000) })).finish h 0x0D00 stOk)) ∧
    (u.unlocked = false → exec (.unlockWindowExpiry t) s = .next (u.modTap (fun p => { p with unlockUntil := none }))) ∧
    (∀ (h : Hdr), u.serves → u.waits h = false →
      exec (.bistReport t h) s = .next (u.finish h 0x0D01 stOk 0 (bistBytes u.ident))) ∧
    (∀ (temp : Int) (sensor : Nat) (y : State), y = u.modBoot (fun b => { b with
          tempNow := clampI (-32768) 32767 temp
          tempSensor := sensor % 12
          tempPeak := max b.tempPeak (clampI (-32768) 32767 temp) }) →
      y.coreUp = true → y.elapsed y.boot.hourAt 3600000000000 = true →
      exec (.tjHoursTick t temp sensor) s = .next (y.modBoot (fun b => { b with
          hours := tmod 0 b.hours (tempBin temp) (fun n => min 0xFFFFFFFF (n + 1)), hourAt := some y.now })))

/-- Reading and writing items. Each clause gives the conditions under which one command of the table has its own effect,
and the next state that exec then answers: what the clause does not change in u is unchanged. The commands:
REGISTER_WRITE, WRITE_PARAM, WRITE_RANGE, READ_PARAM, READ_RANGE. -/
def Obligations.ItemCommandsComplete : Prop :=
  ∀ (t : Nat) (s u : State), u = s.tick t →
    (∀ (h : Hdr) (id val : Word), u.serves → u.waits h = false → u.setFailure [(id.toNat, val.toNat)] = none →
      deferredItem id.toNat = false →
      exec (.registerWrite t h id val) s = .next ((u.applySet [(id.toNat, val.toNat)]).finish h opWriteParam stOk)) ∧
    (∀ (h : Hdr) (items : List (Word × Word)) (l : List (Nat × Nat)), u.serves → u.waits h = false →
      2 ≤ items.length → items.length ≤ 509 → l = items.map (fun x => (x.1.toNat, x.2.toNat)) →
      u.setFailure l = none → exec (.writeParam t h items) s = .next ((u.applySet l).finish h opWriteParam stOk)) ∧
    (∀ (h : Hdr) (first : Word) (vals : List Word) (l : List (Nat × Nat)), u.serves → u.waits h = false →
      2 ≤ vals.length → vals.length ≤ 1017 → rangeOk first.toNat vals.length = true →
      l = vals.zipIdx.map (fun x => (first.toNat + x.2, x.1.toNat)) → u.setFailure l = none →
      exec (.writeRange t h first vals) s = .next ((u.applySet l).finish h 0x0203 stOk)) ∧
    (∀ (h : Hdr) (ids : List Word), u.serves → u.waits h = false → 1 ≤ ids.length → ids.length ≤ 1018 →
      ((ids.map BitVec.toNat).map readStatus).find? (fun st => st != stOk) = none →
      exec (.readParam t h ids) s =
        .next ((u.readItems (ids.map BitVec.toNat)).1.finish h 0x0200 stOk 0
          (((u.readItems (ids.map BitVec.toNat)).2.map (be 4)).flatten))) ∧
    (∀ (h : Hdr) (first : Word) (count : Nat) (l : List Nat), u.serves → u.waits h = false → 1 ≤ count →
      count ≤ 1018 → rangeOk first.toNat count = true → l = (List.range count).map (first.toNat + ·) →
      (l.map readStatus).find? (fun st => st != stOk) = none →
      exec (.readRange t h first count) s =
        .next ((u.readItems l).1.finish h 0x0202 stOk 0 (((u.readItems l).2.map (be 4)).flatten)))

/-- Configuration images. Each clause gives the conditions under which one command of the table has its own effect, and
the next state that exec then answers: what the clause does not change in u is unchanged. The commands: IMG_OPEN,
IMG_WRITE, IMG_VERIFY, IMG_VERIFY_COMPLETE, IMG_ABORT, IMG_COMMIT, COMMIT_BOUNDARY. -/
def Obligations.ImageCommandsComplete : Prop :=
  ∀ (t : Nat) (s u : State), u = s.tick t →
    (∀ (h : Hdr) (gen len : Nat), u.serves → u.waits h = false → u.openStatus h (wrap 32 gen) len = stOk →
      exec (.imgOpen t h gen len) s = .next ((u.dropVerify.emptyStaging.modImage (fun m => { m with
          owner := some (ownerOf h), gen := wrap 32 gen, len := len, base := m.committedGen })).finish h 0x0210 stOk)) ∧
    (∀ (h : Hdr) (off : Nat) (data : List Word), u.serves → u.waits h = false →
      u.imgWriteStatus h off data.length = stOk →
      exec (.imgWrite t h off data) s = .next ((u.modImage (fun m => { m with
          words := putWords data (off / 4) m.words })).finish h 0x0211 stOk)) ∧
    (∀ (h : Hdr), u.serves → u.waits h = false → u.ownsStaging h = true → u.image.verifying = false →
      exec (.imgVerify t h) s = .next ((u.modImage (fun m => { m with verifying := true })).accept h 0x0212 .verify)) ∧
    (∀ (c i : Nat), u.coreUp = true → u.image.verifying = true → u.checkStaged = (c, i) →
      exec (.imgVerifyComplete t) s =
        .next ((u.noteCheck (c, i)).finalReply .verify (if c = 0 then stOk else stParamRange)
          (if c = 0 then 0 else i) (be 2 i ++ be 1 c))) ∧
    (∀ (h : Hdr), u.serves → u.waits h = false → u.commitNamed = false →
      exec (.imgAbort t h) s = .next (u.dropVerify.emptyStaging.finish h 0x0214 stOk)) ∧
    (∀ (h : Hdr) (store : Bool), u.serves → u.waits h = false → u.ownsStaging h = true → u.image.verifying = false →
      u.image.commitAt = none → u.image.verified = true →
      exec (.imgCommit t h store) s = .next (u.takeCommit h store)) ∧
    (∀ (h : Hdr), u.commitNow = true → u.firesNow = false → u.image.loading = false →
      u.image.committedGen = u.image.shadowBase → u.image.commitBy = some h →
      exec (.commitBoundary t) s =
        .next (u.applyImage.noteCommit.endCommit.finish h 0x0213 stOk 0 (be 4 u.image.shadowGen)))

/-- Storing images and leaving the start-up. Each clause gives the conditions under which one command of the table has its
own effect, and the next state that exec then answers: what the clause does not change in u is unchanged. The
commands: IMAGE_STORE_COMPLETE, HUB_ID_WAIT_EXPIRY, POWERUP_CALIBRATION_END. -/
def Obligations.LoadingCommandsComplete : Prop :=
  ∀ (t : Nat) (s u : State), u = s.tick t →
    (∀ (ports : List Nat), u.image.storing = true → ports = [0, 1].filter u.inLayout → ports ≠ [] →
      exec (.imageStoreComplete t true) s =
        .next (forAll ports (fun s n => s.modStore n (storeCopy u.image.toStore)) (u.modImage (fun m => { m with
            storing := false })))) ∧
    (∀ (w : Nat) (y : State), u.coreUp = true → u.boot.waitId = some w → w + 10000000000 ≤ u.now →
      y = u.modBoot (fun b => { b with waitId := none }) → y.running = false →
      exec (.hubIdWaitExpiry t) s = .next (y.noCopy)) ∧
    (∀ (results : List CalOut) (y : State), u.coreUp = true → u.cal.puDone = false → u.cal.running = false →
      y = u.puResults results →
      exec (.powerupCalibrationEnd t results) s = .next ({ y with
          cal := { y.cal with puDone := true }
          boot := { y.boot with calRecord := some (y.cal.convs, y.cal.srcs, y.cal.amps), phase := .ready } }.tryLoad))

/-- A step runs the command at the front of the queue -/
def Obligations.StepRunsFrontCommand : Prop :=
  (∀ (c : Instr) (r : List Instr) (s : State), s.pending = c :: r → step s = exec c { s with pending := r }) ∧
    (∀ s : State, s.pending = [] → step s = .next s)

/-- What the hub holds when PD0 has come up -/
def Obligations.ResetLeaves : Prop :=
  State.reset.pdOn = 1 ∧ State.reset.pdGood = 1 ∧ State.reset.now = 0 ∧ State.reset.time.state = .unlocked ∧ State.reset.time.parent = 7 ∧
    (∀ id, State.reset.cfgAt id = dfltOf id) ∧ (∀ id lo, State.reset.count id lo = 0) ∧
    State.reset.evCount = 0 ∧ State.reset.evq.last = 0 ∧ State.reset.cmds.replies = [] ∧
    State.reset.inProgress = [] ∧ State.reset.running = false ∧ State.reset.image.committedGen = 0 ∧
    State.reset.safety.confirmed = false ∧ (State.reset.so 0).st = .off ∧ (State.reset.so 1).st = .off ∧
    State.reset.pending = []

/-- The reset state meets the invariant -/
def Obligations.ResetMeetsInvariant : Prop :=
  State.reset.Inv

/-- Every step keeps the invariant -/
def Obligations.CommandsKeepInvariant : Prop :=
  ∀ s u : State, s.Inv → step s = .next u → u.Inv

/-- A running hub never returns to HELD -/
def Obligations.RunningHubNeverReturnsToHeld : Prop :=
  ∀ (c : Instr) (s u : State), startsAnew c = false → s.running = true → exec c s = .next u → u.running = true

/-- CONFIRMED is set by CONFIRM_SIGNET on a running hub, or at the C that ends HELD -/
def Obligations.SignetIsConfirmedOnlyHere : Prop :=
  ∀ (c : Instr) (s u : State), exec c s = .next u → s.safety.confirmed = false → u.safety.confirmed = true →
    (∃ t h b, c = .confirmSignet t h b ∧ s.running = true) ∨ (∃ t, c = .commitBoundary t ∧ s.running = false)

/-- RUNTIME is never set or stepped back -/
def Obligations.RuntimeNeverGoesBack : Prop :=
  ∀ (c : Instr) (s u : State), (∀ t b, c ≠ .railTrip t .vddaon b ∧ c ≠ .railTrip t .vioaon b) → exec c s = .next u →
    s.now ≤ u.now

/-- A command leaves the queue of the waiting commands alone -/
def Obligations.CommandsLeaveTheQueue : Prop :=
  ∀ (c : Instr) (r : List Instr) (s u : State), s.pending = c :: r → step s = .next u → u.pending = r

/-- Frame: the power domains -/
def Obligations.OnlyPowerCommandsSwitchDomains : Prop :=
  ∀ (c : Instr) (s u : State), switchesDomains c = false → exec c s = .next u →
    u.pdOn = s.pdOn ∧ u.pdGood = s.pdGood

/-- Frame: the configured values -/
def Obligations.OnlyWritesChangeTheConfiguration : Prop :=
  ∀ (c : Instr) (s u : State) (id : Nat), writesConfig c = false → exec c s = .next u → u.cfgAt id = s.cfgAt id

/-- Frame: the opcodes that only read -/
def Obligations.ReadsLeaveTheHub : Prop :=
  ∀ (c : Instr) (t : Nat) (s : State),
    (∃ h, c = .nop t h ∨ c = .identify t h ∨ c = .timeRead t h ∨ c = .bistReport t h ∨ c = .updStatus t h ∨
      (∃ prev, c = .locketRead t h prev) ∨ (∃ id, c = .topologyRead t h id) ∨
      (∃ off len, c = .arcRead t h off len)) →
    ∃ u, exec c s = .next u ∧ u.beside = (s.tick t).beside

/-- An event of a unit the hub does not have -/
def Obligations.AbsentUnitsFault : Prop :=
  ∀ (t : Nat) (s : State),
    (∀ (cell : Nat), 48 ≤ cell → exec (.cellWriteEffect t cell) s = .fault (.noSuchUnit .cell cell)) ∧
    (∀ (cell : Nat), 48 ≤ cell → exec (.crosspointClose t cell) s = .fault (.noSuchUnit .cell cell)) ∧
    (∀ (cell tap : Nat), 48 ≤ cell → exec (.tapExcursionStart t cell tap) s = .fault (.noSuchUnit .cell cell)) ∧
    (∀ (cell tap : Nat), 48 ≤ cell → exec (.tapExcursionEnd t cell tap) s = .fault (.noSuchUnit .cell cell)) ∧
    (∀ (src : Nat) (m : Monitor), 192 ≤ src →
      exec (.sourceMonitorEvaluation t src m) s = .fault (.noSuchUnit .source src)) ∧
    (∀ (src : Nat) (m : Monitor), 192 ≤ src → exec (.driftEvaluation t src m) s = .fault (.noSuchUnit .source src)) ∧
    (∀ (src : Nat), 192 ≤ src → exec (.blankingEnd t src) s = .fault (.noSuchUnit .source src)) ∧
    (∀ (cell qa : Nat) (lv : QaLevels), 48 ≤ cell →
      exec (.qaThresholdCrossing t cell qa lv) s = .fault (.noSuchUnit .cell cell)) ∧
    (∀ (cell qa : Nat) (lv : QaLevels), 48 ≤ cell →
      exec (.qaPeriodicReset t cell qa lv) s = .fault (.noSuchUnit .cell cell)) ∧
    (∀ (cell qa : Nat) (lv : QaLevels), 48 ≤ cell →
      exec (.qaDeferredReset t cell qa lv) s = .fault (.noSuchUnit .cell cell)) ∧
    (∀ (ch : Nat), 384 ≤ ch → exec (.rangeRecoveryEnd t ch) s = .fault (.noSuchUnit .channel ch)) ∧
    (∀ (cell : Nat), 48 ≤ cell → exec (.converterPathValid t cell) s = .fault (.noSuchUnit .cell cell)) ∧
    (∀ (cell : Nat), 48 ≤ cell → exec (.seamlessSeam t cell) s = .fault (.noSuchUnit .cell cell)) ∧
    (∀ (cell : Nat), 48 ≤ cell → exec (.seamlessHandbackSeam t cell) s = .fault (.noSuchUnit .cell cell)) ∧
    (∀ (ch : Nat), 384 ≤ ch → exec (.autoRangeLower t ch) s = .fault (.noSuchUnit .channel ch)) ∧
    (∀ (ch : Nat), 384 ≤ ch → exec (.autoRangeRaise t ch) s = .fault (.noSuchUnit .channel ch)) ∧
    (∀ (cell modulator : Nat), 48 ≤ cell →
      exec (.modulatorFailure t cell modulator) s = .fault (.noSuchUnit .cell cell)) ∧
    (∀ (ch : Nat), 384 ≤ ch → exec (.coldSwitchResume t ch) s = .fault (.noSuchUnit .channel ch)) ∧
    (∀ (src : Nat) (m : Monitor), 192 ≤ src → exec (.vwResistanceEnd t src m) s = .fault (.noSuchUnit .source src)) ∧
    (∀ (src : Nat), 192 ≤ src → exec (.vwPluckStart t src) s = .fault (.noSuchUnit .source src)) ∧
    (∀ (src : Nat), 192 ≤ src → exec (.vwListenStart t src) s = .fault (.noSuchUnit .source src)) ∧
    (∀ (src : Nat), 192 ≤ src → exec (.vwCaptureEnd t src) s = .fault (.noSuchUnit .source src)) ∧
    (∀ (ch : Nat) (ps : List BasePer), 384 ≤ ch → exec (.outputSample t ch ps) s = .fault (.noSuchUnit .channel ch)) ∧
    (∀ (cell : Nat) (ps : List BasePer), 48 ≤ cell → exec (.warmSeam t cell ps) s = .fault (.noSuchUnit .cell cell)) ∧
    (∀ (ch : Nat) (ps : List BasePer), 384 ≤ ch → exec (.coarseValue t ch ps) s = .fault (.noSuchUnit .channel ch)) ∧
    (∀ (gait : Nat), 8 ≤ gait → exec (.swapEffect t gait) s = .fault (.noSuchUnit .gait gait)) ∧
    (∀ (ch : Nat), 384 ≤ ch → exec (.gaitChange t ch) s = .fault (.noSuchUnit .channel ch)) ∧
    (∀ (ch : Nat), 384 ≤ ch → exec (.intervalClose t ch) s = .fault (.noSuchUnit .channel ch)) ∧
    (∀ (ch : Nat) (ofRecord : Bool), 384 ≤ ch → exec (.spanEnd t ch ofRecord) s = .fault (.noSuchUnit .channel ch)) ∧
    (∀ (ch : Nat) (ofRecord : Bool), 384 ≤ ch → exec (.measResult t ch ofRecord) s = .fault (.noSuchUnit .channel ch)) ∧
    (∀ (ch : Nat), 384 ≤ ch → exec (.gapEntryCont t ch) s = .fault (.noSuchUnit .channel ch)) ∧
    (∀ (slot : Nat), 512 ≤ slot → exec (.slotResult t slot) s = .fault (.noSuchUnit .slot slot)) ∧
    (∀ (slot : Nat), 16 ≤ slot → exec (.recordEnd t slot) s = .fault (.noSuchUnit .record slot)) ∧
    (∀ (port seq hops : Nat) (m : NetTrig), 6 ≤ port →
      exec (.networkTriggerReceive t port seq hops m) s = .fault (.noSuchUnit .port port)) ∧
    (∀ (ch : Nat) (slot : Option Nat), 384 ≤ ch → exec (.blockFlush t ch slot) s = .fault (.noSuchUnit .channel ch)) ∧
    (∀ (port : Nat), 6 ≤ port → exec (.syncSend t port) s = .fault (.noSuchUnit .port port)) ∧
    (∀ (port : Nat) (m : TimeMsg), 6 ≤ port → exec (.syncReceive t port m) s = .fault (.noSuchUnit .port port)) ∧
    (∀ (port : Nat) (m : TimeMsg), 6 ≤ port → exec (.delayReqReceive t port m) s = .fault (.noSuchUnit .port port)) ∧
    (∀ (port : Nat) (m : TimeMsg) (y : Int), 6 ≤ port →
      exec (.delayRespReceive t port m y) s = .fault (.noSuchUnit .port port)) ∧
    (∀ (port : Nat) (m : PtpMsg) (y : Int), 6 ≤ port →
      exec (.ptpMessageReceive t port m y) s = .fault (.noSuchUnit .port port)) ∧
    (∀ (port kind : Nat), 6 ≤ port → exec (.ptpMessageSend t port kind) s = .fault (.noSuchUnit .port port)) ∧
    (∀ (line : Nat) (rising : Bool), 4 ≤ line →
      exec (.reinEdge t line rising) s = .fault (.noSuchUnit .reinLine line)) ∧
    (∀ (line : Nat), 4 ≤ line → exec (.reinPulseEnd t line) s = .fault (.noSuchUnit .reinLine line)) ∧
    (∀ (line : Nat), 4 ≤ line → exec (.reinReadbackFault t line) s = .fault (.noSuchUnit .reinLine line)) ∧
    (∀ (line : Nat), 4 ≤ line → exec (.reinLineStuckHigh t line) s = .fault (.noSuchUnit .reinLine line)) ∧
    (∀ (cell : Nat), 48 ≤ cell → exec (.backgroundCalibration t cell) s = .fault (.noSuchUnit .cell cell)) ∧
    (∀ (cell conv : Nat), 48 ≤ cell → exec (.trimApply t cell conv) s = .fault (.noSuchUnit .cell cell)) ∧
    (∀ (quadrant : Nat), 4 ≤ quadrant →
      exec (.triangulationTrimUpdate t quadrant) s = .fault (.noSuchUnit .quadrant quadrant)) ∧
    (∀ (os : Nat), 16 ≤ os → exec (.osOpenDetect t os) s = .fault (.noSuchUnit .optical os)) ∧
    (∀ (os : Nat), 16 ≤ os → exec (.osOpenClear t os) s = .fault (.noSuchUnit .optical os)) ∧
    (∀ (pair : Nat) (shorted : Bool), 15 ≤ pair →
      exec (.neighbourShortTest t pair shorted) s = .fault (.noSuchUnit .opticalPair pair)) ∧
    (∀ (st : Nat), 2 ≤ st → exec (.storagePortFail t st) s = .fault (.noSuchUnit .storage st)) ∧
    (∀ (st : Nat), 2 ≤ st → exec (.resilverComplete t st) s = .fault (.noSuchUnit .storage st)) ∧
    (∀ (st lifeA lifeB eol : Nat), 2 ≤ st →
      exec (.lifeCheck t st lifeA lifeB eol) s = .fault (.noSuchUnit .storage st)) ∧
    (∀ (lane : Nat), 6 ≤ lane → exec (.laneSwitchClose t lane) s = .fault (.noSuchUnit .port lane)) ∧
    (∀ (lane : Nat), 6 ≤ lane → exec (.pllLock t lane) s = .fault (.noSuchUnit .port lane)) ∧
    (∀ (lane : Nat), 6 ≤ lane → exec (.pllLockTimeout t lane) s = .fault (.noSuchUnit .port lane)) ∧
    (∀ (lane : Nat), 6 ≤ lane → exec (.pllLoss t lane) s = .fault (.noSuchUnit .port lane)) ∧
    (∀ (lane : Nat) (locked : Bool), 6 ≤ lane → exec (.failedRetry t lane locked) s = .fault (.noSuchUnit .port lane)) ∧
    (∀ (port : Nat), 6 ≤ port → exec (.helloSend t port) s = .fault (.noSuchUnit .port port)) ∧
    (∀ (port : Nat) (m : Hello), 6 ≤ port → exec (.helloReceive t port m) s = .fault (.noSuchUnit .port port)) ∧
    (∀ (port : Nat), 6 ≤ port → exec (.partnerGone t port) s = .fault (.noSuchUnit .port port)) ∧
    (∀ (port : Nat), 6 ≤ port → exec (.countdownSwitch t port) s = .fault (.noSuchUnit .port port)) ∧
    (∀ (port : Nat), 6 ≤ port → exec (.adaptLock t port) s = .fault (.noSuchUnit .port port)) ∧
    (∀ (port : Nat), 6 ≤ port → exec (.adaptFailure t port) s = .fault (.noSuchUnit .port port)) ∧
    (∀ (port : Nat) (control status : BitVec 16) (eyeOk : Bool), 6 ≤ port →
      exec (.trainingFrameReceive t port control status eyeOk) s = .fault (.noSuchUnit .port port)) ∧
    (∀ (port : Nat), 6 ≤ port → exec (.dataStart t port) s = .fault (.noSuchUnit .port port)) ∧
    (∀ (port : Nat) (inPlace : Bool), 6 ≤ port →
      exec (.markerReceive t port inPlace) s = .fault (.noSuchUnit .port port)) ∧
    (∀ (port : Nat), 6 ≤ port → exec (.lockLoss t port) s = .fault (.noSuchUnit .port port)) ∧
    (∀ (port : Nat), 6 ≤ port → exec (.lockRegainTimeout t port) s = .fault (.noSuchUnit .port port)) ∧
    (∀ (port : Nat) (fullDuplex : Bool), 6 ≤ port →
      exec (.ethLinkUp t port fullDuplex) s = .fault (.noSuchUnit .port port)) ∧
    (∀ (port : Nat), 6 ≤ port → exec (.checkerLock t port) s = .fault (.noSuchUnit .port port)) ∧
    (∀ (port : Nat), 6 ≤ port → exec (.checkerLockLoss t port) s = .fault (.noSuchUnit .port port)) ∧
    (∀ (port : Nat) (bits : Bool), 6 ≤ port →
      exec (.checkerCountSaturate t port bits) s = .fault (.noSuchUnit .port port)) ∧
    (∀ (port corr unc sym : Nat), 6 ≤ port →
      exec (.fecLimitCheck t port corr unc sym) s = .fault (.noSuchUnit .port port)) ∧
    (∀ (port c2 c3 : Nat), 6 ≤ port → exec (.creditReceive t port c2 c3) s = .fault (.noSuchUnit .port port)) ∧
    (∀ (port : Nat), 6 ≤ port → exec (.creditSend t port) s = .fault (.noSuchUnit .port port)) ∧
    (∀ (port : Nat) (ecc : List Ecc), 6 ≤ port → exec (.portFrameSend t port ecc) s = .fault (.noSuchUnit .port port)) ∧
    (∀ (port : Nat), 6 ≤ port → exec (.blockSent t port) s = .fault (.noSuchUnit .port port)) ∧
    (∀ (port : Nat) (f : Frame), 6 ≤ port → exec (.wcpFrameReceive t port f) s = .fault (.noSuchUnit .port port)) ∧
    (∀ (port : Nat) (f : Frame), 6 ≤ port → exec (.streamFrameReceive t port f) s = .fault (.noSuchUnit .port port)) ∧
    (∀ (port etherType : Nat) (f : Frame), 6 ≤ port →
      exec (.ethFrameReceive t port etherType f) s = .fault (.noSuchUnit .port port)) ∧
    (∀ (port : Nat) (m : Lsa), 6 ≤ port → exec (.lsaReceive t port m) s = .fault (.noSuchUnit .port port)) ∧
    (∀ (src : Nat) (detail : Word), 128 ≤ src →
      exec (.faultPairActive t src detail) s = .fault (.noSuchUnit .faultSource src)) ∧
    (∀ (src : Nat), 128 ≤ src → exec (.faultPairInactive t src) s = .fault (.noSuchUnit .faultSource src)) ∧
    (∀ (pair : Nat), 128 ≤ pair → exec (.wireFault t pair) s = .fault (.noSuchUnit .faultSource pair)) ∧
    (∀ (core : Nat), 3 ≤ core → exec (.claspMinority t core) s = .fault (.noSuchUnit .core core)) ∧
    (∀ (port : Nat) (m : Heartbeat), 6 ≤ port → exec (.heartbeatReceive t port m) s = .fault (.noSuchUnit .port port)) ∧
    (∀ (pair : Nat) (memberB : Bool) (v : Option CoarseVal), 32 ≤ pair →
      exec (.pairMemberValue t pair memberB v) s = .fault (.noSuchUnit .pair pair)) ∧
    (∀ (pair : Nat), 32 ≤ pair → exec (.pairDiscrepancy t pair) s = .fault (.noSuchUnit .pair pair)) ∧
    (∀ (si : Nat) (a b : Bool), 4 ≤ si → exec (.siChange t si a b) s = .fault (.noSuchUnit .safetyInput si)) ∧
    (∀ (si : Nat), 4 ≤ si → exec (.siFilterExpiry t si) s = .fault (.noSuchUnit .safetyInput si)) ∧
    (∀ (si : Nat), 4 ≤ si → exec (.siDiscrepancy t si) s = .fault (.noSuchUnit .safetyInput si)) ∧
    (∀ (conn : Nat), 16 ≤ conn → exec (.nslTimeout t conn) s = .fault (.noSuchUnit .connection conn)) ∧
    (∀ (so : Nat) (hrb lrb : Bool), 2 ≤ so → exec (.soReadback t so hrb lrb) s = .fault (.noSuchUnit .output so)) ∧
    (∀ (so : Nat), 2 ≤ so → exec (.rbTExpiry t so) s = .fault (.noSuchUnit .output so)) ∧
    (∀ (so : Nat), 2 ≤ so → exec (.tpWidthEnd t so) s = .fault (.noSuchUnit .output so)) ∧
    (∀ (entry : Nat), 64 ≤ entry → exec (.actionFire t entry) s = .fault (.noSuchUnit .action entry)) ∧
    (∀ (entry : Nat), 64 ≤ entry → exec (.heldActionDrop t entry) s = .fault (.noSuchUnit .action entry)) ∧
    (∀ (pd : Nat) (badPairs : List Nat), 16 ≤ pd →
      exec (.domainGood t pd badPairs) s = .fault (.noSuchUnit .domain pd)) ∧
    (∀ (pd : Nat), 16 ≤ pd → exec (.railWaitExpiry t pd) s = .fault (.noSuchUnit .domain pd)) ∧
    (∀ (st : Nat) (d : StDev), 2 ≤ st → exec (.stInitComplete t st d) s = .fault (.noSuchUnit .storage st))

/-- While the control core does not run, no opcode has an effect -/
def Obligations.NoCommandRunsWithoutTheCore : Prop :=
  ∀ (t : Nat) (s : State), (s.tick t).coreUp = false →
    exec (.commandStart t) s = .next (s.tick t) ∧
    (∀ (h : Hdr), exec (.nop t h) s = .next (s.tick t)) ∧
    (∀ (h : Hdr), exec (.identify t h) s = .next (s.tick t)) ∧
    (∀ (h : Hdr) (scope : Nat), exec (.fence t h scope) s = .next (s.tick t)) ∧
    (∀ (h : Hdr), exec (.fenceCfgMet t h) s = .next (s.tick t)) ∧
    (∀ (h : Hdr), exec (.fenceOutMet t h) s = .next (s.tick t)) ∧
    (∀ (h : Hdr) (domain action lanes : Nat), exec (.pdCtl t h domain action lanes) s = .next (s.tick t)) ∧
    (∀ (h : Hdr) (cell : Nat) (val : Word), exec (.spAssign t h cell val) s = .next (s.tick t)) ∧
    (∀ (h : Hdr) (src : Nat), exec (.vwRead t h src) s = .next (s.tick t)) ∧
    (∀ (h : Hdr) (gait : Nat), exec (.swap t h gait) s = .next (s.tick t)) ∧
    (∀ (h : Hdr) (ch : Nat), exec (.redCloseAcc t h ch) s = .next (s.tick t)) ∧
    (∀ (h : Hdr) (ch : Nat), exec (.redCloseMm t h ch) s = .next (s.tick t)) ∧
    (∀ (h : Hdr) (ch : Nat), exec (.redLatchLive t h ch) s = .next (s.tick t)) ∧
    (∀ (h : Hdr) (ch : Nat), exec (.redLatchLast t h ch) s = .next (s.tick t)) ∧
    (∀ (h : Hdr) (ch : Nat), exec (.measCmd t h ch) s = .next (s.tick t)) ∧
    (∀ (h : Hdr) (ch : Nat), exec (.lastSampleRead t h ch) s = .next (s.tick t)) ∧
    (∀ (h : Hdr) (ch : Nat), exec (.lastCoarseRead t h ch) s = .next (s.tick t)) ∧
    (∀ (h : Hdr) (profile : Nat) (net : Bool), exec (.manual t h profile net) s = .next (s.tick t)) ∧
    (∀ (h : Hdr) (profile : Nat) (net : Bool), exec (.recordManual t h profile net) s = .next (s.tick t)) ∧
    (∀ (h : Hdr) (slot : Nat), exec (.rctl t h slot) s = .next (s.tick t)) ∧
    (∀ (h : Hdr) (slot : Nat), exec (.recordClose t h slot) s = .next (s.tick t)) ∧
    (∀ (h : Hdr), exec (.ntimeLatRead t h) s = .next (s.tick t)) ∧
    (∀ (h : Hdr) (val : Word), exec (.utc t h val) s = .next (s.tick t)) ∧
    (∀ (h : Hdr), exec (.timeRead t h) s = .next (s.tick t)) ∧
    (∀ (h : Hdr) (kind target : Nat), exec (.calRequest t h kind target) s = .next (s.tick t)) ∧
    (∀ (h : Hdr) (kind target : Nat), exec (.calReq t h kind target) s = .next (s.tick t)) ∧
    (∀ (h : Hdr) (val : Word), exec (.baseline t h val) s = .next (s.tick t)) ∧
    exec (.triangulationRun t) s = .next (s.tick t) ∧
    (∀ (o : TriOut), exec (.triangulationResult t o) s = .next (s.tick t)) ∧
    (∀ (ok : Bool), exec (.driftLogRetry t ok) s = .next (s.tick t)) ∧
    exec (.calAgeTick t) s = .next (s.tick t) ∧
    (∀ (h : Hdr) (test target : Nat), exec (.selfTest t h test target) s = .next (s.tick t)) ∧
    (∀ (h : Hdr) (test target : Nat), exec (.testReq t h test target) s = .next (s.tick t)) ∧
    (∀ (test target : Nat) (failed : Bool) (data : Nat), exec (.selfTestEnd t test target failed data) s =
        .next (s.tick t)) ∧
    (∀ (h : Hdr) (mask : Nat), exec (.osApply t h mask) s = .next (s.tick t)) ∧
    (∀ (h : Hdr) (os : Nat), exec (.osCtlApply t h os) s = .next (s.tick t)) ∧
    (∀ (h : Hdr) (os : Nat) (shorted : Bool), exec (.osCtlClear t h os shorted) s = .next (s.tick t)) ∧
    (∀ (h : Hdr) (val : Word), exec (.extTemp t h val) s = .next (s.tick t)) ∧
    (∀ (h : Hdr), exec (.qctlClearUnderrun t h) s = .next (s.tick t)) ∧
    (∀ (h : Hdr), exec (.qctlClearNotices t h) s = .next (s.tick t)) ∧
    (∀ (h : Hdr), exec (.qctlClearLost t h) s = .next (s.tick t)) ∧
    (∀ (h : Hdr), exec (.qctlClearReplyUnderrun t h) s = .next (s.tick t)) ∧
    (∀ (h : Hdr) (count : Nat) (ecc : List Ecc), exec (.eventRead t h count ecc) s = .next (s.tick t)) ∧
    (∀ (h : Hdr) (st : Nat), exec (.stCtlDetach t h st) s = .next (s.tick t)) ∧
    (∀ (h : Hdr) (st : Nat), exec (.stCtlAttach t h st) s = .next (s.tick t)) ∧
    (∀ (h : Hdr) (sel : ArcSel), exec (.arcExport t h sel) s = .next (s.tick t)) ∧
    (∀ (h : Hdr) (sel : ArcSel), exec (.arcCompress t h sel) s = .next (s.tick t)) ∧
    (∀ (h : Hdr) (off len : Nat), exec (.arcRead t h off len) s = .next (s.tick t)) ∧
    (∀ (h : Hdr), exec (.jobCancel t h) s = .next (s.tick t)) ∧
    (∀ (h : Hdr) (port : Nat) (val : Word), exec (.laneTest t h port val) s = .next (s.tick t)) ∧
    (∀ (h : Hdr) (port : Nat), exec (.errInjSingle t h port) s = .next (s.tick t)) ∧
    (∀ (h : Hdr) (port : Nat), exec (.laneCtlRetrain t h port) s = .next (s.tick t)) ∧
    (∀ (h : Hdr) (port : Nat), exec (.laneCtlClear t h port) s = .next (s.tick t)) ∧
    (∀ (h : Hdr) (detach : Bool), exec (.streamAttach t h detach) s = .next (s.tick t)) ∧
    (∀ (h : Hdr) (id : Nat), exec (.topologyRead t h id) s = .next (s.tick t)) ∧
    (∀ (h : Hdr) (id : Nat), exec (.idRelease t h id) s = .next (s.tick t)) ∧
    exec (.locketCopy t) s = .next (s.tick t) ∧
    (∀ (h : Hdr) (prev : Bool), exec (.locketRead t h prev) s = .next (s.tick t)) ∧
    (∀ (h : Hdr) (mask : BitVec 128) (locket faultN : Bool), exec (.faultClear t h mask locket faultN) s =
        .next (s.tick t)) ∧
    (∀ (h : Hdr) (kind num : Nat), exec (.unfence t h kind num) s = .next (s.tick t)) ∧
    (∀ (kind num : Nat), exec (.unfenceComplete t kind num) s = .next (s.tick t)) ∧
    (∀ (h : Hdr) (kind num : Nat), exec (.fenceUnit t h kind num) s = .next (s.tick t)) ∧
    (∀ (h : Hdr), exec (.pairCtlYield t h) s = .next (s.tick t)) ∧
    (∀ (h : Hdr) (typ : Word) (target : Nat) (args : List Word), exec (.schedule t h typ target args) s =
        .next (s.tick t)) ∧
    (∀ (h : Hdr) (entry : Nat), exec (.actAccept t h entry) s = .next (s.tick t)) ∧
    exec (.actionArmCheck t) s = .next (s.tick t) ∧
    (∀ (h : Hdr) (entry : Nat), exec (.cancel t h entry) s = .next (s.tick t)) ∧
    (∀ (h : Hdr) (entry : Nat), exec (.actCancel t h entry) s = .next (s.tick t)) ∧
    (∀ (h : Hdr), exec (.updStatus t h) s = .next (s.tick t)) ∧
    (∀ (h : Hdr) (slot len : Nat), exec (.updOpen t h slot len) s = .next (s.tick t)) ∧
    exec (.slotEraseComplete t) s = .next (s.tick t) ∧
    (∀ (h : Hdr) (off : Nat) (bytes : List Byte), exec (.updWrite t h off bytes) s = .next (s.tick t)) ∧
    (∀ (h : Hdr) (slot : Nat), exec (.updVerify t h slot) s = .next (s.tick t)) ∧
    (∀ (h : Hdr) (burn : Bool), exec (.updConfirm t h burn) s = .next (s.tick t)) ∧
    (∀ (h : Hdr) (slot code : Nat), exec (.updBoot t h slot code) s = .next (s.tick t)) ∧
    (∀ (h : Hdr) (magic : Word), exec (.tapUnlock t h magic) s = .next (s.tick t)) ∧
    (∀ (h : Hdr), exec (.bistReport t h) s = .next (s.tick t)) ∧
    (∀ (h : Hdr) (id val : Word), exec (.registerWrite t h id val) s = .next (s.tick t)) ∧
    (∀ (h : Hdr) (items : List (Word × Word)), exec (.writeParam t h items) s = .next (s.tick t)) ∧
    (∀ (h : Hdr) (first : Word) (vals : List Word), exec (.writeRange t h first vals) s = .next (s.tick t)) ∧
    (∀ (h : Hdr) (ids : List Word), exec (.readParam t h ids) s = .next (s.tick t)) ∧
    (∀ (h : Hdr) (first : Word) (count : Nat), exec (.readRange t h first count) s = .next (s.tick t)) ∧
    (∀ (h : Hdr) (gen len : Nat), exec (.imgOpen t h gen len) s = .next (s.tick t)) ∧
    (∀ (h : Hdr) (off : Nat) (data : List Word), exec (.imgWrite t h off data) s = .next (s.tick t)) ∧
    (∀ (h : Hdr), exec (.imgVerify t h) s = .next (s.tick t)) ∧
    exec (.imgVerifyComplete t) s = .next (s.tick t) ∧
    (∀ (h : Hdr), exec (.imgAbort t h) s = .next (s.tick t)) ∧
    (∀ (h : Hdr) (store : Bool), exec (.imgCommit t h store) s = .next (s.tick t)) ∧
    exec (.hubIdWaitExpiry t) s = .next (s.tick t) ∧
    (∀ (results : List CalOut), exec (.powerupCalibrationEnd t results) s = .next (s.tick t))

/-- In recovery mode the ROM answers only its own opcodes -/
def Obligations.RecoveryAnswersBadOpcode : Prop :=
  ∀ (t : Nat) (s : State), (s.tick t).coreUp = true → (s.tick t).boot.phase = .recovery →
    (∀ (h : Hdr) (scope : Nat), exec (.fence t h scope) s = .next ((s.tick t).finish h 0x0102 stBadOpcode)) ∧
    (∀ (h : Hdr) (domain action lanes : Nat), exec (.pdCtl t h domain action lanes) s =
        .next ((s.tick t).finish h 0x0103 stBadOpcode)) ∧
    (∀ (h : Hdr) (cell : Nat) (val : Word), exec (.spAssign t h cell val) s =
        .next ((s.tick t).finish h opWriteParam stBadOpcode)) ∧
    (∀ (h : Hdr) (src : Nat), exec (.vwRead t h src) s = .next ((s.tick t).finish h 0x0301 stBadOpcode)) ∧
    (∀ (h : Hdr) (gait : Nat), exec (.swap t h gait) s = .next ((s.tick t).finish h opWriteParam stBadOpcode)) ∧
    (∀ (h : Hdr) (ch : Nat), exec (.redCloseAcc t h ch) s = .next ((s.tick t).finish h opWriteParam stBadOpcode)) ∧
    (∀ (h : Hdr) (ch : Nat), exec (.redCloseMm t h ch) s = .next ((s.tick t).finish h opWriteParam stBadOpcode)) ∧
    (∀ (h : Hdr) (ch : Nat), exec (.redLatchLive t h ch) s = .next ((s.tick t).finish h opWriteParam stBadOpcode)) ∧
    (∀ (h : Hdr) (ch : Nat), exec (.redLatchLast t h ch) s = .next ((s.tick t).finish h opWriteParam stBadOpcode)) ∧
    (∀ (h : Hdr) (ch : Nat), exec (.measCmd t h ch) s = .next ((s.tick t).finish h opWriteParam stBadOpcode)) ∧
    (∀ (h : Hdr) (ch : Nat), exec (.lastSampleRead t h ch) s = .next ((s.tick t).finish h 0x0200 stBadOpcode)) ∧
    (∀ (h : Hdr) (ch : Nat), exec (.lastCoarseRead t h ch) s = .next ((s.tick t).finish h 0x0200 stBadOpcode)) ∧
    (∀ (h : Hdr) (profile : Nat) (net : Bool), exec (.manual t h profile net) s =
        .next ((s.tick t).finish h opWriteParam stBadOpcode)) ∧
    (∀ (h : Hdr) (profile : Nat) (net : Bool), exec (.recordManual t h profile net) s =
        .next ((s.tick t).finish h 0x0400 stBadOpcode)) ∧
    (∀ (h : Hdr) (slot : Nat), exec (.rctl t h slot) s = .next ((s.tick t).finish h opWriteParam stBadOpcode)) ∧
    (∀ (h : Hdr) (slot : Nat), exec (.recordClose t h slot) s = .next ((s.tick t).finish h 0x0401 stBadOpcode)) ∧
    (∀ (h : Hdr), exec (.ntimeLatRead t h) s = .next ((s.tick t).finish h 0x0200 stBadOpcode)) ∧
    (∀ (h : Hdr) (val : Word), exec (.utc t h val) s = .next ((s.tick t).finish h opWriteParam stBadOpcode)) ∧
    (∀ (h : Hdr), exec (.timeRead t h) s = .next ((s.tick t).finish h 0x0502 stBadOpcode)) ∧
    (∀ (h : Hdr) (kind target : Nat), exec (.calRequest t h kind target) s =
        .next ((s.tick t).finish h 0x0600 stBadOpcode)) ∧
    (∀ (h : Hdr) (kind target : Nat), exec (.calReq t h kind target) s =
        .next ((s.tick t).finish h opWriteParam stBadOpcode)) ∧
    (∀ (h : Hdr) (val : Word), exec (.baseline t h val) s = .next ((s.tick t).finish h opWriteParam stBadOpcode)) ∧
    (∀ (h : Hdr) (test target : Nat), exec (.selfTest t h test target) s =
        .next ((s.tick t).finish h 0x0601 stBadOpcode)) ∧
    (∀ (h : Hdr) (test target : Nat), exec (.testReq t h test target) s =
        .next ((s.tick t).finish h opWriteParam stBadOpcode)) ∧
    (∀ (h : Hdr) (mask : Nat), exec (.osApply t h mask) s = .next ((s.tick t).finish h 0x0700 stBadOpcode)) ∧
    (∀ (h : Hdr) (os : Nat), exec (.osCtlApply t h os) s = .next ((s.tick t).finish h opWriteParam stBadOpcode)) ∧
    (∀ (h : Hdr) (os : Nat) (shorted : Bool), exec (.osCtlClear t h os shorted) s =
        .next ((s.tick t).finish h opWriteParam stBadOpcode)) ∧
    (∀ (h : Hdr) (val : Word), exec (.extTemp t h val) s = .next ((s.tick t).finish h opWriteParam stBadOpcode)) ∧
    (∀ (h : Hdr), exec (.qctlClearUnderrun t h) s = .next ((s.tick t).finish h opWriteParam stBadOpcode)) ∧
    (∀ (h : Hdr), exec (.qctlClearNotices t h) s = .next ((s.tick t).finish h opWriteParam stBadOpcode)) ∧
    (∀ (h : Hdr), exec (.qctlClearLost t h) s = .next ((s.tick t).finish h opWriteParam stBadOpcode)) ∧
    (∀ (h : Hdr), exec (.qctlClearReplyUnderrun t h) s = .next ((s.tick t).finish h opWriteParam stBadOpcode)) ∧
    (∀ (h : Hdr) (count : Nat) (ecc : List Ecc), exec (.eventRead t h count ecc) s =
        .next ((s.tick t).finish h 0x0800 stBadOpcode)) ∧
    (∀ (h : Hdr) (st : Nat), exec (.stCtlDetach t h st) s = .next ((s.tick t).finish h opWriteParam stBadOpcode)) ∧
    (∀ (h : Hdr) (st : Nat), exec (.stCtlAttach t h st) s = .next ((s.tick t).finish h opWriteParam stBadOpcode)) ∧
    (∀ (h : Hdr) (sel : ArcSel), exec (.arcExport t h sel) s = .next ((s.tick t).finish h 0x0801 stBadOpcode)) ∧
    (∀ (h : Hdr) (sel : ArcSel), exec (.arcCompress t h sel) s = .next ((s.tick t).finish h 0x0802 stBadOpcode)) ∧
    (∀ (h : Hdr) (off len : Nat), exec (.arcRead t h off len) s = .next ((s.tick t).finish h 0x0803 stBadOpcode)) ∧
    (∀ (h : Hdr), exec (.jobCancel t h) s = .next ((s.tick t).finish h 0x0804 stBadOpcode)) ∧
    (∀ (h : Hdr) (port : Nat) (val : Word), exec (.laneTest t h port val) s =
        .next ((s.tick t).finish h opWriteParam stBadOpcode)) ∧
    (∀ (h : Hdr) (port : Nat), exec (.errInjSingle t h port) s = .next ((s.tick t).finish h opWriteParam stBadOpcode)) ∧
    (∀ (h : Hdr) (port : Nat), exec (.laneCtlRetrain t h port) s =
        .next ((s.tick t).finish h opWriteParam stBadOpcode)) ∧
    (∀ (h : Hdr) (port : Nat), exec (.laneCtlClear t h port) s = .next ((s.tick t).finish h opWriteParam stBadOpcode)) ∧
    (∀ (h : Hdr) (detach : Bool), exec (.streamAttach t h detach) s = .next ((s.tick t).finish h 0x0900 stBadOpcode)) ∧
    (∀ (h : Hdr) (id : Nat), exec (.topologyRead t h id) s = .next ((s.tick t).finish h 0x0901 stBadOpcode)) ∧
    (∀ (h : Hdr) (id : Nat), exec (.idRelease t h id) s = .next ((s.tick t).finish h 0x0902 stBadOpcode)) ∧
    (∀ (h : Hdr) (prev : Bool), exec (.locketRead t h prev) s = .next ((s.tick t).finish h 0x0A00 stBadOpcode)) ∧
    (∀ (h : Hdr) (mask : BitVec 128) (locket faultN : Bool), exec (.faultClear t h mask locket faultN) s =
        .next ((s.tick t).finish h 0x0A01 stBadOpcode)) ∧
    (∀ (h : Hdr) (kind num : Nat), exec (.unfence t h kind num) s = .next ((s.tick t).finish h 0x0A02 stBadOpcode)) ∧
    (∀ (h : Hdr) (kind num : Nat), exec (.fenceUnit t h kind num) s = .next ((s.tick t).finish h 0x0A03 stBadOpcode)) ∧
    (∀ (h : Hdr), exec (.pairCtlYield t h) s = .next ((s.tick t).finish h opWriteParam stBadOpcode)) ∧
    (∀ (h : Hdr) (typ : Word) (target : Nat) (args : List Word), exec (.schedule t h typ target args) s =
        .next ((s.tick t).finish h 0x0500 stBadOpcode)) ∧
    (∀ (h : Hdr) (entry : Nat), exec (.actAccept t h entry) s = .next ((s.tick t).finish h opWriteParam stBadOpcode)) ∧
    (∀ (h : Hdr) (entry : Nat), exec (.cancel t h entry) s = .next ((s.tick t).finish h 0x0501 stBadOpcode)) ∧
    (∀ (h : Hdr) (entry : Nat), exec (.actCancel t h entry) s = .next ((s.tick t).finish h opWriteParam stBadOpcode)) ∧
    (∀ (h : Hdr) (burn : Bool), exec (.updConfirm t h burn) s = .next ((s.tick t).finish h 0x0C04 stBadOpcode)) ∧
    (∀ (h : Hdr) (id val : Word), exec (.registerWrite t h id val) s =
        .next ((s.tick t).finish h opWriteParam stBadOpcode)) ∧
    (∀ (h : Hdr) (items : List (Word × Word)), exec (.writeParam t h items) s =
        .next ((s.tick t).finish h opWriteParam stBadOpcode)) ∧
    (∀ (h : Hdr) (first : Word) (vals : List Word), exec (.writeRange t h first vals) s =
        .next ((s.tick t).finish h 0x0203 stBadOpcode)) ∧
    (∀ (h : Hdr) (ids : List Word), exec (.readParam t h ids) s = .next ((s.tick t).finish h 0x0200 stBadOpcode)) ∧
    (∀ (h : Hdr) (first : Word) (count : Nat), exec (.readRange t h first count) s =
        .next ((s.tick t).finish h 0x0202 stBadOpcode)) ∧
    (∀ (h : Hdr) (gen len : Nat), exec (.imgOpen t h gen len) s = .next ((s.tick t).finish h 0x0210 stBadOpcode)) ∧
    (∀ (h : Hdr) (off : Nat) (data : List Word), exec (.imgWrite t h off data) s =
        .next ((s.tick t).finish h 0x0211 stBadOpcode)) ∧
    (∀ (h : Hdr), exec (.imgVerify t h) s = .next ((s.tick t).finish h 0x0212 stBadOpcode)) ∧
    (∀ (h : Hdr), exec (.imgAbort t h) s = .next ((s.tick t).finish h 0x0214 stBadOpcode)) ∧
    (∀ (h : Hdr) (store : Bool), exec (.imgCommit t h store) s = .next ((s.tick t).finish h 0x0213 stBadOpcode))

/-- A counter saturates, raises one event and shows SAT -/
def Obligations.CountersSaturate : Prop :=
  ∀ (s : State) (id lo w n : Nat), twf 0 s.counts = true → lo < 32 → 1 ≤ w → id ≠ pid 0x08 0 6 →
    ((s.bumpBy id lo w n).count id lo = min (2 ^ w - 1) (s.count id lo + n)) ∧
    (s.count id lo < 2 ^ w - 1 → 2 ^ w - 1 ≤ s.count id lo + n →
      s.bumpBy id lo w n = (s.setCount id lo (2 ^ w - 1)).raise 0x10 [(id, 32), (lo, 5)]) ∧
    (¬(s.count id lo < 2 ^ w - 1 ∧ 2 ^ w - 1 ≤ s.count id lo + n) →
      s.bumpBy id lo w n = s.setCount id lo (min (2 ^ w - 1) (s.count id lo + n))) ∧
    (s.sat id lo w = true ↔ s.count id lo = 2 ^ w - 1) ∧
    (s.sat id 16 16 = true → s.cnt16 id = 0xFFFF8000) ∧ (s.sat id 0 31 = true → s.cnt31 id = 0xFFFFFFFF)

/-- How a new event enters the queue -/
def Obligations.EventAdmission : Prop :=
  ∀ (e : Ev) (q : List Ev) (used : Nat), q.Pairwise (fun x y => y.prio ≤ x.prio) → used ≤ 4096 →
    (used + e.words.length ≤ 4096 → (admitEv e used q).1.Perm (e :: q) ∧ (admitEv e used q).2 = 0) ∧
    (4096 < used + e.words.length →
      used + e.words.length ≤ 4096 + ((q.filter (fun x => x.prio < e.prio)).map (fun x => x.words.length)).sum →
      ∃ kept gone, q = kept ++ gone ∧ (∀ x ∈ gone, x.prio < e.prio) ∧ (admitEv e used q).1.Perm (e :: kept) ∧
        (admitEv e used q).2 = gone.length ∧
        used + e.words.length ≤ 4096 + (gone.map (fun x => x.words.length)).sum ∧
        ∀ x l, gone = x :: l → 4096 + (l.map (fun x => x.words.length)).sum < used + e.words.length) ∧
    (4096 + ((q.filter (fun x => x.prio < e.prio)).map (fun x => x.words.length)).sum < used + e.words.length →
      admitEv e used q = (q, 1)) ∧
    (admitEv e used q).1.Pairwise (fun x y => y.prio ≤ x.prio)

/-- A read of the empty event queue -/
def Obligations.EmptyQueueRead : Prop :=
  ∀ (s : State) (ecc : List Ecc), s.evCount = 0 → s.evq.reading = [] → s.evq.q = [] →
    s.readEntry ecc = ({ s with evq := { s.evq with underrun := true } }, s.evq.last, 0, ecc)

/-- A watermark asserts at SET and releases at CLR -/
def Obligations.WatermarkHysteresis : Prop :=
  (∀ (cfg level : Nat) (w : Watermark),
      (w.live = false → fld cfg 0 12 ≤ level → wmNext cfg level w = { w with live := true, up := true }) ∧
      (w.live = false → level < fld cfg 0 12 → wmNext cfg level w = w) ∧
      (w.live = true → level ≤ fld cfg 16 12 → wmNext cfg level w = { w with live := false, down := true }) ∧
      (w.live = true → fld cfg 16 12 < level → wmNext cfg level w = w)) ∧
    (∀ s : State, s.pd 15 = true → (s.fc0N = some false ↔ s.evq.wm0.live = true)) ∧
    (∀ s : State, s.pd 15 = false → s.fc0N = none ∧ s.fc1N = none ∧ s.irqN = none)

/-- The trailer of a packet -/
def Obligations.PacketTrailer : Prop :=
  (∀ i, i < 32 → bit 0x82F63B78 i = bit 0x1EDC6F41 (31 - i)) ∧
    (∀ b : List Byte, crc32c b = (b.foldl (fun c x => (List.range 8).foldl
        (fun c _ => if c % 2 = 1 then (c >>> 1) ^^^ 0x82F63B78 else c >>> 1) (c ^^^ x.toNat)) 0xFFFFFFFF) ^^^ 0xFFFFFFFF) ∧
    crc32c [0x31, 0x32, 0x33, 0x34, 0x35, 0x36, 0x37, 0x38, 0x39] = 0xE3069283 ∧
    (∀ b : List Byte, 4 ≤ b.length → (crcGood b = true ↔ ∃ body, b = body ++ be 4 (crc32c body))) ∧
    (∀ (s : State) (r : Reply), ∃ body, s.replyBytesOf r = body ++ be 4 (crc32c body))

/-- Which of the ready commands starts -/
def Obligations.NextCommandByPriority : Prop :=
  ∀ l : List Pkt, (pickPkt l = none ↔ l = []) ∧
    ∀ p, pickPkt l = some p → p ∈ l ∧ ∀ q ∈ l, q.h.prio < p.h.prio ∨ (q.h.prio = p.h.prio ∧ p.arrival ≤ q.arrival)

/-- ORD and the fences hold a command back -/
def Obligations.OrdWaitsForEarlier : Prop :=
  ∀ (t : Nat) (s u : State), u = s.tick t →
    (∀ p, pickPkt (u.cmds.waiting.filter u.ready) = some p →
      (p.ord = true → ∀ q ∈ u.cmds.waiting ++ u.cmds.started, q.safety = false → q.h.source = p.h.source →
        p.arrival ≤ q.arrival) ∧
      (∀ f ∈ u.cmds.fences, f.h.source = p.h.source → f.arrival < p.arrival → f.step = .out) ∧
      (∀ q ∈ u.cmds.waiting ++ u.cmds.started, q.holds = true → q.h.source = p.h.source → q.arrival < p.arrival →
        ∃ f ∈ u.cmds.fences, f.arrival = q.arrival)) ∧
    (∀ p, p.ord = false → (∀ f ∈ u.cmds.fences, f.h.source ≠ p.h.source) →
      (∀ q ∈ u.cmds.waiting ++ u.cmds.started, q.holds = true → q.h.source ≠ p.h.source) → u.ready p = true) ∧
    (∀ (op : Nat) (h : Hdr) (f : State → State), u.serves → u.waits h = true → packet op h t s f = .next u)

/-- When a reply is sent -/
def Obligations.RepliesFollowAckreq : Prop :=
  ∀ (s : State) (h : Hdr) (op st detail : Nat) (data : List Byte) (sf : Bool),
    ((h.ackreq = true ∨ data ≠ [] ∨ (st ≠ stOk ∧ st ≠ stAccepted)) →
      s.answer h op st detail data sf =
        (s.countAnswer st).queueReply ⟨h, op, st, detail, data, sf, (s.countAnswer st).cmds.epoch⟩) ∧
    (h.ackreq = false → data = [] → (st = stOk ∨ st = stAccepted) → s.answer h op st detail data sf = s.countAnswer st)

/-- The outcome of a host WRITE -/
def Obligations.HostWriteOutcomes : Prop :=
  ∀ (t stated : Nat) (b : List Byte) (s u : State), u = s.tick t → u.pd 15 = true →
    ((b.length ≠ stated ∨ stated < 20 ∨ 4096 < stated) →
      ∃ v, exec (.write t stated b) s = .next v ∧ v.cmds.last = 2 ∧ v.cmds.replies = u.cmds.replies ∧
        v.cmds.waiting = u.cmds.waiting ∧ v.cmds.started = u.cmds.started) ∧
    (b.length = stated → 20 ≤ stated → stated ≤ 4096 →
      (u.rxReady = false ∨ (u.coreUp = false ∧ pktSafety b = false) ∨ (.hostCore, 0) ∈ u.closed) →
      ∃ v, exec (.write t stated b) s = .next v ∧ v.cmds.last = 1 ∧ v.cmds.replies = u.cmds.replies ∧
        v.cmds.waiting = u.cmds.waiting ∧ v.cmds.started = u.cmds.started) ∧
    (b.length = stated → 20 ≤ stated → stated ≤ 4096 → u.rxReady = true → (u.coreUp = true ∨ pktSafety b = true) →
      (.hostCore, 0) ∉ u.closed →
      ∃ v, exec (.write t stated b) s = .next v ∧ v.cmds.last = 0 ∧
        (crcGood b = true → v = ((u.setLast 0).takePacket 6 b).shift u.statusWord) ∧
        (crcGood b = true → u.packetStatus 6 b = stOk → pktSafety b = true →
          v.cmds.started = u.cmds.started ++ [pktOf 6 u.cmds.arrivals b]) ∧
        (crcGood b = true → u.packetStatus 6 b = stOk → pktSafety b = false → u.roomFor (hdrOf 6 b) = true →
          v.cmds.waiting = u.cmds.waiting ++ [pktOf 6 u.cmds.arrivals b]) ∧
        (crcGood b = false →
          v = ((((u.setLast 0).bump (pid 0x01 0 0x300) 0 31).answer (hdrOf 6 b) (fbe b 2 2) stBadCrc 0 []
            (pktSafety b))).shift u.statusWord))

/-- READ_REPLY removes a reply only when all of it was clocked -/
def Obligations.ReadReplyRemovesWhole : Prop :=
  ∀ (t n : Nat) (ecc : List Ecc) (s u w : State), u = s.tick t → u.pd 15 = true → w = u.holdRead ecc →
    (∀ (r : Reply) (rest : List Reply), ecc.contains .bad = false → u.cmds.replies = r :: rest → (u.replyBytesOf r).length ≤ n →
      ∃ v, exec (.readReply t n ecc) s = .next v ∧ v.cmds.replies = rest ∧
        v.cmds.miso = w.statusWord ++ u.replyBytesOf r ++ zeros (n - (u.replyBytesOf r).length)) ∧
    (∀ (r : Reply) (rest : List Reply), ecc.contains .bad = false → u.cmds.replies = r :: rest →
      n < (u.replyBytesOf r).length →
      ∃ v, exec (.readReply t n ecc) s = .next v ∧ v.cmds.replies = u.cmds.replies ∧
        v.cmds.miso = w.statusWord ++ (u.replyBytesOf r).take n) ∧
    (u.cmds.replies = [] →
      ∃ v, exec (.readReply t n ecc) s = .next v ∧ v.cmds.replies = [] ∧ v.cmds.miso = u.statusWord ++ zeros n)

/-- A range command steps the item field -/
def Obligations.RangeCommands : Prop :=
  (∀ (first : Word) (n i : Nat), rangeOk first.toNat n = true → i < n →
      pidBlock (first.toNat + i) = pidBlock first.toNat ∧ pidInst (first.toNat + i) = pidInst first.toNat ∧
        pidItem (first.toNat + i) = pidItem first.toNat + i) ∧
    (∀ (first : Word) (n : Nat), rangeOk first.toNat n = true ↔ pidItem first.toNat + n ≤ 0x1000) ∧
    (∀ (t : Nat) (h : Hdr) (first : Word) (n : Nat) (s u : State), u = s.tick t → u.serves → u.waits h = false →
      0xFFF < pidItem first.toNat + n - 1 →
      exec (.readRange t h first n) s = .next (u.finish h 0x0202 stParamRange)) ∧
    (∀ (t : Nat) (h : Hdr) (first : Word) (vals : List Word) (s u : State), u = s.tick t → u.serves → u.waits h = false →
      0xFFF < pidItem first.toNat + vals.length - 1 →
      exec (.writeRange t h first vals) s = .next (u.finish h 0x0203 stParamRange)) ∧
    (∀ (t : Nat) (h : Hdr) (first : Word) (n : Nat) (s u : State), u = s.tick t → u.serves → u.waits h = false → 1 ≤ n → n ≤ 1018 →
      rangeOk first.toNat n = true →
      exec (.readRange t h first n) s = .next (u.readSet h 0x0202 ((List.range n).map (fun i => first.toNat + i)))) ∧
    (∀ (t : Nat) (h : Hdr) (first : Word) (vals : List Word) (s u : State), u = s.tick t → u.serves → u.waits h = false →
      1 ≤ vals.length → vals.length ≤ 1017 → rangeOk first.toNat vals.length = true →
      exec (.writeRange t h first vals) s = .next (u.writeSet h 0x0203
        (vals.zipIdx.map (fun x => (first.toNat + x.2, x.1.toNat)))))

/-- A set of writes with a rejected item applies none of it -/
def Obligations.RejectedSetsApplyNothing : Prop :=
  ∀ (t : Nat) (h : Hdr) (s u : State), u = s.tick t → u.serves → u.waits h = false →
    (∀ (items : List (Word × Word)) (l : List (Nat × Nat)) (st i : Nat), 1 ≤ items.length → items.length ≤ 509 →
      l = items.map (fun x => (x.1.toNat, x.2.toNat)) → u.setFailure l = some (st, i) →
      exec (.writeParam t h items) s = .next ((u.noteFailure (u.resulting l) (l.getD i (0, 0))).finish h opWriteParam st i) ∧
        (pidBlock (l.getD i (0, 0)).1 ≠ 0x02 → u.noteFailure (u.resulting l) (l.getD i (0, 0)) = u)) ∧
    (∀ (id val : Word), descOf id.toNat = none → deferredItem id.toNat = false →
      u.setFailure [(id.toNat, val.toNat)] = some (stParamRange, 0)) ∧
    (∀ (id val : Word) (d : Desc), descOf id.toNat = some d → d.acc = .ro →
      (heldBlock (pidBlock id.toNat) = false ∨ u.running = true) → u.setFailure [(id.toNat, val.toNat)] = some (stDenied, 0)) ∧
    (∀ (id : Word) (d : Desc), descOf id.toNat = some d → d.acc = .wo →
      exec (.readParam t h [id]) s = .next (u.finish h 0x0200 stDenied)) ∧
    (∀ id : Word, descOf id.toNat = none → exec (.readParam t h [id]) s = .next (u.finish h 0x0200 stParamRange))

/-- What a hub in HELD refuses -/
def Obligations.HeldHubRefuses : Prop :=
  ∀ (t : Nat) (h : Hdr) (s u : State), u = s.tick t → u.serves → u.waits h = false → u.running = false →
    (∀ (id val : Word), (descOf id.toNat).isSome = true → (pidBlock id.toNat = 6 ∨ pidBlock id.toNat = 7 ∨
        (0x10 ≤ pidBlock id.toNat ∧ pidBlock id.toNat ≤ 0x17)) →
      exec (.registerWrite t h id val) s = .next (u.finish h opWriteParam stNotCommitted)) ∧
    (∀ src, src < 192 → exec (.vwRead t h src) s = .next (u.finish h 0x0301 stNotCommitted)) ∧
    (∀ profile net, exec (.recordManual t h profile net) s = .next (u.finish h 0x0400 stNotCommitted)) ∧
    (∀ slot, exec (.recordClose t h slot) s = .next (u.finish h 0x0401 stNotCommitted)) ∧
    (∀ mask, exec (.osApply t h mask) s = .next (u.finish h 0x0700 stNotCommitted)) ∧
    (∀ ch, exec (.calRequest t h 1 ch) s = .next (u.finish h 0x0600 stNotCommitted)) ∧
    (∀ ch, exec (.selfTest t h 1 ch) s = .next (u.finish h 0x0601 stNotCommitted)) ∧
    (∀ n, 2 ≤ (u.act n).kind → (u.act n).kind ≤ 6 → (u.acceptStatus n).1 = stNotCommitted)

/-- Pieces of an image may overlap and come in any order -/
def Obligations.ImagePiecesReadBack : Prop :=
  ∀ (ws : List Word) (first k : Nat) (t : Tbl Word),
    (k < first ∨ first + ws.length ≤ k → tfind (putWords ws first t) k = tfind t k) ∧
    (∀ i, i < ws.length → tfind (putWords ws first t) (first + i) = ws[i]?)

/-- A source whose pair returns to inactive keeps what it latched -/
def Obligations.InactivePairKeepsLatch : Prop :=
  ∀ (t src : Nat) (s u : State), u = s.tick t → src < 115 → src ≠ 99 → twf {} (u.wireMends src).faults.srcs = true →
    u.pairIgnored src = false → (u.fsrc src).latched = true → ((u.wireMends src).fsrc src).active = true →
    ∃ v, exec (.faultPairInactive t src) s = .next v ∧ (v.fsrc src).active = false ∧ (v.fsrc src).latched = true ∧
      (v.fsrc src).severe = ((u.wireMends src).fsrc src).severe ∧
      (v.fsrc src).detail = ((u.wireMends src).fsrc src).detail ∧ v.faults.locket = (u.wireMends src).faults.locket

/-- What FAULT_CLEAR clears -/
def Obligations.FaultClearClearsWhatItMay : Prop :=
  ∀ (t : Nat) (h : Hdr) (mask : BitVec 128) (locket faultN : Bool) (s u : State), u = s.tick t → u.serves → u.waits h = false →
    twf {} u.faults.srcs = true →
    ∃ v : State, exec (.faultClear t h mask locket faultN) s = .next (v.finish h 0x0A01 stOk (v.leftLatched (maskSrcs mask))) ∧
      (∀ n, n ∈ maskSrcs mask → (u.fsrc n).active = false → safetyClass n = false →
        (v.fsrc n).latched = false ∧ ((u.fsrc n).latched = true → (v.fsrc n).severe = false)) ∧
      (∀ n, (n ∉ maskSrcs mask ∨ (u.fsrc n).active = true ∨ safetyClass n = true) → v.fsrc n = u.fsrc n) ∧
      v.faults.cells = u.faults.cells ∧ v.faults.ports = u.faults.ports ∧ v.faults.quads = u.faults.quads ∧
      v.faults.stores = u.faults.stores ∧
      (locket = true → v.faults.locket = {} ∧ v.faults.copied = false) ∧
      (locket = false → v.faults.locket = u.faults.locket ∧ v.faults.copied = u.faults.copied)

/-- CONFIRM_SIGNET and SAFETY_RESET by connection -/
def Obligations.SafetyCommandsNeedControl : Prop :=
  (∀ (s : State) (op c : Nat) (b : List Byte), (op = 0x0B01 ∨ op = 0x0B02) → fbe b 1 1 = 3 →
      bit (s.nslCfg c) 19 = false → twf {} s.safety.conns = true →
      (s.nslTake op c b).1 = (s.nslTake 0x0B00 c b).1 ∧ (s.nslTake op c b).2.1 = stDenied ∧
        (s.nslTake op c b).2.2 = nslFrame 3 (((s.nsl c).tx + 1) % 2 ^ 16) (fbe b 4 4) (s.nslWd c)
          ((s.nslTake op c b).1.nslPayload (fbe b 12 1) 1) ∧
        ((s.nslTake op c b).1.nsl c).rx = fbe b 2 2) ∧
    (∀ (s : State) (c arg : Nat), bit (s.nslCfg c) 19 = true → s.running = true → arg = s.safety.signet.toNat →
      (s.nslCommand 0x0B01 c arg).1.safety.confirmed = true ∧
        (s.nslCommand 0x0B01 c arg).1.boot.signetConf = some s.safety.signet ∧
        (s.nslCommand 0x0B01 c arg).2 = (0, stOk)) ∧
    (∀ (s : State) (c arg : Nat), bit (s.nslCfg c) 19 = true → (s.running = false ∨ arg ≠ s.safety.signet.toNat) →
      s.nslCommand 0x0B01 c arg =
        ((s.report 107 2).raise 0x55 [(3, 2), (arg, 32)], 2, stSignetMismatch))

/-- When the update opcodes are refused -/
def Obligations.UpdateRefusals : Prop :=
  ∀ (t : Nat) (h : Hdr) (s u : State), u = s.tick t → u.coreUp = true → u.waits h = false →
    (∀ slot len, slot < 2 → (slot = u.boot.running ∨ slot = u.boot.active ∨
        (∃ k, k < 64 ∧ (u.act k).busy = true ∧ (u.act k).kind = 8 ∧ (u.act k).arg 0 = slot)) →
      exec (.updOpen t h slot len) s = .next (u.finish h 0x0C01 stDenied)) ∧
    (∀ slot len, slot < 2 → (u.fw (1 - slot)).st = .opened → (u.fw (1 - slot)).owner ≠ some (ownerOf h) →
      exec (.updOpen t h slot len) s = .next (u.finish h 0x0C01 stDenied)) ∧
    (∀ slot len, slot < 2 → u.updOpenStatus h slot 0 = stOk → (8 * 1024 * 1024 < len ∨ len % 4 ≠ 0) →
      exec (.updOpen t h slot len) s = .next (u.finish h 0x0C01 stParamRange)) ∧
    (∀ off bytes, (∀ n, n < 2 → ¬((u.fw n).st = .opened ∧ (u.fw n).owner = some (ownerOf h))) →
      exec (.updWrite t h off bytes) s = .next (u.finish h 0x0C02 stDenied)) ∧
    (∀ off bytes n, u.openSlot h = some n → (u.fw n).len < off + bytes.length →
      exec (.updWrite t h off bytes) s = .next (u.finish h 0x0C02 stParamRange)) ∧
    (∀ slot, slot < 2 → (u.fw slot).st ≠ .written → (u.fw slot).st ≠ .verified →
      exec (.updVerify t h slot) s = .next (u.finish h 0x0C03 stDenied)) ∧
    (u.boot.phase ≠ .recovery → (2 ≤ u.boot.running ∨ (u.fw u.boot.running).st ≠ .trial ∨ u.boot.nonActive = true) →
      ∀ burn, exec (.updConfirm t h burn) s = .next (u.finish h 0x0C04 stDenied)) ∧
    (∀ slot code, u.boot.phase ≠ .recovery → exec (.updBoot t h slot code) s = .next (u.finish h 0x0C05 stDenied)) ∧
    (∀ slot code, u.boot.phase = .recovery → slot < 2 → code % 16 ≠ 0 → exec (.updBoot t h slot code) s =
      .next ((u.modFw slot (fun w => { w with code := code % 16 })).finish h 0x0C05 stParamRange)) ∧
    (∀ slot c keyOk sigOk, slot < 2 → u.hasWork (fun w => w == .slotVerify slot) = true →
      slotCode (u.fw slot).image u.boot.fuses keyOk sigOk = c → c ≠ 0 →
      ∃ v, exec (.updVerifyComplete t slot keyOk sigOk) s =
        .next ((v.setSlot slot .bad).finalReply (.slotVerify slot) stParamRange 0 (be 1 c)) ∧
        v = u.modFw slot (fun w => { w with
          code := c
          version := BitVec.ofNat 32 (fbe (u.fw slot).image 8 4)
          sv := fbe (u.fw slot).image 5 1 })) ∧
    (∀ off bytes n v, u.openSlot h = some n → off % 4 = 0 → off + bytes.length ≤ (u.fw n).len →
      v = u.modFw n (fun w => { w with bytes := putBytes bytes off w.bytes }) →
      (v.fw n).bytes.length = (v.fw n).len →
      exec (.updWrite t h off bytes) s = .next ((v.setSlot n .written).finish h 0x0C02 stOk))

/-- The word of a sample -/
def Obligations.SampleWords : Prop :=
  (∀ v : Rat, |(rneQ v : Rat) - v| ≤ 1 / 2 ∧ (|(rneQ v : Rat) - v| = 1 / 2 → rneQ v % 2 = 0)) ∧
    (∀ (n : Nat) (v : Rat), 2 ≤ n → |(fmtRound n v).1| ≤ 2 ^ (n - 1) - 1 ∧
      ((fmtRound n v).2 = false ↔ |rneQ v| ≤ 2 ^ (n - 1) - 1) ∧ ((fmtRound n v).2 = false → (fmtRound n v).1 = rneQ v) ∧
      ((fmtRound n v).2 = true → |(fmtRound n v).1| = 2 ^ (n - 1) - 1 ∧ 0 < (fmtRound n v).1 * rneQ v)) ∧
    (∀ (flags : Bool) (v : Rat) (fl : BitVec 8), (fmtWord 0 flags v fl).toInt = (fmtRound 32 v).1 ∧
      fmtWord 2 flags v fl = fmtWord 0 flags v fl ^^^ 0x80000000 ∧
      (fmtWord 1 flags v fl).toInt = (fmtRound 24 (v / 256)).1 * 256 + (if flags then fl.toNat else 0)) ∧
    ∀ (s u : State) (ch : Nat) (p : Pend) (v x : Rat) (h : Head) (fl : BitVec 8) (w : RingWord),
      p.cause = 0 → p.v = some v → u = (if s.redEn ch 2 then s else s.closeGrid ch).takeMarks ch p.t →
      h = u.formed ch p.head → x = inLsb p.gain v →
      fl = p.fl ||| (if fmtClips h.fmt x then flClip else 0) →
      w = { seq := p.seq, t := p.t, w := fmtWord h.fmt h.flags x fl, fl := fl, x := s32r x, gain := p.gain, head := h } →
      s.deliverOne ch p = ((u.modChan ch (fun c => { c with lastWord := w })).slotIn ch w).slotValues ch true
        ((s32r x).tdiv (2 ^ p.gain)) (hasFl fl flSettle) p.t
end

