-- ==== Sys2Proof/Laws/Answers.lean ====
section
/-! SUPPORT. Counting, raising events and answering a command leave the rest of the hub alone (R362, R367, R372). -/

set_option Elab.async false

namespace Sys2Proof.Machine

@[simp] theorem beside_mk (time rein acts sets late cfg status counts evq cmds pdOn pdGood switches closed chans cells srcs gaits trig
    hold stores arc lanes links net faults core pair safety cal opt image boot ident tap free pending) :
    State.beside ⟨time, rein, acts, sets, late, cfg, status, counts, evq, cmds, pdOn, pdGood, switches, closed, chans, cells, srcs,
      gaits, trig, hold, stores, arc, lanes, links, net, faults, core, pair, safety, cal, opt, image, boot, ident, tap, free,
      pending⟩ =
    ⟨time, rein, acts, sets, late, cfg, status, [], {}, {}, pdOn, pdGood, switches, closed, chans, cells, srcs, gaits, trig, {}, stores,
      {}, lanes, links, net, faults, core, pair, safety, cal, opt, image, boot, ident, tap, 0, pending⟩ := rfl

theorem beside_ite (c : Prop) [Decidable c] (a b : State) :
    (if c then a else b).beside = if c then a.beside else b.beside := by
  split <;> rfl

theorem beside_forAll {α : Type} (l : List α) (f : State → α → State) (s : State) (h : ∀ s x, (f s x).beside = s.beside) :
    (forAll l f s).beside = s.beside := by
  induction l generalizing s with
  | nil => rfl
  | cons x r ih => exact (ih (f s x)).trans (h s x)

@[simp] theorem setCount_beside (s : State) (id lo v : Nat) : (s.setCount id lo v).beside = s.beside := rfl
@[simp] theorem updWm_beside (s : State) : s.updWm.beside = s.beside := rfl
@[simp] theorem takeFree_beside (s : State) : s.takeFree.2.beside = s.beside := rfl

@[simp] theorem putEv_beside (s : State) (c : Nat) (f : List (Nat × Nat)) : (s.putEv c f).1.beside = s.beside := by
  simp only [State.putEv]
  split <;> rfl

@[simp] theorem countLost_beside (s : State) (n : Nat) : (s.countLost n).beside = s.beside := by
  simp only [State.countLost]
  split <;> simp

@[simp] theorem raise_beside (s : State) (c : Nat) (f : List (Nat × Nat)) : (s.raise c f).beside = s.beside := by
  simp [State.raise]

@[simp] theorem bumpBy_beside (s : State) (id lo w n : Nat) : (s.bumpBy id lo w n).beside = s.beside := by
  simp only [State.bumpBy]
  split <;> simp

@[simp] theorem bump_beside (s : State) (id lo w : Nat) : (s.bump id lo w).beside = s.beside := by
  simp [State.bump]

@[simp] theorem countCorr_beside (s : State) (id : Nat) (ecc : List Ecc) : (s.countCorr id ecc).beside = s.beside := by
  unfold State.countCorr
  induction ecc.filter (· == .corrected) generalizing s with
  | nil => rfl
  | cons e r ih => simp [ih]

@[simp] theorem holdRead_beside (s : State) (ecc : List Ecc) : (s.holdRead ecc).beside = s.beside := by
  simp [State.holdRead]

@[simp] theorem countAnswer_beside (s : State) (st : Nat) : (s.countAnswer st).beside = s.beside := by
  unfold State.countAnswer
  split
  · simp
  · split <;> simp

@[simp] theorem joinRegion_beside (s : State) (r : Reply) : (s.joinRegion r).beside = s.beside := by
  simp only [State.joinRegion]
  (repeat' split)
  · rw [updWm_beside]
    rfl
  · rfl
  · rfl

@[simp] theorem queueReply_beside (s : State) (r : Reply) : (s.queueReply r).beside = s.beside := by
  simp only [State.queueReply]
  (repeat' split)
  · rfl
  · rw [updWm_beside]
    rfl
  · rfl
  · simp

@[simp] theorem answer_beside (s : State) (h : Hdr) (o st d : Nat) (x : List Byte) (b : Bool) :
    (s.answer h o st d x b).beside = s.beside := by
  simp only [State.answer]
  split <;> simp

@[simp] theorem enterBlk_beside (s : State) (b : Blk) : (s.enterBlk b).beside = s.beside := by
  simp only [State.enterBlk]
  split
  · simp
  · rw [updWm_beside]
    split <;> rfl

@[simp] theorem closeOpen_beside (s : State) (ch : Nat) (k : Option Nat) : (s.closeOpen ch k).beside = s.beside := by
  unfold State.closeOpen
  split
  · rfl
  · split
    · rfl
    · rw [enterBlk_beside]
      rfl

@[simp] theorem closeAllOpen_beside (s : State) : s.closeAllOpen.beside = s.beside :=
  beside_forAll _ _ _ (fun s b => closeOpen_beside s b.ch b.slot)

@[simp] theorem fenceDone_beside (s : State) (f : Fence) : (s.fenceDone f).beside = s.beside := by
  unfold State.fenceDone
  exact (show _ = ((s.dropFence f).answer f.h 0x0102 stOk 0 []).beside from rfl).trans (by rw [answer_beside]; rfl)

@[simp] theorem fenceOutStep_beside (s : State) (f : Fence) : (s.fenceOutStep f).beside = s.beside := by
  unfold State.fenceOutStep
  split
  · exact (show _ = s.closeAllOpen.beside from rfl).trans (closeAllOpen_beside s)
  · exact fenceDone_beside s f

@[simp] theorem fenceCfgStep_beside (s : State) (f : Fence) : (s.fenceCfgStep f).beside = s.beside := by
  unfold State.fenceCfgStep
  split
  · rfl
  · exact fenceOutStep_beside s f

@[simp] theorem runFences_beside (n : Nat) (s : State) : (State.runFences n s).beside = s.beside := by
  induction n generalizing s with
  | zero => rfl
  | succ n ih =>
    simp only [State.runFences]
    split
    · rfl
    · rw [ih, fenceCfgStep_beside]

@[simp] theorem complete_beside (s : State) (h : Hdr) (o : Nat) : (s.complete h o).beside = s.beside := by
  simp only [State.complete]
  rw [runFences_beside]
  rfl

/-- Answering and completing a command leaves the rest of the hub alone. -/
@[simp] theorem finish_beside (s : State) (h : Hdr) (o st d : Nat) (x : List Byte) :
    (s.finish h o st d x).beside = s.beside := by
  simp [State.finish]

@[simp] theorem accept_beside (s : State) (h : Hdr) (o : Nat) (w : Work) : (s.accept h o w).beside = s.beside := by
  exact (show _ = (s.finish h o stAccepted).beside from rfl).trans (by simp)

@[simp] theorem finalReply_beside (s : State) (w : Work) (st d : Nat) (x : List Byte) :
    (s.finalReply w st d x).beside = s.beside := by
  unfold State.finalReply
  split
  · rfl
  · dsimp only
    rw [answer_beside]
    rfl

end Sys2Proof.Machine
end

