-- ==== Sys2Proof/Laws/Bytes.lean ====
section
/-! SUPPORT. Bytes, most significant first, and the numbers they spell. -/

set_option Elab.async false

namespace Sys2Proof.Machine

theorem be_length (n v : Nat) : (be n v).length = n := by
  induction n generalizing v with
  | zero => rfl
  | succ n ih => simp [be, ih]

theorem unbe_append (a b : List Byte) : unbe (a ++ b) = unbe a * 256 ^ b.length + unbe b := by
  unfold unbe
  have key : ∀ (b : List Byte) (k : Nat), b.foldl (fun a x => a * 256 + x.toNat) k = k * 256 ^ b.length + b.foldl (fun a x => a * 256 + x.toNat) 0 := by
    intro b
    induction b with
    | nil => intro k; simp
    | cons x r ih => intro k; simp only [List.foldl, List.length_cons]; rw [ih, ih (0*256 + x.toNat)]; ring
  rw [List.foldl_append, key b]

theorem unbe_be (n v : Nat) : unbe (be n v) = v % 256 ^ n := by
  induction n generalizing v with
  | zero => simp [be, unbe, Nat.mod_one]
  | succ n ih =>
    show unbe ([BitVec.ofNat 8 (v >>> (8 * n))] ++ be n v) = _
    rw [unbe_append, ih, be_length]
    simp only [unbe, List.foldl, BitVec.toNat_ofNat, Nat.shiftRight_eq_div_pow]
    rw [show (2:Nat)^8 = 256 by norm_num, show 2^(8*n) = 256^n by rw [pow_mul]; norm_num]
    have : v % 256^(n+1) = v % 256^n + 256^n * (v / 256^n % 256) := by rw [pow_succ]; exact Nat.mod_mul
    rw [this]; ring

theorem be_unbe (b : List Byte) : be b.length (unbe b) = b := by
  induction b with
  | nil => rfl
  | cons x r ih =>
    show BitVec.ofNat 8 (unbe ([x] ++ r) >>> (8 * r.length)) :: be r.length (unbe ([x] ++ r)) = x :: r
    have hlt : unbe r < 256 ^ r.length := by
      rw [← ih, unbe_be, be_length]; exact Nat.mod_lt _ (Nat.pow_pos (by norm_num))
    have e : unbe ([x] ++ r) = x.toNat * 256 ^ r.length + unbe r := by rw [unbe_append]; simp [unbe]
    have h1 : unbe ([x] ++ r) >>> (8 * r.length) = x.toNat := by
      rw [e, Nat.shiftRight_eq_div_pow, show 2^(8*r.length) = 256^r.length by rw [pow_mul]; norm_num]
      rw [Nat.mul_comm, Nat.mul_add_div (by positivity), Nat.div_eq_of_lt hlt]; rfl
    have h2 : be r.length (unbe ([x] ++ r)) = be r.length (unbe r) := by
      have : ∀ (n a b : Nat), a % 256 ^ n = b % 256 ^ n → be n a = be n b := by
        intro n
        induction n with
        | zero => intro a b _; rfl
        | succ n ih =>
          intro a b h
          have hn : a % 256^n = b % 256^n := by
            have := congrArg (· % 256^n) h
            simpa [pow_succ, Nat.mod_mul_right_mod] using this
          show BitVec.ofNat 8 (a >>> (8*n)) :: be n a = BitVec.ofNat 8 (b >>> (8*n)) :: be n b
          rw [ih _ _ hn]
          congr 1
          apply BitVec.eq_of_toNat_eq
          simp only [BitVec.toNat_ofNat, Nat.shiftRight_eq_div_pow]
          rw [show 2^(8*n) = 256^n by rw [pow_mul]; norm_num, show (2:Nat)^8 = 256 by norm_num]
          have ha : a % 256^(n+1) / 256^n = a / 256^n % 256 := by rw [pow_succ]; exact Nat.mod_mul_right_div_self a (256^n) 256
          have hb : b % 256^(n+1) / 256^n = b / 256^n % 256 := by rw [pow_succ]; exact Nat.mod_mul_right_div_self b (256^n) 256
          rw [← ha, ← hb, h]
      apply this
      rw [e, Nat.mul_add_mod']
    rw [h1, h2, ih]; simp

/-- A CRC-32C fits its four bytes (R346). -/
theorem crc32c_lt (b : List Byte) : crc32c b < 2 ^ 32 := by
  have hb : ∀ c, c < 2^32 → crcBit 0x82F63B78 c < 2^32 := by
    intro c h; unfold crcBit
    have h1 : c >>> 1 < 2^32 := by rw [Nat.shiftRight_eq_div_pow]; omega
    split
    · exact Nat.xor_lt_two_pow h1 (by norm_num)
    · exact h1
  have hy : ∀ c (x : Byte), c < 2^32 → crcByte 0x82F63B78 c x < 2^32 := by
    intro c x h
    have : c ^^^ x.toNat < 2^32 := Nat.xor_lt_two_pow h (by have := x.isLt; omega)
    unfold crcByte
    exact hb _ (hb _ (hb _ (hb _ (hb _ (hb _ (hb _ (hb _ this)))))))
  have hf : ∀ (b : List Byte) c, c < 2^32 → b.foldl (crcByte 0x82F63B78) c < 2^32 := by
    intro b
    induction b with
    | nil => intro c h; exact h
    | cons x r ih => intro c h; exact ih _ (hy _ _ h)
  exact Nat.xor_lt_two_pow (hf b _ (by norm_num)) (by norm_num)

end Sys2Proof.Machine
end

