-- ==== Sys2Proof/Laws/Dsp.lean ====
section
/-! SUPPORT. The arithmetic of the sample stream: rounding to the nearest integer, and how many values each operation over a
base-rate period gives (R118, R119, R124, R147, R631). -/

set_option Elab.async false

namespace Sys2Proof.Machine

@[simp] theorem movingSum_length (n : Nat) (xs : List Int) : (movingSum n xs).length = xs.length + n - 1 := by
  simp [movingSum]

theorem cicTaps_length : cicTaps.length = 1276 := by simp [cicTaps]

theorem sincTaps_length : sincTaps.length = 2045 := by simp [sincTaps]

@[simp] theorem modSamples_length (xs : List Int) : (modSamples xs).length = 256 := by
  simp [modSamples]
  omega

@[simp] theorem lastPeriods_length (n : Nat) (ps : List BasePer) : (lastPeriods n ps).length = n := by
  simp [lastPeriods]
  omega

@[simp] theorem between_length (a b : Rat) (n : Nat) : (between a b n).length = n := by simp [between]

/-- What rne leaves over: less than half away, or half away and even. -/
theorem rne_rem (a : Int) (b : Nat) (hb : 0 < b) :
    2 * (a - b * rne a b).natAbs < b ∨ (2 * (a - b * rne a b).natAbs = b ∧ rne a b % 2 = 0) := by
  have e := Int.mul_ediv_add_emod a b
  have r0 := Int.emod_nonneg a (show (b : Int) ≠ 0 by omega)
  have r1 := Int.emod_lt_of_pos a (show (0 : Int) < b by omega)
  simp only [rne]
  generalize a / (b : Int) = q at *
  generalize a % (b : Int) = r at *
  have h0 : a - b * q = r := by omega
  have h1 : a - b * (q + 1) = r - b := by
    rw [mul_add]
    omega
  (repeat' split) <;> simp only [h0, h1] <;> omega

/-- A rational rounds to an integer at most one half away. -/
theorem rneQ_rem (x : Rat) : 2 * (x.num - x.den * rneQ x).natAbs ≤ x.den := by
  rcases rne_rem x.num x.den x.den_pos with h | h
  · exact h.le
  · exact h.1.le

end Sys2Proof.Machine
end

