-- ==== Sys2Proof/Laws/Tables.lean ====
section
/-! SUPPORT. The sparse tables: what is read after a write, and that writing keeps the canonical form. -/

set_option Elab.async false

namespace Sys2Proof.Machine

variable {α : Type}

@[simp] theorem tfind_tput_same (t : Tbl α) (k : Nat) (v : α) : tfind (tput t k v) k = some v := by
  induction t with
  | nil => simp [tput, tfind]
  | cons e r ih =>
    obtain ⟨j, w⟩ := e
    simp only [tput]
    split
    · simp [tfind]
    · split
      · simp [tfind]
      · simp [tfind, *]

theorem tfind_tput_other (t : Tbl α) (k m : Nat) (v : α) (h : m ≠ k) : tfind (tput t k v) m = tfind t m := by
  induction t with
  | nil => simp [tput, tfind, Ne.symm h]
  | cons e r ih =>
    obtain ⟨j, w⟩ := e
    simp only [tput]
    split
    · simp [tfind, Ne.symm h]
    · split
      · subst j
        simp [tfind, Ne.symm h]
      · simp [tfind, ih]

theorem tfind_tdel_other (t : Tbl α) (k m : Nat) (h : m ≠ k) : tfind (tdel t k) m = tfind t m := by
  induction t with
  | nil => rfl
  | cons e r ih =>
    obtain ⟨j, w⟩ := e
    simp only [tdel]
    split
    · subst j
      simp [tfind, Ne.symm h]
    · simp [tfind, ih]

/-- A write leaves every other key alone. -/
theorem tget_tset_other [DecidableEq α] (d : α) (t : Tbl α) (k m : Nat) (v : α) (h : m ≠ k) :
    tget d (tset d t k v) m = tget d t m := by
  unfold tget tset
  split
  · rw [tfind_tdel_other t k m h]
  · rw [tfind_tput_other t k m v h]

/-- A write of anything but the default is read back, whatever the table. -/
theorem tget_tset_ne [DecidableEq α] (d : α) (t : Tbl α) (k : Nat) (v : α) (h : v ≠ d) :
    tget d (tset d t k v) k = v := by
  simp [tget, tset, h]

/-- Every key of the table is beyond k. -/
theorem tfind_none_of_lt (t : Tbl α) (k : Nat) (h : ∀ e ∈ t, k < e.1) : tfind t k = none := by
  induction t with
  | nil => rfl
  | cons e r ih =>
    obtain ⟨j, w⟩ := e
    have hj : k < j := h (j, w) (by simp)
    simp only [tfind, if_neg (Nat.ne_of_gt hj)]
    exact ih (fun e he => h e (by simp [he]))

/-- The keys of a table in canonical form rise. -/
theorem twf_keys [DecidableEq α] (d : α) (t : Tbl α) (h : twf d t = true) : t.Pairwise (fun a b => a.1 < b.1) := by
  induction t with
  | nil => simp
  | cons e r ih =>
    cases r with
    | nil => simp
    | cons f r =>
      obtain ⟨j, v⟩ := e
      obtain ⟨k, w⟩ := f
      simp only [twf, Bool.and_eq_true, decide_eq_true_eq] at h
      have p := ih h.2
      refine List.pairwise_cons.2 ⟨fun a ha => ?_, p⟩
      rcases List.mem_cons.1 ha with rfl | ha
      · exact h.1.1
      · exact Nat.lt_trans h.1.1 ((List.pairwise_cons.1 p).1 a ha)

theorem tfind_tdel_same (t : Tbl α) (k : Nat) (h : t.Pairwise (fun a b => a.1 < b.1)) : tfind (tdel t k) k = none := by
  induction t with
  | nil => rfl
  | cons e r ih =>
    obtain ⟨j, w⟩ := e
    obtain ⟨hj, hr⟩ := List.pairwise_cons.1 h
    simp only [tdel]
    split
    · subst j
      exact tfind_none_of_lt r k hj
    · simp [tfind, *]

/-- In a table in canonical form every write is read back. -/
theorem tget_tset_same [DecidableEq α] (d : α) (t : Tbl α) (k : Nat) (v : α) (h : twf d t = true) :
    tget d (tset d t k v) k = v := by
  by_cases hv : v = d
  · simp [tget, tset, hv, tfind_tdel_same t k (twf_keys d t h)]
  · exact tget_tset_ne d t k v hv

/-- A change of one entry is read back. -/
theorem tget_tmod_same [DecidableEq α] (d : α) (t : Tbl α) (k : Nat) (f : α → α) (h : twf d t = true) :
    tget d (tmod d t k f) k = f (tget d t k) :=
  tget_tset_same d t k _ h

theorem tget_tmod_other [DecidableEq α] (d : α) (t : Tbl α) (k m : Nat) (f : α → α) (h : m ≠ k) :
    tget d (tmod d t k f) m = tget d t m :=
  tget_tset_other d t k m _ h

/-- The canonical form, said over all entries. -/
theorem twf_iff [DecidableEq α] (d : α) (t : Tbl α) :
    twf d t = true ↔ t.Pairwise (fun a b => a.1 < b.1) ∧ ∀ e ∈ t, e.2 ≠ d := by
  induction t with
  | nil => simp [twf]
  | cons e r ih =>
    obtain ⟨j, v⟩ := e
    cases r with
    | nil => simp [twf]
    | cons f r =>
      obtain ⟨k, w⟩ := f
      simp only [twf, Bool.and_eq_true, decide_eq_true_eq]
      rw [ih]
      constructor
      · rintro ⟨⟨hjk, hv⟩, p, hd⟩
        refine ⟨List.pairwise_cons.2 ⟨fun a ha => ?_, p⟩, fun a ha => ?_⟩
        · rcases List.mem_cons.1 ha with rfl | ha
          · exact hjk
          · exact Nat.lt_trans hjk ((List.pairwise_cons.1 p).1 a ha)
        · rcases List.mem_cons.1 ha with rfl | ha
          · exact hv
          · exact hd a ha
      · rintro ⟨p, hd⟩
        obtain ⟨hj, p⟩ := List.pairwise_cons.1 p
        exact ⟨⟨hj (k, w) (by simp), hd (j, v) (by simp)⟩, p, fun a ha => hd a (by simp [ha])⟩

theorem mem_tdel (t : Tbl α) (k : Nat) (e : Nat × α) (h : e ∈ tdel t k) : e ∈ t := by
  induction t with
  | nil => exact h
  | cons f r ih =>
    obtain ⟨j, w⟩ := f
    simp only [tdel] at h
    split at h
    · simp [h]
    · rcases List.mem_cons.1 h with rfl | h
      · simp
      · simp [ih h]

theorem mem_tput (t : Tbl α) (k : Nat) (v : α) (e : Nat × α) (h : e ∈ tput t k v) : e = (k, v) ∨ e ∈ t := by
  induction t with
  | nil => simpa [tput] using h
  | cons f r ih =>
    obtain ⟨j, w⟩ := f
    simp only [tput] at h
    split at h
    · rcases List.mem_cons.1 h with rfl | h
      · exact Or.inl rfl
      · exact Or.inr h
    · split at h
      · rcases List.mem_cons.1 h with rfl | h
        · exact Or.inl rfl
        · exact Or.inr (by simp [h])
      · rcases List.mem_cons.1 h with rfl | h
        · exact Or.inr (by simp)
        · rcases ih h with rfl | h
          · exact Or.inl rfl
          · exact Or.inr (by simp [h])

theorem tdel_keys (t : Tbl α) (k : Nat) (h : t.Pairwise (fun a b => a.1 < b.1)) :
    (tdel t k).Pairwise (fun a b => a.1 < b.1) := by
  induction t with
  | nil => exact h
  | cons f r ih =>
    obtain ⟨j, w⟩ := f
    obtain ⟨hj, hr⟩ := List.pairwise_cons.1 h
    simp only [tdel]
    split
    · exact hr
    · exact List.pairwise_cons.2 ⟨fun a ha => hj a (mem_tdel r k a ha), ih hr⟩

theorem tput_keys (t : Tbl α) (k : Nat) (v : α) (h : t.Pairwise (fun a b => a.1 < b.1)) :
    (tput t k v).Pairwise (fun a b => a.1 < b.1) := by
  induction t with
  | nil => simp [tput]
  | cons f r ih =>
    obtain ⟨j, w⟩ := f
    obtain ⟨hj, hr⟩ := List.pairwise_cons.1 h
    simp only [tput]
    split
    · rename_i hk
      refine List.pairwise_cons.2 ⟨fun a ha => ?_, h⟩
      rcases List.mem_cons.1 ha with rfl | ha
      · exact hk
      · exact Nat.lt_trans hk (hj a ha)
    · split
      · rename_i e
        subst e
        exact List.pairwise_cons.2 ⟨hj, hr⟩
      · refine List.pairwise_cons.2 ⟨fun a ha => ?_, ih hr⟩
        rcases mem_tput r k v a ha with rfl | ha
        · rename_i h1 h2
          simp only
          omega
        · exact hj a ha

/-- A write keeps the canonical form. -/
theorem twf_tset [DecidableEq α] (d : α) (t : Tbl α) (k : Nat) (v : α) (h : twf d t = true) :
    twf d (tset d t k v) = true := by
  rw [twf_iff] at h ⊢
  unfold tset
  split
  · exact ⟨tdel_keys t k h.1, fun e he => h.2 e (mem_tdel t k e he)⟩
  · rename_i hv
    refine ⟨tput_keys t k v h.1, fun e he => ?_⟩
    rcases mem_tput t k v e he with rfl | he
    · exact hv
    · exact h.2 e he

/-- A change of one entry keeps the canonical form. -/
theorem twf_tmod [DecidableEq α] (d : α) (t : Tbl α) (k : Nat) (f : α → α) (h : twf d t = true) :
    twf d (tmod d t k f) = true :=
  twf_tset d t k _ h

end Sys2Proof.Machine
end

