-- ==== Sys2Proof/Laws/Events.lean ====
section
/-! SUPPORT. Raising an event and counting touch the event queue and the counters only; how the queue admits an event. -/

set_option Elab.async false

namespace Sys2Proof.Machine

/-- v differs from s in the event queue and the counters at most. -/
def onlyEvents (s v : State) : Prop := ∃ e c, v = { s with evq := e, counts := c }

theorem onlyEvents_refl (s : State) : onlyEvents s s := ⟨s.evq, s.counts, rfl⟩

theorem onlyEvents_trans {a b c : State} (h : onlyEvents a b) (g : onlyEvents b c) : onlyEvents a c := by
  obtain ⟨e, k, rfl⟩ := h
  obtain ⟨e', k', rfl⟩ := g
  exact ⟨e', k', rfl⟩

theorem onlyEvents_cmds {s v : State} (h : onlyEvents s v) : v.cmds = s.cmds := by
  obtain ⟨_, _, rfl⟩ := h
  rfl

theorem putEv_onlyEvents (s : State) (c : Nat) (f : List (Nat × Nat)) : onlyEvents s (s.putEv c f).1 := by
  unfold State.putEv
  simp only
  split
  · exact onlyEvents_refl s
  · exact ⟨_, s.counts, rfl⟩

theorem updWm_onlyEvents (s : State) : onlyEvents s s.updWm := ⟨_, s.counts, rfl⟩

theorem countLost_onlyEvents (s : State) (n : Nat) : onlyEvents s (s.countLost n) := by
  unfold State.countLost
  simp only
  have h : ∀ x, onlyEvents s (s.setCount (pid 8 0 6) 0 x) := fun x => ⟨s.evq, _, rfl⟩
  split
  · exact onlyEvents_trans (h _) (putEv_onlyEvents _ _ _)
  · exact h _

/-- Raising an event (R403, R404). -/
theorem raise_onlyEvents (s : State) (c : Nat) (f : List (Nat × Nat)) : onlyEvents s (s.raise c f) :=
  onlyEvents_trans (onlyEvents_trans (putEv_onlyEvents s c f) (countLost_onlyEvents _ _)) (updWm_onlyEvents _)

/-- Counting (R14, R401). -/
theorem bumpBy_onlyEvents (s : State) (id lo w n : Nat) : onlyEvents s (s.bumpBy id lo w n) := by
  unfold State.bumpBy
  simp only
  have h : ∀ x, onlyEvents s (s.setCount id lo x) := fun x => ⟨s.evq, _, rfl⟩
  split
  · exact onlyEvents_trans (h _) (raise_onlyEvents _ _ _)
  · exact h _

theorem bump_onlyEvents (s : State) (id lo w : Nat) : onlyEvents s (s.bump id lo w) := bumpBy_onlyEvents s id lo w 1

/-- What discardBelow drops from the end of a queue in reading order, and how little (R404). -/
theorem discardBelow_spec (p k : Nat) (l : List Ev) (free n : Nat) (hs : l.Pairwise (fun x y => x.prio ≤ y.prio)) 
    (hk : k ≤ free + ((l.filter (fun x => x.prio < p)).map (fun x => x.words.length)).sum) :
    ∃ gone kept, l = gone ++ kept ∧ discardBelow p k l free n = (kept, n + gone.length) ∧ (∀ x ∈ gone, x.prio < p) ∧
      k ≤ free + (gone.map (fun x => x.words.length)).sum ∧
      (∀ x r, gone = r ++ [x] → free + (r.map (fun x => x.words.length)).sum < k) := by
  induction l generalizing free n with
  | nil => exact ⟨[], [], rfl, rfl, by simp, by simpa using hk, by simp⟩
  | cons e r ih =>
    unfold discardBelow
    by_cases h : free < k ∧ e.prio < p
    · rw [if_pos h]
      obtain ⟨g, kp, h1, h2, h3, h4, h5⟩ := ih (free + e.words.length) (n + 1) (List.pairwise_cons.1 hs).2 (by
        simp only [List.filter, h.2, decide_true, List.map_cons, List.sum_cons] at hk; omega)
      refine ⟨e :: g, kp, by rw [h1]; rfl, by rw [h2]; simp; omega, ?_, by simp; omega, ?_⟩
      · intro x hx
        rcases List.mem_cons.1 hx with rfl | hx
        · exact h.2
        · exact h3 x hx
      · intro x q hq
        cases q with
        | nil => simpa using h.1
        | cons y q' =>
          simp only [List.cons_append, List.cons.injEq] at hq
          have := h5 x q' hq.2
          rw [← hq.1]; simp; omega
    · rw [if_neg h]
      refine ⟨[], e :: r, rfl, rfl, by simp, ?_, by simp⟩
      by_cases hf : free < k
      · have hp : ¬ e.prio < p := fun c => h ⟨hf, c⟩
        have : (e :: r).filter (fun x => x.prio < p) = [] := by
          rw [List.filter_eq_nil_iff]
          intro x hx
          rcases List.mem_cons.1 hx with rfl | hx
          · simpa using hp
          · have := (List.pairwise_cons.1 hs).1 x hx; simp; omega
        rw [this] at hk; simpa using hk
      · simp; omega

/-- An admitted event joins the queue. -/
theorem insertBy_perm (e : Ev) (q : List Ev) : (insertBy (fun (x y : Ev) => y.prio < x.prio) e q).Perm (e :: q) := by
  induction q with
  | nil => exact List.Perm.refl _
  | cons y r ih =>
    unfold insertBy
    split
    · exact List.Perm.refl _
    · exact (List.Perm.cons y ih).trans (List.Perm.swap e y r)

/-- An admitted event keeps the reading order (R405). -/
theorem insertBy_sorted (e : Ev) (q : List Ev) (h : q.Pairwise (fun x y => y.prio ≤ x.prio)) :
    (insertBy (fun (x y : Ev) => y.prio < x.prio) e q).Pairwise (fun x y => y.prio ≤ x.prio) := by
  induction q with
  | nil => simp [insertBy]
  | cons y r ih =>
    obtain ⟨h1, h2⟩ := List.pairwise_cons.1 h
    unfold insertBy
    split
    · rename_i c
      simp only [decide_eq_true_eq] at c
      refine List.pairwise_cons.2 ⟨?_, h⟩
      intro z hz
      rcases List.mem_cons.1 hz with rfl | hz
      · omega
      · have := h1 z hz; omega
    · rename_i c
      simp only [decide_eq_true_eq] at c
      refine List.pairwise_cons.2 ⟨?_, ih h2⟩
      intro z hz
      rcases List.mem_cons.1 ((insertBy_perm e r).mem_iff.1 hz) with rfl | hz
      · omega
      · exact h1 z hz

end Sys2Proof.Machine
end

