-- ==== Sys2Proof/Laws/Kept.lean ====
section
/-! SUPPORT. The part of the state that almost no operation touches, and the rules by which an operation is seen to leave
it alone: the queue, whether the hub runs, CONFIRMED, RUNTIME and the power domains. -/

set_option Elab.async false

namespace Sys2Proof.Machine

/-- What almost every operation keeps: the queue of commands, RUNNING of CFG_STATE, CONFIRMED, RUNTIME, and the domains
that are on and reported good; and beside them the configured values. -/
def State.kept (s : State) : (List Instr × Bool × Bool × Nat × BitVec 16 × BitVec 16) × Tbl Word :=
  ((s.pending, s.image.running, s.safety.confirmed, s.time.runtime, s.pdOn, s.pdGood), s.cfg)

@[simp] theorem kept_mk (time' rein' acts' sets' late' cfg' status' counts' evq' cmds' pdOn' pdGood' switches' closed' chans' cells' srcs'
    gaits' trig' hold' stores' arc' lanes' links' net' faults' core' pair' safety' cal' opt' image' boot' ident' tap' free'
    pending') :
    State.kept ⟨time', rein', acts', sets', late', cfg', status', counts', evq', cmds', pdOn', pdGood', switches', closed', chans',
      cells', srcs', gaits', trig', hold', stores', arc', lanes', links', net', faults', core', pair',
      safety', cal', opt', image', boot', ident', tap', free', pending'⟩ =
      ((pending', image'.running, safety'.confirmed, time'.runtime, pdOn', pdGood'), cfg') := rfl

theorem kept_pending (s : State) : s.pending = s.kept.1.1 := rfl
theorem kept_running (s : State) : s.image.running = s.kept.1.2.1 := rfl
theorem kept_confirmed (s : State) : s.safety.confirmed = s.kept.1.2.2.1 := rfl
theorem kept_runtime (s : State) : s.time.runtime = s.kept.1.2.2.2.1 := rfl
theorem kept_pdOn (s : State) : s.pdOn = s.kept.1.2.2.2.2.1 := rfl
theorem kept_pdGood (s : State) : s.pdGood = s.kept.1.2.2.2.2.2 := rfl
theorem kept_cfg (s : State) : s.cfg = s.kept.2 := rfl

/-- The kept part's fields, each said through it. -/
theorem kept_all (s : State) : s.pending = s.kept.1.1 ∧ s.image.running = s.kept.1.2.1 ∧ s.safety.confirmed = s.kept.1.2.2.1 ∧
    s.time.runtime = s.kept.1.2.2.2.1 ∧ s.pdOn = s.kept.1.2.2.2.2.1 ∧ s.pdGood = s.kept.1.2.2.2.2.2 ∧ s.cfg = s.kept.2 :=
  ⟨rfl, rfl, rfl, rfl, rfl, rfl, rfl⟩

/-- A choice between two states that keep s keeps it. -/
@[simp] theorem kept_ite (c : Prop) [Decidable c] (a b : State) : (if c then a else b).kept = if c then a.kept else b.kept := by
  split <;> rfl

@[simp] theorem kept_fst_ite {α β : Type} (c : Prop) [Decidable c] (a b : α × β) :
    (if c then a else b).1 = if c then a.1 else b.1 := by
  split <;> rfl

@[simp] theorem time_ite (c : Prop) [Decidable c] (a b : Time) :
    (if c then a else b).runtime = if c then a.runtime else b.runtime := by
  split <;> rfl

@[simp] theorem image_ite (c : Prop) [Decidable c] (a b : Image) :
    (if c then a else b).running = if c then a.running else b.running := by
  split <;> rfl

/-- A loop of steps that each keep the state keeps it. -/
theorem kept_forAll {α : Type} (l : List α) (f : State → α → State) (s : State) (h : ∀ s x, (f s x).kept = s.kept) :
    (forAll l f s).kept = s.kept := by
  induction l generalizing s with
  | nil => rfl
  | cons x r ih => exact (ih (f s x)).trans (h s x)

/-- A loop of steps that each keep all but the configured values. -/
theorem kept_fst_forAll {α : Type} (l : List α) (f : State → α → State) (s : State) (h : ∀ s x, (f s x).kept.1 = s.kept.1) :
    (forAll l f s).kept.1 = s.kept.1 := by
  induction l generalizing s with
  | nil => rfl
  | cons x r ih => exact (ih (f s x)).trans (h s x)

/-- A loop that also gathers something. -/
theorem kept_foldl {α β : Type} (l : List α) (f : State × β → α → State × β) (a : State × β)
    (h : ∀ a x, (f a x).1.kept = a.1.kept) : (l.foldl f a).1.kept = a.1.kept := by
  induction l generalizing a with
  | nil => rfl
  | cons x r ih => exact (ih (f a x)).trans (h a x)

/-- A conditional step. -/
theorem kept_whenB (c : Bool) (f : State → State) (s : State) (h : ∀ s, (f s).kept = s.kept) :
    (whenB c f s).kept = s.kept := by
  cases c
  · rfl
  · exact h s

/-- No domain is reported good while it is off (R31, R34). -/
def State.pdOk (s : State) : Prop := s.kept.1.2.2.2.2.2 &&& ~~~ s.kept.1.2.2.2.2.1 = 0

theorem pdOk_of_kept {s t : State} (h : t.kept = s.kept) (hs : s.pdOk) : t.pdOk := by
  unfold State.pdOk at *
  rw [h]
  exact hs

theorem pd_off (on good m : BitVec 16) (h : good &&& ~~~ on = 0) : (good &&& ~~~ m) &&& ~~~ (on &&& ~~~ m) = 0 := by
  apply BitVec.eq_of_getLsbD_eq
  intro i hi
  have h := congrArg (BitVec.getLsbD · i) h
  simp [hi] at h ⊢
  intro a b
  exact ⟨h a, b⟩

theorem pd_on (on good m : BitVec 16) (h : good &&& ~~~ on = 0) : good &&& ~~~ (on ||| m) = 0 := by
  apply BitVec.eq_of_getLsbD_eq
  intro i hi
  have h := congrArg (BitVec.getLsbD · i) h
  simp [hi] at h ⊢
  intro a b
  rw [h a] at b
  exact absurd b (by simp)

theorem bit_mask (v : BitVec 16) (n : Nat) (h : bit v.toNat n = true) : BitVec.ofNat 16 (2 ^ n) &&& ~~~ v = 0 := by
  have hb : v.getLsbD n = true := by
    simp only [bit, fld, beq_iff_eq] at h
    simp only [BitVec.getLsbD, Nat.testBit, Nat.one_and_eq_mod_two]
    simpa using h
  apply BitVec.eq_of_getLsbD_eq
  intro i hi
  by_cases e : n = i
  · subst e
    simp [hb]
  · rw [BitVec.getLsbD_and, BitVec.getLsbD_ofNat, Nat.testBit_two_pow]
    simp [e]

theorem pd_good (on good m : BitVec 16) (h : good &&& ~~~ on = 0) (hm : m &&& ~~~ on = 0) : (good ||| m) &&& ~~~ on = 0 := by
  apply BitVec.eq_of_getLsbD_eq
  intro i hi
  have h := congrArg (BitVec.getLsbD · i) h
  have hm := congrArg (BitVec.getLsbD · i) hm
  simp [hi] at h hm ⊢
  rintro (a | a)
  · exact h a
  · exact hm a

theorem pd_both (on good m : BitVec 16) (h : good &&& ~~~ on = 0) : (good ||| m) &&& ~~~ (on ||| m) = 0 := by
  apply BitVec.eq_of_getLsbD_eq
  intro i hi
  have h := congrArg (BitVec.getLsbD · i) h
  simp [hi] at h ⊢
  rintro (a | a)
  · intro b
    rw [h a] at b
    exact absurd b (by simp)
  · exact fun _ => a

theorem pd_hold (on m : BitVec 16) : (on &&& m) &&& ~~~ on = 0 := by
  apply BitVec.eq_of_getLsbD_eq
  intro i hi
  simp [hi]
  intro a _
  exact a

/-- From s to t nothing of the kept part changes but the power domains, and no domain becomes good that is off. -/
def near (s t : State) : Prop :=
  (t.kept.1.1 = s.kept.1.1 ∧ t.kept.1.2.1 = s.kept.1.2.1 ∧ t.kept.1.2.2.1 = s.kept.1.2.2.1 ∧ t.kept.1.2.2.2.1 = s.kept.1.2.2.2.1
    ∧ t.kept.2 = s.kept.2) ∧ (s.pdOk → t.pdOk)

theorem near_of_kept {s t : State} (h : t.kept = s.kept) : near s t :=
  ⟨by simp [h], pdOk_of_kept h⟩

theorem near_refl (s : State) : near s s := near_of_kept rfl

theorem near_trans {s t u : State} (h : near s t) (g : near t u) : near s u :=
  ⟨⟨g.1.1.trans h.1.1, g.1.2.1.trans h.1.2.1, g.1.2.2.1.trans h.1.2.2.1, g.1.2.2.2.1.trans h.1.2.2.2.1,
    g.1.2.2.2.2.trans h.1.2.2.2.2⟩, fun p => g.2 (h.2 p)⟩

theorem near_forAll {α : Type} (l : List α) (f : State → α → State) (s : State) (h : ∀ s x, near s (f s x)) :
    near s (forAll l f s) := by
  induction l generalizing s with
  | nil => exact near_refl s
  | cons x r ih => exact near_trans (h s x) (ih (f s x))

theorem near_ite (c : Prop) [Decidable c] {s a b : State} (ha : near s a) (hb : near s b) : near s (if c then a else b) := by
  split
  · exact ha
  · exact hb

end Sys2Proof.Machine
end

