-- ==== Sys2Proof/Laws/KeptOps1.lean ====
section
/-! SUPPORT. The shared operations keep the kept part of the state (Laws/Kept.lean); what an exception to that does is said beside it. -/

set_option Elab.async false

namespace Sys2Proof.Machine

/-! Machine/Ops.lean -/

@[simp] theorem State.takeFree_kept (s : State) :
    (State.takeFree s).2.kept = s.kept := by
  simp [State.takeFree, kept_all]

@[simp] theorem State.setChan_kept (s : State) (n : Nat) (c : Chan) :
    (State.setChan s n c).kept = s.kept := by
  simp [State.setChan, kept_all]

@[simp] theorem State.modChan_kept (s : State) (n : Nat) (f : Chan → Chan) :
    (State.modChan s n f).kept = s.kept := by
  simp [State.modChan, kept_all]

@[simp] theorem State.modCell_kept (s : State) (n : Nat) (f : Cell → Cell) :
    (State.modCell s n f).kept = s.kept := by
  simp [State.modCell, kept_all]

@[simp] theorem State.modSrc_kept (s : State) (n : Nat) (f : Src → Src) :
    (State.modSrc s n f).kept = s.kept := by
  simp [State.modSrc, kept_all]

@[simp] theorem State.modGait_kept (s : State) (n : Nat) (f : GaitSt → GaitSt) :
    (State.modGait s n f).kept = s.kept := by
  simp [State.modGait, kept_all]

@[simp] theorem State.modStore_kept (s : State) (n : Nat) (f : St → St) :
    (State.modStore s n f).kept = s.kept := by
  simp [State.modStore, kept_all]

@[simp] theorem State.modLane_kept (s : State) (n : Nat) (f : Lane → Lane) :
    (State.modLane s n f).kept = s.kept := by
  simp [State.modLane, kept_all]

@[simp] theorem State.modLink_kept (s : State) (n : Nat) (f : Link → Link) :
    (State.modLink s n f).kept = s.kept := by
  simp [State.modLink, kept_all]

@[simp] theorem State.modFsrc_kept (s : State) (n : Nat) (f : FSrc → FSrc) :
    (State.modFsrc s n f).kept = s.kept := by
  simp [State.modFsrc, kept_all]

@[simp] theorem State.modAct_kept (s : State) (n : Nat) (f : Act → Act) :
    (State.modAct s n f).kept = s.kept := by
  simp [State.modAct, kept_all]

@[simp] theorem State.modLine_kept (s : State) (n : Nat) (f : ReinLine → ReinLine) :
    (State.modLine s n f).kept = s.kept := by
  simp [State.modLine, kept_all]

@[simp] theorem State.modSlot_kept (s : State) (n : Nat) (f : Slot → Slot) :
    (State.modSlot s n f).kept = s.kept := by
  simp [State.modSlot, kept_all]

@[simp] theorem State.modOs_kept (s : State) (n : Nat) (f : Os → Os) :
    (State.modOs s n f).kept = s.kept := by
  simp [State.modOs, kept_all]

@[simp] theorem State.stepOs_kept (s : State) (n : Nat) (e : Nat) (x : OsSet) :
    (State.stepOs s n e x).kept = s.kept := by
  simp [State.stepOs, kept_all]

@[simp] theorem State.setCfg_kept (s : State) (id : Nat) (v : Nat) :
    (State.setCfg s id v).kept.1 = s.kept.1 := by
  simp [State.setCfg, kept_all]

@[simp] theorem State.setStat_kept (s : State) (id : Nat) (v : Nat) :
    (State.setStat s id v).kept = s.kept := by
  simp [State.setStat, kept_all]

@[simp] theorem State.updWm_kept (s : State) :
    (State.updWm s).kept = s.kept := by
  simp [State.updWm, kept_all]

@[simp] theorem State.setCount_kept (s : State) (id : Nat) (lo : Nat) (v : Nat) :
    (State.setCount s id lo v).kept = s.kept := by
  simp [State.setCount, kept_all]

@[simp] theorem State.putEv_kept (s : State) (evCode : Nat) (fields : List (Nat × Nat)) :
    (State.putEv s evCode fields).1.kept = s.kept := by
  simp only [State.putEv]
  (repeat' split)
  all_goals simp [kept_all]

@[simp] theorem State.countLost_kept (s : State) (n : Nat) :
    (State.countLost s n).kept = s.kept := by
  simp [State.countLost, kept_all]

@[simp] theorem State.raise_kept (s : State) (evCode : Nat) (fields : List (Nat × Nat)) :
    (State.raise s evCode fields).kept = s.kept := by
  simp [State.raise, kept_all]

@[simp] theorem State.bumpBy_kept (s : State) (id : Nat) (lo : Nat) (w : Nat) (n : Nat) :
    (State.bumpBy s id lo w n).kept = s.kept := by
  simp [State.bumpBy, kept_all]

@[simp] theorem State.bump_kept (s : State) (id : Nat) (lo : Nat) (w : Nat) :
    (State.bump s id lo w).kept = s.kept := by
  simp [State.bump, kept_all]

@[simp] theorem State.countCorr_kept (s : State) (id : Nat) (ecc : List Ecc) : (State.countCorr s id ecc).kept = s.kept := by
  unfold State.countCorr
  induction ecc.filter (· == .corrected) generalizing s with
  | nil => rfl
  | cons e r ih => simp [ih]

@[simp] theorem State.holdRead_kept (s : State) (ecc : List Ecc) : (State.holdRead s ecc).kept = s.kept := by
  simp [State.holdRead]

@[simp] theorem State.headEv_kept (n : Nat) (s : State) (l : List Ecc) : (State.headEv n s l).1.kept = s.kept := by
  induction n generalizing s l with
  | zero => rfl
  | succ n ih =>
    unfold State.headEv
    split
    · rfl
    · dsimp only
      split
      · simp [ih, kept_all]
      · simp

@[simp] theorem State.popEntry_kept (s : State) (ecc : List Ecc) :
    (State.popEntry s ecc).1.kept = s.kept := by
  unfold State.popEntry
  split
  · rfl
  · split
    · rfl
    · dsimp only
      split
      · simp
      · have h := State.headEv_kept s.evq.q.length s ecc
        simpa [kept_all] using h

@[simp] theorem State.readEntry_kept (s : State) (ecc : List Ecc) :
    (State.readEntry s ecc).1.kept = s.kept := by
  have h := State.popEntry_kept s ecc
  unfold State.readEntry
  split <;> rename_i heq <;> rw [heq] at h <;> simpa [kept_all] using h

@[simp] theorem State.countAnswer_kept (s : State) (status : Nat) :
    (State.countAnswer s status).kept = s.kept := by
  simp [State.countAnswer, kept_all]

@[simp] theorem State.joinRegion_kept (s : State) (r : Reply) :
    (State.joinRegion s r).kept = s.kept := by
  simp [State.joinRegion, kept_all]

@[simp] theorem State.admitWaiting_kept (s : State) :
    (State.admitWaiting s).kept = s.kept := by
  unfold State.admitWaiting
  refine kept_forAll _ _ _ (fun s x => ?_)
  (repeat' (first | (simp [kept_all]; done) | split | (simp [kept_all]; split)))

@[simp] theorem State.queueReply_kept (s : State) (r : Reply) :
    (State.queueReply s r).kept = s.kept := by
  simp [State.queueReply, kept_all]

@[simp] theorem State.answer_kept (s : State) (h : Hdr) (opcode : Nat) (status : Nat) (detail : Nat)
    (data : List Byte) (safety : Bool) :
    (State.answer s h opcode status detail data safety).kept = s.kept := by
  simp [State.answer, kept_all]

@[simp] theorem forAll_kept {α : Type} (l : List α) (f : State → α → State) (s : State)
    (h : ∀ s x, (f s x).kept = s.kept) : (forAll l f s).kept = s.kept := kept_forAll l f s h

@[simp] theorem forAll_kept_fst {α : Type} (l : List α) (f : State → α → State) (s : State)
    (h : ∀ s x, (f s x).kept.1 = s.kept.1) : (forAll l f s).kept.1 = s.kept.1 := kept_fst_forAll l f s h

@[simp] theorem whenB_kept (c : Bool) (f : State → State) (s : State) (hf : ∀ s, (f s).kept = s.kept) :
    (whenB c f s).kept = s.kept := by
  simp [whenB, kept_all, hf]

@[simp] theorem whenCore_kept (f : State → State) (s : State) (hf : ∀ s, (f s).kept = s.kept) :
    (whenCore f s).kept = s.kept := by
  simp [whenCore, kept_all, hf]

/-! Machine/Hold.lean -/

@[simp] theorem State.dropOpen_kept (s : State) (ch : Nat) (slot : Option Nat) :
    (State.dropOpen s ch slot).kept = s.kept := by
  simp [State.dropOpen, kept_all]

@[simp] theorem State.putOpen_kept (s : State) (b : Blk) :
    (State.putOpen s b).kept = s.kept := by
  simp [State.putOpen, kept_all]

@[simp] theorem State.arcTake_kept (s : State) (b : Blk) :
    (State.arcTake s b).kept = s.kept := by
  simp [State.arcTake, kept_all]

@[simp] theorem State.enterBlk_kept (s : State) (b : Blk) :
    (State.enterBlk s b).kept = s.kept := by
  simp [State.enterBlk, kept_all]

@[simp] theorem State.closeOpen_kept (s : State) (ch : Nat) (slot : Option Nat) :
    (State.closeOpen s ch slot).kept = s.kept := by
  unfold State.closeOpen
  split <;> simp [kept_all]

@[simp] theorem State.closeAllOpen_kept (s : State) :
    (State.closeAllOpen s).kept = s.kept := by
  simp [State.closeAllOpen, kept_all]

@[simp] theorem State.closeChan_kept (s : State) (ch : Nat) :
    (State.closeChan s ch).kept = s.kept := by
  simp [State.closeChan, kept_all]

@[simp] theorem State.putItem_kept (s : State) (ch : Nat) (slot : Option Nat) (h : Head) (seq : Nat) (t : Nat)
    (i : Item) :
    (State.putItem s ch slot h seq t i).kept = s.kept := by
  unfold State.putItem
  split <;> simp [kept_all]

theorem State.mergeGap_kept (s : State) (ch : Nat) (slot : Option Nat) (g : Gap) (u : State)
    (hu : s.mergeGap ch slot g = some u) : u.kept = s.kept := by
  unfold State.mergeGap at hu
  split at hu
  · cases hu
    simp [kept_all]
  · simp only [Option.map_eq_some_iff] at hu
    obtain ⟨l, _, rfl⟩ := hu
    simp [kept_all]

@[simp] theorem State.countGap_kept (s : State) (ch : Nat) :
    (State.countGap s ch).kept = s.kept := by
  simp [State.countGap, kept_all]

@[simp] theorem State.putGap_kept (s : State) (ch : Nat) (slot : Option Nat) (g : Gap) (cont : Bool) :
    (State.putGap s ch slot g cont).kept = s.kept := by
  unfold State.putGap
  dsimp only
  rw [State.countGap_kept]
  split <;> rename_i heq
  · split at heq
    · exact s.mergeGap_kept ch slot g _ heq
    · cases heq
  · simp

@[simp] theorem State.gapStream_kept (s : State) (ch : Nat) (cause : Nat) (seq : Nat) (n : Nat) (t : Nat) (h : Head) :
    (State.gapStream s ch cause seq n t h).kept = s.kept := by
  simp only [State.gapStream]
  (repeat' split)
  all_goals simp [kept_all]

@[simp] theorem State.endGap_kept (s : State) (ch : Nat) :
    (State.endGap s ch).kept = s.kept := by
  unfold State.endGap
  split <;> simp [kept_all]

@[simp] theorem State.modRec_kept (s : State) (k : Nat) (f : Record → Record) :
    (State.modRec s k f).kept = s.kept := by
  unfold State.modRec
  split <;> simp [kept_all]

@[simp] theorem State.endMemberGap_kept (s : State) (k : Nat) (m : Member) :
    (State.endMemberGap s k m).kept = s.kept := by
  unfold State.endMemberGap
  split <;> simp [kept_all]

@[simp] theorem State.gapMember_kept (s : State) (k : Nat) (m : Member) (cause : Nat) (seq : Nat) (n : Nat)
    (t : Nat) (h : Head) :
    (State.gapMember s k m cause seq n t h).kept = s.kept := by
  simp only [State.gapMember]
  (repeat' split)
  all_goals simp [kept_all]

@[simp] theorem State.holdSlot_kept (s : State) (ch : Nat) (w : RingWord) :
    (State.holdSlot s ch w).kept = s.kept := by
  simp [State.holdSlot, kept_all]

@[simp] theorem State.streamNow_kept (s : State) (ch : Nat) (w : RingWord) :
    (State.streamNow s ch w).1.kept = s.kept := by
  simp [State.streamNow, kept_all]

@[simp] theorem State.entryNow_kept (s : State) (ch : Nat) (i : Item) :
    (State.entryNow s ch i).kept = s.kept := by
  simp [State.entryNow, kept_all]

@[simp] theorem State.streamSlot_kept (s : State) (ch : Nat) (w : RingWord) :
    (State.streamSlot s ch w).1.kept = s.kept := by
  simp [State.streamSlot, kept_all]

@[simp] theorem State.streamEntry_kept (s : State) (ch : Nat) (i : Item) :
    (State.streamEntry s ch i).kept = s.kept := by
  simp [State.streamEntry, kept_all]

@[simp] theorem State.lateGap_kept (s : State) (ch : Nat) (before : Nat) :
    (State.lateGap s ch before).kept = s.kept := by
  simp [State.lateGap, kept_all]

@[simp] theorem State.releaseBehind_kept (s : State) (ch : Nat) :
    (State.releaseBehind s ch).kept = s.kept := by
  unfold State.releaseBehind
  split
  all_goals (try (refine kept_forAll _ _ _ (fun s x => ?_)))
  all_goals ((repeat' (first | (simp [kept_all]; done) | (simp [kept_all]; split) | split)))

@[simp] theorem State.loseStream_kept (s : State) (ch : Nat) :
    (State.loseStream s ch).kept = s.kept := by
  simp only [State.loseStream]
  (repeat' split)
  all_goals simp [kept_all]

@[simp] theorem State.catchUp_kept (s : State) (ch : Nat) :
    (State.catchUp s ch).kept = s.kept := by
  simp only [State.catchUp]
  (repeat' split)
  all_goals simp [kept_all]

/-! Machine/Cmd.lean -/

@[simp] theorem State.endCmd_kept (s : State) (h : Hdr) (opcode : Nat) :
    (State.endCmd s h opcode).kept = s.kept := by
  simp [State.endCmd, kept_all]

@[simp] theorem State.dropFence_kept (s : State) (f : Fence) :
    (State.dropFence s f).kept = s.kept := by
  simp [State.dropFence, kept_all]

@[simp] theorem State.setFence_kept (s : State) (f : Fence) (st : FenceStep) (mark : Nat) :
    (State.setFence s f st mark).kept = s.kept := by
  simp [State.setFence, kept_all]

@[simp] theorem State.fenceDone_kept (s : State) (f : Fence) :
    (State.fenceDone s f).kept = s.kept := by
  simp [State.fenceDone, kept_all]

@[simp] theorem State.fenceOutStep_kept (s : State) (f : Fence) :
    (State.fenceOutStep s f).kept = s.kept := by
  simp [State.fenceOutStep, kept_all]

@[simp] theorem State.fenceCfgStep_kept (s : State) (f : Fence) :
    (State.fenceCfgStep s f).kept = s.kept := by
  simp [State.fenceCfgStep, kept_all]

@[simp] theorem State.runFences_kept (n : Nat) (s : State) : (State.runFences n s).kept = s.kept := by
  induction n generalizing s with
  | zero => rfl
  | succ n ih =>
    simp only [State.runFences]
    split
    · rfl
    · simp [ih]

@[simp] theorem State.complete_kept (s : State) (h : Hdr) (opcode : Nat) :
    (State.complete s h opcode).kept = s.kept := by
  simp [State.complete, kept_all]

@[simp] theorem State.finish_kept (s : State) (h : Hdr) (opcode : Nat) (status : Nat) (detail : Nat)
    (data : List Byte) :
    (State.finish s h opcode status detail data).kept = s.kept := by
  simp [State.finish, kept_all]

@[simp] theorem State.finishLate_kept (s : State) (h : Hdr) (opcode : Nat) (on : LateOn) :
    (State.finishLate s h opcode on).kept = s.kept := by
  simp [State.finishLate, kept_all]

@[simp] theorem State.lateDone_kept (s : State) (f : LateOn → Bool) :
    (State.lateDone s f).kept = s.kept := by
  simp [State.lateDone, kept_all]

/-- The clock's advance keeps what setting the clock keeps: what has waited for the instant is answered and completes. -/
@[simp] theorem State.tick_kept (t : Nat) (s : State) : (s.tick t).kept = (s.setClock t).kept := by
  unfold State.tick
  dsimp only
  split <;> simp

@[simp] theorem State.accept_kept (s : State) (h : Hdr) (opcode : Nat) (w : Work) :
    (State.accept s h opcode w).kept = s.kept := by
  simp [State.accept, kept_all]

@[simp] theorem State.finalReply_kept (s : State) (w : Work) (status : Nat) (detail : Nat) (data : List Byte) :
    (State.finalReply s w status detail data).kept = s.kept := by
  unfold State.finalReply
  split <;> simp [kept_all]

@[simp] theorem State.dropCommit_kept (s : State) :
    (State.dropCommit s).kept = s.kept := by
  simp [State.dropCommit, kept_all]

/-! Machine/Packet.lean -/

@[simp] theorem State.takePacket_kept (s : State) (port : Nat) (b : List Byte) :
    (State.takePacket s port b).kept = s.kept := by
  simp [State.takePacket, kept_all]

/-! Machine/HostPort.lean -/

@[simp] theorem State.shift_kept (s : State) (b : List Byte) :
    (State.shift s b).kept = s.kept := by
  simp [State.shift, kept_all]

@[simp] theorem State.setLast_kept (s : State) (n : Nat) :
    (State.setLast s n).kept = s.kept := by
  simp [State.setLast, kept_all]

@[simp] theorem State.hostWrite_kept (s : State) (stated : Nat) (b : List Byte) :
    (State.hostWrite s stated b).kept = s.kept := by
  simp [State.hostWrite, kept_all]

@[simp] theorem whenPort_kept (f : State → State) (s : State) (hf : ∀ s, (f s).kept = s.kept) :
    (whenPort f s).kept = s.kept := by
  simp [whenPort, kept_all, hf]

@[simp] theorem State.hostReadReply_kept (s : State) (n : Nat) (ecc : List Ecc) :
    (State.hostReadReply s n ecc).kept = s.kept := by
  simp only [State.hostReadReply]
  (repeat' split)
  all_goals simp [kept_all]

@[simp] theorem State.readEntries_kept (n : Nat) (s : State) (e : List Ecc) :
    (State.readEntries n s e).1.kept = s.kept := by
  induction n generalizing s e with
  | zero => rfl
  | succ n ih => simp [State.readEntries, ih]

/-! Machine/TimeBase.lean -/

@[simp] theorem State.modTime_kept (s : State) (f : Time → Time) (h : ∀ m, (f m).runtime = m.runtime) :
    (s.modTime f).kept = s.kept := by
  simp [State.modTime, State.kept, h]

@[simp] theorem State.modPtime_kept (s : State) (p : Nat) (f : PortTime → PortTime) :
    (State.modPtime s p f).kept = s.kept := by
  simp [State.modPtime, kept_all]

@[simp] theorem State.slewFold_kept (s : State) (on : Bool) :
    (State.slewFold s on).kept = s.kept := by
  simp [State.slewFold, kept_all]

@[simp] theorem State.slewTo_kept (s : State) (e : Int) :
    (State.slewTo s e).kept = s.kept := by
  simp [State.slewTo, kept_all]

@[simp] theorem State.moveGrid_kept (s : State) (x : Int) :
    (State.moveGrid s x).kept = s.kept := by
  simp [State.moveGrid, kept_all]

@[simp] theorem State.alignGrid_kept (s : State) :
    (State.alignGrid s).kept = s.kept := by
  simp [State.alignGrid, kept_all]

@[simp] theorem State.startSegment_kept (s : State) (e0 : Nat) :
    (State.startSegment s e0).kept = s.kept := by
  simp [State.startSegment, kept_all]

@[simp] theorem State.evTime_kept (s : State) (kind : Nat) :
    (State.evTime s kind).kept = s.kept := by
  simp [State.evTime, kept_all]

@[simp] theorem State.ptpLose_kept (s : State) :
    (State.ptpLose s).kept = s.kept := by
  simp [State.ptpLose, kept_all]

@[simp] theorem State.ptpCheck_kept (s : State) :
    (State.ptpCheck s).kept = s.kept := by
  unfold State.ptpCheck
  split <;> simp [kept_all]

@[simp] theorem State.ptpDown_kept (s : State) (p : Nat) :
    (State.ptpDown s p).kept = s.kept := by
  simp [State.ptpDown, kept_all]

@[simp] theorem State.ptpReconf_kept (s : State) (p : Nat) :
    (State.ptpReconf s p).kept = s.kept := by
  unfold State.ptpReconf
  split <;> simp [kept_all]

/-! Machine/NetOps.lean -/

@[simp] theorem State.enqueue_kept (s : State) (port : Nat) (o : Nat) (f : Frame) :
    (State.enqueue s port o f).kept = s.kept := by
  simp [State.enqueue, kept_all]

@[simp] theorem State.stampFrame_kept (s : State) (port : Nat) (f : Frame) :
    (State.stampFrame s port f).1.kept = s.kept := by
  simp [State.stampFrame, kept_all]

@[simp] theorem State.onLine_kept (s : State) (p : Nat) (f : Frame) :
    (State.onLine s p f).kept = s.kept := by
  simp [State.onLine, kept_all]

@[simp] theorem State.spoilLine_kept (s : State) (p : Nat) :
    (State.spoilLine s p).kept = s.kept := by
  simp [State.spoilLine, kept_all]

@[simp] theorem State.putLine_kept (s : State) (port : Nat) (f : Frame) :
    (State.putLine s port f).kept = s.kept := by
  simp [State.putLine, kept_all]

@[simp] theorem State.sendLocal_kept (s : State) (port : Nat) (typ : Nat) (payload : List Byte) :
    (State.sendLocal s port typ payload).kept = s.kept := by
  simp [State.sendLocal, kept_all]

@[simp] theorem State.flood_kept (s : State) (o : Nat) (f : Frame) :
    (State.flood s o f).kept = s.kept := by
  simp [State.flood, kept_all]

@[simp] theorem State.broadcast_kept (s : State) (o : Nat) (typ : Nat) (cls : Nat) (payload : List Byte) :
    (State.broadcast s o typ cls payload).kept = s.kept := by
  simp [State.broadcast, kept_all]

@[simp] theorem State.netBroadcast_kept (s : State) (payload : List Byte) :
    (State.netBroadcast s payload).kept = s.kept := by
  simp [State.netBroadcast, kept_all]

@[simp] theorem State.bcastSeen_kept (s : State) (src : Nat) (q : Nat) :
    (State.bcastSeen s src q).kept = s.kept := by
  simp [State.bcastSeen, kept_all]

@[simp] theorem State.rxDrop_kept (s : State) (port : Nat) :
    (State.rxDrop s port).kept = s.kept := by
  simp [State.rxDrop, kept_all]

@[simp] theorem State.netDirty_kept (s : State) :
    (State.netDirty s).kept = s.kept := by
  simp [State.netDirty, kept_all]

@[simp] theorem State.floodOwn_kept (s : State) :
    (State.floodOwn s).kept = s.kept := by
  simp [State.floodOwn, kept_all]

@[simp] theorem State.chkPut_kept (s : State) (p : Nat) (bits : Nat) (errs : Nat) :
    (State.chkPut s p bits errs).kept = s.kept := by
  simp [State.chkPut, kept_all]

@[simp] theorem State.chkFold_kept (s : State) (p : Nat) :
    (State.chkFold s p).kept = s.kept := by
  simp [State.chkFold, kept_all]

@[simp] theorem State.setLane_kept (s : State) (p : Nat) (f : Lane → Lane) :
    (State.setLane s p f).kept = s.kept := by
  simp [State.setLane, kept_all]

/-! Machine/Chain.lean -/

@[simp] theorem State.openSettle_kept (s : State) (ch : Nat) (e : Nat) :
    (State.openSettle s ch e).kept = s.kept := by
  simp [State.openSettle, kept_all]

@[simp] theorem State.resizeSettle_kept (s : State) (ch : Nat) :
    (State.resizeSettle s ch).kept = s.kept := by
  simp [State.resizeSettle, kept_all]

@[simp] theorem State.calswapAt_kept (s : State) (ch : Nat) (e : Nat) :
    (State.calswapAt s ch e).kept = s.kept := by
  simp [State.calswapAt, kept_all]

@[simp] theorem State.dropPend_kept (s : State) (ch : Nat) (cause : Nat) (f : Nat → Bool) :
    (State.dropPend s ch cause f).kept = s.kept := by
  simp [State.dropPend, kept_all]

@[simp] theorem State.coarseRestart_kept (s : State) (ch : Nat) (e : Nat) :
    (State.coarseRestart s ch e).kept = s.kept := by
  simp [State.coarseRestart, kept_all]

@[simp] theorem State.sourceShift_kept (s : State) (ch : Nat) (e : Nat) :
    (State.sourceShift s ch e).kept = s.kept := by
  unfold State.sourceShift
  refine kept_forAll _ _ _ (fun s x => ?_)
  (repeat' (first | (simp [kept_all]; done) | split | (simp [kept_all]; split)))

@[simp] theorem State.inputChange_kept (s : State) (ch : Nat) (e : Nat) :
    (State.inputChange s ch e).kept = s.kept := by
  simp [State.inputChange, kept_all]

@[simp] theorem State.clearingRestart_kept (s : State) (ch : Nat) (e : Nat) :
    (State.clearingRestart s ch e).kept = s.kept := by
  simp [State.clearingRestart, kept_all]

@[simp] theorem State.mark_kept (s : State) (ch : Nat) (t : Nat) (m : Mark) :
    (State.mark s ch t m).kept = s.kept := by
  simp [State.mark, kept_all]

@[simp] theorem State.setGain_kept (s : State) (ch : Nat) (g : Nat) (e : Nat) :
    (State.setGain s ch g e).kept = s.kept := by
  simp [State.setGain, kept_all]

@[simp] theorem State.gainChange_kept (s : State) (ch : Nat) (g : Nat) (e : Nat) :
    (State.gainChange s ch g e).kept = s.kept := by
  simp [State.gainChange, kept_all]

@[simp] theorem State.spIdle_kept (s : State) (cell : Nat) :
    (State.spIdle s cell).kept = s.kept := by
  simp [State.spIdle, kept_all]

@[simp] theorem State.countFallback_kept (s : State) (cell : Nat) :
    (State.countFallback s cell).kept = s.kept := by
  simp [State.countFallback, kept_all]

@[simp] theorem State.convStart_kept (s : State) (ch : Nat) (sp : Bool) :
    (State.convStart s ch sp).kept = s.kept := by
  simp [State.convStart, kept_all]

@[simp] theorem State.startSeamless_kept (s : State) (ch : Nat) (g : Nat) (b : Nat) :
    (State.startSeamless s ch g b).kept = s.kept := by
  simp [State.startSeamless, kept_all]

@[simp] theorem State.takeGain_kept (s : State) (ch : Nat) (g : Nat) :
    (State.takeGain s ch g).kept = s.kept := by
  simp only [State.takeGain]
  (repeat' split)
  all_goals simp [kept_all]

@[simp] theorem State.flaggedGain_kept (s : State) (ch : Nat) (g : Nat) :
    (State.flaggedGain s ch g).kept = s.kept := by
  simp only [State.flaggedGain]
  (repeat' split)
  all_goals simp [kept_all]

@[simp] theorem State.coldSwitch_kept (s : State) (ch : Nat) (k : Conv) :
    (State.coldSwitch s ch k).kept = s.kept := by
  simp [State.coldSwitch, kept_all]

@[simp] theorem State.retire_kept (s : State) (cell : Nat) (m : Nat) :
    (State.retire s cell m).kept = s.kept := by
  simp [State.retire, kept_all]

@[simp] theorem State.unretire_kept (s : State) (cell : Nat) (m : Nat) :
    (State.unretire s cell m).kept = s.kept := by
  simp [State.unretire, kept_all]

@[simp] theorem State.evConverter_kept (s : State) (kind : Nat) (cell : Nat) (m : Nat) :
    (State.evConverter s kind cell m).kept = s.kept := by
  simp [State.evConverter, kept_all]

@[simp] theorem State.blank_kept (s : State) (src : Nat) (e : Nat) :
    (State.blank s src e).kept = s.kept := by
  simp [State.blank, kept_all]

@[simp] theorem State.startChan_kept (s : State) (fenced : Bool) (e : Nat) (ch : Nat) :
    (State.startChan s fenced e ch).kept = s.kept := by
  simp [State.startChan, kept_all]

@[simp] theorem State.drive_kept (s : State) (n : Nat) :
    (State.drive s n).kept = s.kept := by
  simp [State.drive, kept_all]

@[simp] theorem State.openPoints_kept (s : State) (cell : Nat) (e : Nat) :
    (State.openPoints s cell e).kept = s.kept := by
  simp [State.openPoints, kept_all]

@[simp] theorem State.driveGuard_kept (s : State) (cell : Nat) :
    (State.driveGuard s cell).kept = s.kept := by
  simp [State.driveGuard, kept_all]

@[simp] theorem State.closePoints_kept (s : State) (cell : Nat) :
    (State.closePoints s cell).kept = s.kept := by
  simp [State.closePoints, kept_all]

@[simp] theorem State.startCell_kept (s : State) (fenced : Bool) (e : Nat) (cell : Nat) :
    (State.startCell s fenced e cell).kept = s.kept := by
  simp [State.startCell, kept_all]

@[simp] theorem State.stopCell_kept (s : State) (cell : Nat) :
    (State.stopCell s cell).kept = s.kept := by
  simp [State.stopCell, kept_all]

/-! Machine/SafetyOps.lean -/

@[simp] theorem State.setSo_kept (s : State) (x : Nat) (o : So) :
    (State.setSo s x o).kept = s.kept := by
  simp [State.setSo, kept_all]

@[simp] theorem State.modSo_kept (s : State) (x : Nat) (f : So → So) :
    (State.modSo s x f).kept = s.kept := by
  simp [State.modSo, kept_all]

@[simp] theorem State.modSi_kept (s : State) (x : Nat) (f : Si → Si) :
    (State.modSi s x f).kept = s.kept := by
  simp [State.modSi, kept_all]

@[simp] theorem State.modPair_kept (s : State) (p : Nat) (f : AlarmPair → AlarmPair) :
    (State.modPair s p f).kept = s.kept := by
  simp [State.modPair, kept_all]

@[simp] theorem State.modNsl_kept (s : State) (c : Nat) (f : Nsl → Nsl) :
    (State.modNsl s c f).kept = s.kept := by
  simp [State.modNsl, kept_all]

@[simp] theorem State.soState_kept (s : State) (x : Nat) (st : SoState) :
    (State.soState s x st).kept = s.kept := by
  simp [State.soState, kept_all]

@[simp] theorem State.soDrive_kept (s : State) (x : Nat) (hs : Bool) (ls : Bool) :
    (State.soDrive s x hs ls).kept = s.kept := by
  simp [State.soDrive, kept_all]

@[simp] theorem State.soResult_kept (s : State) (x : Nat) (d : Nat) (r : Nat) :
    (State.soResult s x d r).kept = s.kept := by
  simp [State.soResult, kept_all]

@[simp] theorem State.schedTest_kept (s : State) (x : Nat) (d : Nat) (t : Nat) :
    (State.schedTest s x d t).kept = s.kept := by
  unfold State.schedTest
  split <;> simp [kept_all]

@[simp] theorem State.soPlan_kept (s : State) (x : Nat) :
    (State.soPlan s x).kept = s.kept := by
  simp only [State.soPlan]
  (repeat' split)
  all_goals simp [kept_all]

@[simp] theorem State.soOn_kept (s : State) (x : Nat) :
    (State.soOn s x).kept = s.kept := by
  simp only [State.soOn]
  (repeat' split)
  all_goals simp [kept_all]

@[simp] theorem State.soFollow_kept (s : State) (x : Nat) :
    (State.soFollow s x).kept = s.kept := by
  simp [State.soFollow, kept_all]

@[simp] theorem State.soLatch_kept (s : State) (x : Nat) :
    (State.soLatch s x).kept = s.kept := by
  simp [State.soLatch, kept_all]

@[simp] theorem State.safetyRefresh_kept (s : State) :
    (State.safetyRefresh s).kept = s.kept := by
  simp [State.safetyRefresh, kept_all]

@[simp] theorem State.pairUpdate_kept (s : State) (p : Nat) (f : AlarmPair → AlarmPair) :
    (State.pairUpdate s p f).kept = s.kept := by
  simp [State.pairUpdate, kept_all]

/-! Machine/FaultOps.lean -/

@[simp] theorem State.setCauses_kept (s : State) (kind : Nat) (num : Nat) (l : List Cause) :
    (State.setCauses s kind num l).kept = s.kept := by
  unfold State.setCauses
  split <;> simp [kept_all]

@[simp] theorem State.pairInactive_kept (s : State) (n : Nat) :
    (State.pairInactive s n).kept = s.kept := by
  simp [State.pairInactive, kept_all]

@[simp] theorem State.pairEnds_kept (s : State) (n : Nat) :
    (State.pairEnds s n).kept = s.kept := by
  unfold State.pairEnds
  split <;> simp [kept_all]

@[simp] theorem State.wireMends_kept (s : State) (n : Nat) :
    (State.wireMends s n).kept = s.kept := by
  simp [State.wireMends, kept_all]

@[simp] theorem State.pairQuiet_kept (s : State) (n : Nat) :
    (State.pairQuiet s n).kept = s.kept := by
  simp [State.pairQuiet, kept_all]

@[simp] theorem State.vwAbort_kept (s : State) (src : Nat) :
    (State.vwAbort s src).kept = s.kept := by
  simp [State.vwAbort, kept_all]

@[simp] theorem State.stopUnit_kept (s : State) (kind : Nat) (num : Nat) :
    (State.stopUnit s kind num).kept = s.kept := by
  unfold State.stopUnit
  split <;> simp [kept_all]

@[simp] theorem State.fence_kept (s : State) (kind : Nat) (num : Nat) (c : Cause) :
    (State.fence s kind num c).kept = s.kept := by
  simp [State.fence, kept_all]

@[simp] theorem State.safeOn_kept (s : State) (n : Nat) :
    (State.safeOn s n).kept = s.kept := by
  simp [State.safeOn, kept_all]

@[simp] theorem State.yieldLead_kept (s : State) :
    (State.yieldLead s).kept = s.kept := by
  simp [State.yieldLead, kept_all]

@[simp] theorem State.locketTake_kept (s : State) (n : Nat) (sev : Bool) (detail : Word) :
    (State.locketTake s n sev detail).1.kept = s.kept := by
  simp only [State.locketTake]
  (repeat' split)
  all_goals simp [kept_all]

@[simp] theorem State.react_kept (s : State) (n : Nat) (c : Nat) :
    (State.react s n c).kept = s.kept := by
  unfold State.react
  split <;> simp [kept_all]

@[simp] theorem State.takeOcc_kept (s : State) (n : Nat) (detail : Word) :
    (State.takeOcc s n detail).kept = s.kept := by
  simp [State.takeOcc, kept_all]

@[simp] theorem State.report_kept (s : State) (n : Nat) (detail : Word) :
    (State.report s n detail).kept = s.kept := by
  simp [State.report, kept_all]

@[simp] theorem State.reportByCore_kept (s : State) (n : Nat) (detail : Word) :
    (State.reportByCore s n detail).kept = s.kept := by
  simp [State.reportByCore, kept_all]

@[simp] theorem State.soQuiet_kept (s : State) (x : Nat) :
    (State.soQuiet s x).kept = s.kept := by
  unfold State.soQuiet
  split <;> simp [kept_all]

@[simp] theorem State.soFault_kept (s : State) (x : Nat) (side : Nat) (kase : Nat) :
    (State.soFault s x side kase).kept = s.kept := by
  simp [State.soFault, kept_all]

@[simp] theorem State.sensorEnds_kept (s : State) (l : List Nat) (f : State → State) :
    (State.sensorEnds s l f).kept = (f s).kept := by
  simp [State.sensorEnds, kept_all]

@[simp] theorem State.reportStatus_kept (s : State) (ch : Nat) (old : Nat) :
    (State.reportStatus s ch old).kept = s.kept := by
  simp [State.reportStatus, kept_all]

@[simp] theorem State.withStatus_kept (s : State) (cell : Nat) (f : State → State) (hf : ∀ s, (f s).kept = s.kept) :
    (State.withStatus s cell f).kept = s.kept := by
  simp [State.withStatus, kept_all, hf]

@[simp] theorem State.setSrcStatus_kept (s : State) (n : Nat) :
    (State.setSrcStatus s n).kept = s.kept := by
  simp [State.setSrcStatus, kept_all]

/-! Machine/Domains.lean -/

@[simp] theorem State.domainPairsQuiet_kept (s : State) (n : Nat) :
    (State.domainPairsQuiet s n).kept = s.kept := by
  simp [State.domainPairsQuiet, kept_all]

@[simp] theorem State.evDomain_kept (s : State) (n : Nat) (on : Bool) :
    (State.evDomain s n on).kept = s.kept := by
  simp [State.evDomain, kept_all]

@[simp] theorem State.stopQuad_kept (s : State) (q : Nat) :
    (State.stopQuad s q).kept = s.kept := by
  simp [State.stopQuad, kept_all]

@[simp] theorem State.laneDown_kept (s : State) (p : Nat) :
    (State.laneDown s p).kept = s.kept := by
  simp [State.laneDown, kept_all]

@[simp] theorem State.dropDeferred_kept (s : State) :
    (State.dropDeferred s).kept = s.kept := by
  simp [State.dropDeferred, kept_all]

@[simp] theorem State.losePd2_kept (s : State) :
    (State.losePd2 s).kept = s.kept := by
  simp [State.losePd2, kept_all]

@[simp] theorem State.dark_kept (s : State) (n : Nat) :
    (State.dark s n).kept = s.kept := by
  simp [State.dark, kept_all]

@[simp] theorem State.offEffect_kept (s : State) (n : Nat) :
    (State.offEffect s n).kept = s.kept := by
  unfold State.offEffect
  split <;> simp [kept_all]

@[simp] theorem State.domainOff_kept4 (s : State) (n : Nat) :
    (s.domainOff n).kept.1.1 = s.kept.1.1 ∧ (s.domainOff n).kept.1.2.1 = s.kept.1.2.1 ∧ (s.domainOff n).kept.1.2.2.1 = s.kept.1.2.2.1 ∧
      (s.domainOff n).kept.1.2.2.2.1 = s.kept.1.2.2.2.1 ∧ (s.domainOff n).kept.2 = s.kept.2 := by
  unfold State.domainOff
  split
  · simp
  · simp [kept_all]

theorem State.domainOff_pdOk (s : State) (n : Nat) (h : s.pdOk) : (s.domainOff n).pdOk := by
  unfold State.domainOff
  split
  · exact h
  · simpa [State.pdOk, kept_all] using pd_off _ _ (2 ^ n) h

theorem State.domainOff_near (s : State) (n : Nat) : near s (s.domainOff n) :=
  ⟨by simp, State.domainOff_pdOk s n⟩

@[simp] theorem State.domainOn_kept4 (s : State) (n : Nat) :
    (s.domainOn n).kept.1.1 = s.kept.1.1 ∧ (s.domainOn n).kept.1.2.1 = s.kept.1.2.1 ∧ (s.domainOn n).kept.1.2.2.1 = s.kept.1.2.2.1 ∧
      (s.domainOn n).kept.1.2.2.2.1 = s.kept.1.2.2.2.1 ∧ (s.domainOn n).kept.2 = s.kept.2 := by
  unfold State.domainOn
  split <;> simp [kept_all]

theorem State.domainOn_pdOk (s : State) (n : Nat) (h : s.pdOk) : (s.domainOn n).pdOk := by
  unfold State.domainOn
  split <;> simpa [State.pdOk, kept_all] using pd_on _ _ (2 ^ n) h

theorem State.domainOn_near (s : State) (n : Nat) : near s (s.domainOn n) :=
  ⟨by simp, State.domainOn_pdOk s n⟩

@[simp] theorem State.unfenceReplies_kept (s : State) (kind : Nat) (num : Nat) :
    (State.unfenceReplies s kind num).kept = s.kept := by
  simp [State.unfenceReplies, kept_all]

@[simp] theorem State.rejoinCell_kept (s : State) (c : Nat) :
    (State.rejoinCell s c).kept = s.kept := by
  simp [State.rejoinCell, kept_all]

@[simp] theorem State.openPd2_kept (s : State) :
    (State.openPd2 s).kept = s.kept := by
  simp [State.openPd2, kept_all]

@[simp] theorem State.regainPd2_kept (s : State) :
    (State.regainPd2 s).kept = s.kept := by
  simp [State.regainPd2, kept_all]

@[simp] theorem State.reloadPd2_kept (s : State) :
    (State.reloadPd2 s).kept = s.kept := by
  simp [State.reloadPd2, kept_all]

@[simp] theorem State.onEffect_kept (s : State) (n : Nat) :
    (State.onEffect s n).kept = s.kept := by
  simp [State.onEffect, kept_all]

/-- A domain's return makes it good, if it was on and not good, and keeps the rest. -/
theorem State.domainReturn_cases (s : State) (n : Nat) (bad : List Nat) :
    (s.domainReturn n bad).kept = s.kept ∨ (bit s.pdOn.toNat n = true ∧
      (s.domainReturn n bad).kept = ({ s with pdGood := s.pdGood ||| BitVec.ofNat 16 (2 ^ n) } : State).kept) := by
  unfold State.domainReturn
  split
  · exact .inl rfl
  · rename_i hb
    refine .inr ⟨by cases hc : bit s.pdOn.toNat n <;> simp [hc] at hb ⊢, ?_⟩
    dsimp only
    rw [State.lateDone_kept, State.onEffect_kept, kept_forAll _ _ _ (fun s x => by simp [kept_all]), State.evDomain_kept]
    split <;> simp

@[simp] theorem State.domainReturn_kept4 (s : State) (n : Nat) (bad : List Nat) :
    (s.domainReturn n bad).kept.1.1 = s.kept.1.1 ∧ (s.domainReturn n bad).kept.1.2.1 = s.kept.1.2.1 ∧
      (s.domainReturn n bad).kept.1.2.2.1 = s.kept.1.2.2.1 ∧
      (s.domainReturn n bad).kept.1.2.2.2.1 = s.kept.1.2.2.2.1 ∧ (s.domainReturn n bad).kept.2 = s.kept.2 := by
  rcases s.domainReturn_cases n bad with h | ⟨_, h⟩ <;> simp [h, kept_all]

theorem State.domainReturn_pdOk (s : State) (n : Nat) (bad : List Nat) (h : s.pdOk) :
    (s.domainReturn n bad).pdOk := by
  rcases s.domainReturn_cases n bad with hk | ⟨hn, hk⟩
  · exact pdOk_of_kept hk h
  · simpa [State.pdOk, hk, kept_all] using pd_good _ _ _ h (bit_mask _ n hn)

theorem State.domainReturn_near (s : State) (n : Nat) (bad : List Nat) : near s (s.domainReturn n bad) :=
  ⟨by simp, State.domainReturn_pdOk s n bad⟩

/-! Machine/Commands.lean -/

@[simp] theorem State.hostReadEvents_kept (s : State) (n : Nat) (ecc : List Ecc) :
    (State.hostReadEvents s n ecc).kept = s.kept := by
  simp [State.hostReadEvents, kept_all]

@[simp] theorem State.startNext_kept (s : State) :
    (State.startNext s).kept = s.kept := by
  unfold State.startNext
  split <;> simp [kept_all]

@[simp] theorem State.modFw_kept (s : State) (n : Nat) (f : FwSlot → FwSlot) :
    (State.modFw s n f).kept = s.kept := by
  simp [State.modFw, kept_all]

@[simp] theorem State.openFence_kept (s : State) (h : Hdr) (scope : Nat) :
    (State.openFence s h scope).kept = s.kept := by
  simp [State.openFence, kept_all]

@[simp] theorem State.laneSwitches_kept (s : State) (on : Bool) (lanes : Nat) :
    (State.laneSwitches s on lanes).kept = s.kept := by
  simp [State.laneSwitches, kept_all]

theorem State.pdSwitch_near (s : State) (h : Hdr) (n a : Nat) : near s (s.pdSwitch h n a) := by
  unfold State.pdSwitch
  dsimp only
  have hs : near s (if a = 1 then s.domainOn n else s.domainOff n) := near_ite _ (s.domainOn_near n) (s.domainOff_near n)
  revert hs
  generalize (if a = 1 then s.domainOn n else s.domainOff n) = u
  intro hs
  exact near_ite _ (near_trans hs (near_of_kept (by simp))) (near_trans hs (near_of_kept (by simp)))

/-! Machine/Measure.lean -/

@[simp] theorem State.reduce_kept (s : State) (ch : Nat) (e : Entry) :
    (State.reduce s ch e).kept = s.kept := by
  simp [State.reduce, kept_all]

@[simp] theorem State.closeAcc_kept (s : State) (ch : Nat) (r : Reason) :
    (State.closeAcc s ch r).kept = s.kept := by
  simp [State.closeAcc, kept_all]

@[simp] theorem State.closeMm_kept (s : State) (ch : Nat) (r : Reason) :
    (State.closeMm s ch r).kept = s.kept := by
  simp [State.closeMm, kept_all]

@[simp] theorem State.closeBoth_kept (s : State) (ch : Nat) (r : Reason) :
    (State.closeBoth s ch r).kept = s.kept := by
  simp [State.closeBoth, kept_all]

@[simp] theorem State.splitIntervals_kept (s : State) (ch : Nat) :
    (State.splitIntervals s ch).kept = s.kept := by
  simp [State.splitIntervals, kept_all]

@[simp] theorem State.restartIntervals_kept (s : State) (ch : Nat) (resync : Bool) :
    (State.restartIntervals s ch resync).kept = s.kept := by
  simp [State.restartIntervals, kept_all]

@[simp] theorem State.recfgIntervals_kept (s : State) (ch : Nat) :
    (State.recfgIntervals s ch).kept = s.kept := by
  simp [State.recfgIntervals, kept_all]

@[simp] theorem State.setStat2_kept (s : State) (id : Nat) (v : Nat) :
    (State.setStat2 s id v).kept = s.kept := by
  simp [State.setStat2, kept_all]

@[simp] theorem State.latchReductions_kept (s : State) (ch : Nat) (a : Acc) (ra : Nat) (m : MinMax) (rm : Nat)
    (sh : Nat) :
    (State.latchReductions s ch a ra m rm sh).kept = s.kept := by
  simp [State.latchReductions, kept_all]

@[simp] theorem State.putResult_kept (s : State) (ch : Nat) (b : List Byte) :
    (State.putResult s ch b).kept = s.kept := by
  simp [State.putResult, kept_all]

/-! Machine/TriggerOps.lean -/

@[simp] theorem State.slotReset_kept (s : State) (n : Nat) :
    (State.slotReset s n).kept = s.kept := by
  simp [State.slotReset, kept_all]

@[simp] theorem State.slotMoved_kept (s : State) (n : Nat) (m : Slot) :
    (State.slotMoved s n m).kept = s.kept := by
  simp [State.slotMoved, kept_all]

@[simp] theorem State.slotValue_kept (s : State) (n : Nat) (x : Int) (settle : Bool) (t : Nat) :
    (State.slotValue s n x settle t).kept = s.kept := by
  simp [State.slotValue, kept_all]

@[simp] theorem State.slotValues_kept (s : State) (ch : Nat) (fine : Bool) (x : Int) (settle : Bool) (t : Nat) :
    (State.slotValues s ch fine x settle t).kept = s.kept := by
  simp [State.slotValues, kept_all]

@[simp] theorem State.extSee_kept (s : State) (n : Nat) (t : Nat) (mine : Bool) :
    (State.extSee s n t mine).kept = s.kept := by
  simp [State.extSee, kept_all]

@[simp] theorem State.extMessage_kept (s : State) (n : Nat) (t : Nat) :
    (State.extMessage s n t).kept = s.kept := by
  simp [State.extMessage, kept_all]

@[simp] theorem State.recSlot_kept (s : State) (k : Nat) (ch : Nat) (w : RingWord) :
    (State.recSlot s k ch w).1.kept = s.kept := by
  unfold State.recSlot
  split <;> simp [kept_all]

@[simp] theorem State.modRecSpan_kept (s : State) (k : Nat) (ch : Nat) (f : Span → Span) :
    (State.modRecSpan s k ch f).kept = s.kept := by
  simp [State.modRecSpan, kept_all]

@[simp] theorem State.memberDone_kept (s : State) (k : Nat) (ch : Nat) :
    (State.memberDone s k ch).kept = s.kept := by
  unfold State.memberDone
  split <;> simp [kept_all]

@[simp] theorem State.memberTake_kept (s : State) (k : Nat) (ch : Nat) (w : RingWord) :
    (State.memberTake s k ch w).kept = s.kept := by
  simp only [State.memberTake]
  (repeat' split)
  all_goals simp [kept_all]

@[simp] theorem State.memberCheck_kept (s : State) (k : Nat) (ch : Nat) :
    (State.memberCheck s k ch).kept = s.kept := by
  unfold State.memberCheck
  split <;> simp [kept_all]

@[simp] theorem State.startRecSpan_kept (s : State) (k : Nat) (ch : Nat) (num : Nat) (epoch : Nat) :
    (State.startRecSpan s k ch num epoch).kept = s.kept := by
  simp [State.startRecSpan, kept_all]

@[simp] theorem State.missed_kept (s : State) (cause : Nat) (profile : Nat) (ncode : Nat) :
    (State.missed s cause profile ncode).kept = s.kept := by
  simp [State.missed, kept_all]

@[simp] theorem State.putLone_kept (s : State) (typ : Nat) (prof : Nat) (i : Item) :
    (State.putLone s typ prof i).kept = s.kept := by
  simp [State.putLone, kept_all]

@[simp] theorem State.nextRecNum_kept (s : State) :
    (State.nextRecNum s).kept = s.kept := by
  simp [State.nextRecNum, kept_all]

@[simp] theorem State.lineEdge_kept (s : State) (line : Nat) (rising : Bool) :
    (State.lineEdge s line rising).kept = s.kept := by
  simp [State.lineEdge, kept_all]

@[simp] theorem State.reinPulse_kept (s : State) (line : Nat) :
    (State.reinPulse s line).kept = s.kept := by
  simp [State.reinPulse, kept_all]

@[simp] theorem State.recordPulses_kept (s : State) (p : Nat) :
    (State.recordPulses s p).kept = s.kept := by
  simp [State.recordPulses, kept_all]

@[simp] theorem State.fillRec_kept (s : State) (k : Nat) (p : Nat) (o : Opening) :
    (State.fillRec s k p o).kept = s.kept := by
  simp [State.fillRec, kept_all]

@[simp] theorem State.extendRec_kept (s : State) (k : Nat) (e : Nat) (open_ : Bool) :
    (State.extendRec s k e open_).kept = s.kept := by
  unfold State.extendRec
  split <;> simp [kept_all]

@[simp] theorem State.trigger_kept (s : State) (p : Nat) (o : Opening) :
    (State.trigger s p o).1.kept = s.kept := by
  simp only [State.trigger]
  (repeat' split)
  all_goals simp [kept_all]

@[simp] theorem State.groupSee_kept (s : State) (g : Nat) (slots : List Nat) (t : Nat) :
    (State.groupSee s g slots t).1.kept = s.kept := by
  simp only [State.groupSee]
  (repeat' split)
  all_goals simp [kept_all]

@[simp] theorem State.groupsSee_kept (s : State) (slots : List Nat) (t : Nat) :
    (State.groupsSee s slots t).1.kept = s.kept := by
  unfold State.groupsSee
  refine kept_foldl _ _ _ (fun a x => ?_)
  dsimp only
  split <;> simp

@[simp] theorem State.openFired_kept (s : State) (f : Forming) (fired : List (Nat × Nat)) :
    (State.openFired s f fired).1.kept = s.kept := by
  unfold State.openFired
  refine kept_foldl _ _ _ (fun a x => ?_)
  dsimp only
  split
  · rfl
  · split <;> simp

@[simp] theorem State.evalTrigger_kept (s : State) (f : Forming) :
    (State.evalTrigger s f).kept = s.kept := by
  simp [State.evalTrigger, kept_all]

/-! Machine/CalOps.lean -/

@[simp] theorem State.modTrims_kept (s : State) (key : Nat) (f : Trims → Trims) :
    (State.modTrims s key f).kept = s.kept := by
  simp [State.modTrims, kept_all]

@[simp] theorem State.modSrcTrim_kept (s : State) (n : Nat) (f : Trim1 → Trim1) :
    (State.modSrcTrim s n f).kept = s.kept := by
  simp [State.modSrcTrim, kept_all]

@[simp] theorem State.modAmpTrim_kept (s : State) (n : Nat) (f : Trim1 → Trim1) :
    (State.modAmpTrim s n f).kept = s.kept := by
  simp [State.modAmpTrim, kept_all]

@[simp] theorem State.gapOpen_kept (s : State) (ch : Nat) :
    (State.gapOpen s ch).kept = s.kept := by
  simp [State.gapOpen, kept_all]

@[simp] theorem State.gapCloseAt_kept (s : State) (cell : Nat) (e : Nat) :
    (State.gapCloseAt s cell e).kept = s.kept := by
  unfold State.gapCloseAt
  split <;> simp [kept_all]

@[simp] theorem State.gapClose_kept (s : State) (cell : Nat) :
    (State.gapClose s cell).kept = s.kept := by
  simp [State.gapClose, kept_all]

@[simp] theorem State.startTakeover_kept (s : State) (perm : Bool) (ch : Nat) :
    (State.startTakeover s perm ch).kept = s.kept := by
  simp [State.startTakeover, kept_all]

@[simp] theorem State.startHandback_kept (s : State) (perm : Bool) (ch : Nat) :
    (State.startHandback s perm ch).kept = s.kept := by
  simp [State.startHandback, kept_all]

@[simp] theorem State.calKick_kept (s : State) (cell : Nat) :
    (State.calKick s cell).kept = s.kept := by
  simp only [State.calKick]
  (repeat' split)
  all_goals simp [kept_all]

@[simp] theorem State.returnCell_kept (s : State) (cell : Nat) :
    (State.returnCell s cell).kept = s.kept := by
  simp [State.returnCell, kept_all]

@[simp] theorem State.calDone_kept (s : State) (kind : Nat) (target : Nat) (res : Nat) :
    (State.calDone s kind target res).kept = s.kept := by
  simp only [State.calDone]
  (repeat' split)
  all_goals simp [kept_all]

@[simp] theorem State.calDrop_kept (s : State) (ch : Nat) (res : Nat) :
    (State.calDrop s ch res).kept = s.kept := by
  unfold State.calDrop
  split <;> simp [kept_all]

@[simp] theorem State.dropGap_kept (s : State) (ch : Nat) :
    (State.dropGap s ch).kept = s.kept := by
  simp [State.dropGap, kept_all]

@[simp] theorem State.abandonGap_kept (s : State) (ch : Nat) :
    (State.abandonGap s ch).kept = s.kept := by
  simp [State.abandonGap, kept_all]

@[simp] theorem State.gapDue_kept (s : State) (cell : Nat) :
    (State.gapDue s cell).kept = s.kept := by
  unfold State.gapDue
  split <;> simp [kept_all]

@[simp] theorem State.abandonBusyGaps_kept (s : State) :
    (State.abandonBusyGaps s).kept = s.kept := by
  unfold State.abandonBusyGaps
  refine kept_forAll _ _ _ (fun s x => ?_)
  (repeat' (first | (simp [kept_all]; done) | split | (simp [kept_all]; split)))

@[simp] theorem State.dropBusyGaps_kept (s : State) :
    (State.dropBusyGaps s).kept = s.kept := by
  simp [State.dropBusyGaps, kept_all]

@[simp] theorem State.offerTrims_kept (s : State) (key : Nat) (ofs : List Int) (gain : List Int) :
    (State.offerTrims s key ofs gain).kept = s.kept := by
  simp [State.offerTrims, kept_all]

@[simp] theorem State.pauseChan_kept (s : State) (ch : Nat) :
    (State.pauseChan s ch).kept = s.kept := by
  simp [State.pauseChan, kept_all]

end Sys2Proof.Machine
end

