-- ==== Sys2Proof/Laws/KeptOps2.lean ====
section
/-! SUPPORT. The operations of the front ends, samples, records, time, calibration, optical chain and storage keep the kept part. -/

set_option Elab.async false

namespace Sys2Proof.Machine

/-! Machine/FrontEnd.lean -/

@[simp] theorem State.sourceChange_kept (s : State) (n : Nat) (e : Nat) :
    (State.sourceChange s n e).kept = s.kept := by
  simp [State.sourceChange, kept_all]

@[simp] theorem State.freqChange_kept (s : State) (n : Nat) (old : Nat) (e : Nat) :
    (State.freqChange s n old e).kept = s.kept := by
  simp [State.freqChange, kept_all]

@[simp] theorem State.routeEffect_kept (s : State) (cell : Nat) (old : Nat) (new : Nat) (e : Nat) :
    (State.routeEffect s cell old new e).kept = s.kept := by
  simp [State.routeEffect, kept_all]

@[simp] theorem State.gaitEffect_kept (s : State) (ch : Nat) (g : Nat) (e : Nat) :
    (State.gaitEffect s ch g e).kept = s.kept := by
  simp [State.gaitEffect, kept_all]

@[simp] theorem State.keepGait_kept (s : State) (ch : Nat) (e : Nat) :
    (State.keepGait s ch e).kept = s.kept := by
  simp [State.keepGait, kept_all]

@[simp] theorem State.dueEffect_kept (s : State) (ch : Nat) (u : Nat) (k : Nat) :
    (State.dueEffect s ch u k).kept = s.kept := by
  unfold State.dueEffect
  split <;> simp [kept_all]

@[simp] theorem State.dueEffects_kept (s : State) (ch : Nat) (u : Nat) :
    (State.dueEffects s ch u).kept = s.kept := by
  simp [State.dueEffects, kept_all]

@[simp] theorem State.atOutput_kept (s : State) (ch : Nat) (b : Nat) (k : Nat) :
    (State.atOutput s ch b k).kept = s.kept := by
  simp [State.atOutput, kept_all]

@[simp] theorem State.channelEffect_kept (s : State) (n : Nat) (k : Nat) (old : Nat) (new : Nat) (e : Nat) :
    (State.channelEffect s n k old new e).kept = s.kept := by
  unfold State.channelEffect
  split <;> simp [kept_all]

@[simp] theorem State.noDrift_kept (s : State) (n : Nat) :
    (State.noDrift s n).kept = s.kept := by
  simp [State.noDrift, kept_all]

@[simp] theorem State.itemEffect_kept (s : State) (cell : Nat) (id : Nat) (old : Nat) (new : Nat) (e : Nat) :
    (State.itemEffect s cell id old new e).kept = s.kept := by
  unfold State.itemEffect
  split <;> simp [kept_all]

@[simp] theorem State.takeIssued_kept (s : State) (cell : Nat) :
    (State.takeIssued s cell).kept = s.kept := by
  simp [State.takeIssued, kept_all]

@[simp] theorem State.vwBegin_kept (s : State) (src : Nat) :
    (State.vwBegin s src).kept = s.kept := by
  simp [State.vwBegin, kept_all]

@[simp] theorem State.monitorStep_kept (s : State) (n : Nat) (m : Monitor) :
    (State.monitorStep s n m).kept = s.kept := by
  simp [State.monitorStep, kept_all]

@[simp] theorem State.evaluate_kept (s : State) (src : Nat) (m : Monitor) :
    (State.evaluate s src m).kept = s.kept := by
  simp [State.evaluate, kept_all]

@[simp] theorem State.setQa_kept (s : State) (cell : Nat) (qa : Nat) (a : Qa) :
    (State.setQa s cell qa a).kept = s.kept := by
  simp [State.setQa, kept_all]

@[simp] theorem State.qaReset_kept (s : State) (cell : Nat) (qa : Nat) (lv : QaLevels) :
    (State.qaReset s cell qa lv).kept = s.kept := by
  simp [State.qaReset, kept_all]

@[simp] theorem State.qaDue_kept (s : State) (cell : Nat) (qa : Nat) (lv : QaLevels) :
    (State.qaDue s cell qa lv).kept = s.kept := by
  simp [State.qaDue, kept_all]

@[simp] theorem State.seamTo_kept (s : State) (ch : Nat) (k : Conv) (g : Nat) :
    (State.seamTo s ch k g).kept = s.kept := by
  simp [State.seamTo, kept_all]

@[simp] theorem State.evAutoRange_kept (s : State) (ch : Nat) (old : Nat) (new : Nat) (cause : Nat) :
    (State.evAutoRange s ch old new cause).kept = s.kept := by
  simp [State.evAutoRange, kept_all]

@[simp] theorem State.switchCold_kept (s : State) (ch : Nat) (k : Conv) :
    (State.switchCold s ch k).kept = s.kept := by
  simp [State.switchCold, kept_all]

@[simp] theorem State.takeCold_kept (s : State) (ch : Nat) :
    (State.takeCold s ch).kept = s.kept := by
  simp [State.takeCold, kept_all]

@[simp] theorem State.loneFence_kept (s : State) (ch : Nat) :
    (State.loneFence s ch).kept = s.kept := by
  simp [State.loneFence, kept_all]

@[simp] theorem State.freeSp_kept (s : State) (cell : Nat) (ch : Nat) :
    (State.freeSp s cell ch).1.kept = s.kept := by
  simp only [State.freeSp]
  (repeat' split)
  all_goals simp [kept_all]

@[simp] theorem State.ownFails_kept (s : State) (cell : Nat) (m : Nat) :
    (State.ownFails s cell m).kept = s.kept := by
  simp only [State.ownFails]
  (repeat' split)
  all_goals simp [kept_all]

@[simp] theorem State.spFails_kept (s : State) (cell : Nat) :
    (State.spFails s cell).kept = s.kept := by
  simp only [State.spFails]
  (repeat' split)
  all_goals simp [kept_all]

@[simp] theorem State.coldResume_kept (s : State) (ch : Nat) (u : Nat) :
    (State.coldResume s ch u).kept = s.kept := by
  unfold State.coldResume
  split <;> simp [kept_all]

@[simp] theorem State.takeLone_kept (s : State) (ch : Nat) :
    (State.takeLone s ch).kept = s.kept := by
  simp [State.takeLone, kept_all]

@[simp] theorem State.doSpAssign_kept (s : State) (cell : Nat) (val : Nat) :
    (State.doSpAssign s cell val).kept = s.kept := by
  simp only [State.doSpAssign]
  (repeat' split)
  all_goals simp [kept_all]

@[simp] theorem State.takeoverSeam_kept (s : State) (perm : Bool) (cell : Nat) (ch : Nat) :
    (State.takeoverSeam s perm cell ch).kept = s.kept := by
  simp [State.takeoverSeam, kept_all]

@[simp] theorem State.handbackSeam_kept (s : State) (perm : Bool) (cell : Nat) (ch : Nat) :
    (State.handbackSeam s perm cell ch).kept = s.kept := by
  simp [State.handbackSeam, kept_all]

/-! Machine/VibWire.lean -/

@[simp] theorem State.vwStart_kept (s : State) (src : Nat) :
    (State.vwStart s src).kept = s.kept := by
  unfold State.vwStart
  split <;> simp [kept_all]

@[simp] theorem State.vwFinish_kept (s : State) (src : Nat) (l : List Byte) (b : List Byte) :
    (State.vwFinish s src l b).kept = s.kept := by
  simp [State.vwFinish, kept_all]

@[simp] theorem State.spanBusy_kept (s : State) (ch : Nat) :
    (State.spanBusy s ch).kept = s.kept := by
  unfold State.spanBusy
  split <;> simp [kept_all]

/-! Machine/Samples.lean -/

@[simp] theorem State.takePeriod_kept (s : State) (ch : Nat) (u : Nat) (p : BasePer) :
    (State.takePeriod s ch u p).kept = s.kept := by
  simp [State.takePeriod, kept_all]

@[simp] theorem State.nextSeq_kept (s : State) (ch : Nat) (t : Nat) :
    (State.nextSeq s ch t).kept = s.kept := by
  simp [State.nextSeq, kept_all]

@[simp] theorem State.newSlot_kept (s : State) (ch : Nat) (u : Nat) :
    (State.newSlot s ch u).kept = s.kept := by
  simp [State.newSlot, kept_all]

@[simp] theorem State.closeGrid_kept (s : State) (ch : Nat) :
    (State.closeGrid s ch).kept = s.kept := by
  simp [State.closeGrid, kept_all]

@[simp] theorem State.reduceNext_kept (s : State) (ch : Nat) (e : Entry) :
    (State.reduceNext s ch e).kept = s.kept := by
  simp [State.reduceNext, kept_all]

@[simp] theorem State.takeMarks_kept (s : State) (ch : Nat) (t : Nat) :
    (State.takeMarks s ch t).kept = s.kept := by
  unfold State.takeMarks
  dsimp only
  split
  · simp
  · rw [kept_forAll _ _ _ (fun s m => by split <;> simp)]
    simp

@[simp] theorem State.slotIn_kept (s : State) (ch : Nat) (w : RingWord) :
    (State.slotIn s ch w).kept = s.kept := by
  simp [State.slotIn, kept_all]

@[simp] theorem State.deliverOne_kept (s : State) (ch : Nat) (p : Pend) :
    (State.deliverOne s ch p).kept = s.kept := by
  simp only [State.deliverOne]
  (repeat' split)
  all_goals simp [kept_all]

@[simp] theorem State.deliver_kept (s : State) (ch n : Nat) : (State.deliver s ch n).kept = s.kept := by
  induction n generalizing s with
  | zero => rfl
  | succ n ih =>
    simp only [State.deliver]
    split
    · rfl
    · split
      · rfl
      · simp [ih]

@[simp] theorem State.feedOne_kept (s : State) (ch : Nat) (u : Nat) (p : BasePer) :
    (State.feedOne s ch u p).kept = s.kept := by
  unfold State.feedOne
  dsimp only
  rw [State.modChan_kept, State.deliver_kept]
  simp

@[simp] theorem State.feed_kept (s : State) (ch : Nat) (ps : List BasePer) :
    (State.feed s ch ps).kept = s.kept := by
  unfold State.feed
  exact kept_forAll _ _ _ (fun s x => State.feedOne_kept s ch _ _)

@[simp] theorem State.takeCmarks_kept (s : State) (ch : Nat) :
    (State.takeCmarks s ch).kept = s.kept := by
  simp [State.takeCmarks, kept_all]

@[simp] theorem State.reduceCoarse_kept (s : State) (ch : Nat) (v : Option (Int × BitVec 8)) :
    (State.reduceCoarse s ch v).kept = s.kept := by
  simp [State.reduceCoarse, kept_all]

@[simp] theorem State.doSwap_kept (s : State) (g : Nat) (t : Nat) (written : Bool) :
    (State.doSwap s g t written).kept = s.kept := by
  simp [State.doSwap, kept_all]

@[simp] theorem State.takeGait_kept (s : State) (ch : Nat) (g : Nat) :
    (State.takeGait s ch g).kept = s.kept := by
  simp [State.takeGait, kept_all]

@[simp] theorem State.issue_kept (s : State) (c : Nat) (id : Nat) (v : Nat) :
    (State.issue s c id v).kept = s.kept := by
  simp [State.issue, kept_all]

@[simp] theorem State.gaitWrite_kept (s : State) (t : Nat) (g : Nat) (id : Nat) (v : Nat) :
    (State.gaitWrite s t g id v).kept.1 = s.kept.1 := by
  unfold State.gaitWrite
  dsimp only
  (repeat' split) <;> simp

@[simp] theorem State.bankFrom_kept (s : State) (b : Nat) (ch : Nat) :
    (State.bankFrom s b ch).kept = s.kept := by
  simp [State.bankFrom, kept_all]

@[simp] theorem State.swapNow_kept (s : State) (g : Nat) (b : Nat) :
    (State.swapNow s g b).kept = s.kept := by
  simp [State.swapNow, kept_all]

@[simp] theorem State.pendingGait_kept (s : State) (ch : Nat) :
    (State.pendingGait s ch).kept = s.kept := by
  unfold State.pendingGait
  split <;> simp [kept_all]

@[simp] theorem State.doRedCtl_kept (s : State) (ch : Nat) (val : Nat) :
    (State.doRedCtl s ch val).kept = s.kept := by
  simp [State.doRedCtl, kept_all]

@[simp] theorem State.doMeas_kept (s : State) (ch : Nat) :
    (State.doMeas s ch).kept = s.kept := by
  simp [State.doMeas, kept_all]

@[simp] theorem State.recResult_kept (s : State) (ch : Nat) (p : Span) :
    (State.recResult s ch p).kept = s.kept := by
  simp [State.recResult, kept_all]

@[simp] theorem State.cmdResult_kept (s : State) (ch : Nat) (p : Span) :
    (State.cmdResult s ch p).kept = s.kept := by
  simp [State.cmdResult, kept_all]

@[simp] theorem State.readLastSample_kept (s : State) (ch : Nat) :
    (State.readLastSample s ch).1.kept = s.kept := by
  simp [State.readLastSample, kept_all]

@[simp] theorem State.readLastCoarse_kept (s : State) (ch : Nat) :
    (State.readLastCoarse s ch).1.kept = s.kept := by
  simp [State.readLastCoarse, kept_all]

/-! Machine/Records.lean -/

@[simp] theorem State.doManual_kept (s : State) (p : Nat) (net : Bool) :
    (State.doManual s p net).1.kept = s.kept := by
  simp [State.doManual, kept_all]

@[simp] theorem State.recordManual_kept (s : State) (h : Hdr) (p : Nat) (net : Bool) :
    (State.recordManual s h p net).kept = s.kept := by
  simp only [State.recordManual]
  (repeat' split)
  all_goals simp [kept_all]

@[simp] theorem State.doRctl_kept (s : State) (k : Nat) :
    (State.doRctl s k).kept = s.kept := by
  unfold State.doRctl
  split <;> simp [kept_all]

@[simp] theorem State.combine_kept (s : State) (n : Nat) (trig : Nat) :
    (State.combine s n trig).kept = s.kept := by
  simp [State.combine, kept_all]

@[simp] theorem State.acceptNet_kept (s : State) (m : NetTrig) :
    (State.acceptNet s m).kept = s.kept := by
  simp [State.acceptNet, kept_all]

@[simp] theorem State.takeNet_kept (s : State) (m : NetTrig) :
    (State.takeNet s m).kept = s.kept := by
  simp [State.takeNet, kept_all]

@[simp] theorem State.netTrigger_kept (s : State) (port : Nat) (q : Nat) (hops : Nat) (m : NetTrig) :
    (State.netTrigger s port q hops m).kept = s.kept := by
  simp [State.netTrigger, kept_all]

/-! Machine/TimeOps.lean -/

@[simp] theorem State.enterHoldover_kept (s : State) :
    (State.enterHoldover s).kept = s.kept := by
  simp [State.enterHoldover, kept_all]

@[simp] theorem State.setLocked_kept (s : State) :
    (State.setLocked s).kept = s.kept := by
  simp [State.setLocked, kept_all]

@[simp] theorem State.enterLocked_kept (s : State) :
    (State.enterLocked s).kept = s.kept := by
  simp [State.enterLocked, kept_all]

@[simp] theorem State.setIsland_kept (s : State) (n : Nat) :
    (State.setIsland s n).kept = s.kept := by
  simp [State.setIsland, kept_all]

@[simp] theorem State.setLead_kept (s : State) (x : Nat) (prio : Nat) (cls : Nat) :
    (State.setLead s x prio cls).kept = s.kept := by
  simp [State.setLead, kept_all]

@[simp] theorem State.restamp_kept (s : State) :
    (State.restamp s).kept = s.kept := by
  simp [State.restamp, kept_all]

@[simp] theorem State.setMap_kept (s : State) (n0 : Nat) (y : Int) :
    (State.setMap s n0 y).kept = s.kept := by
  simp [State.setMap, kept_all]

@[simp] theorem State.publishMap_kept (s : State) (n0 : Nat) (y : Int) :
    (State.publishMap s n0 y).kept = s.kept := by
  simp [State.publishMap, kept_all]

@[simp] theorem State.acquire_kept (s : State) (e : Int) (y : Int) :
    (State.acquire s e y).kept = s.kept := by
  simp [State.acquire, kept_all]

@[simp] theorem State.servo_kept (s : State) (e : Int) :
    (State.servo s e).kept = s.kept := by
  simp [State.servo, kept_all]

@[simp] theorem State.lockedUpdate_kept (s : State) (e : Int) :
    (State.lockedUpdate s e).kept = s.kept := by
  simp [State.lockedUpdate, kept_all]

@[simp] theorem State.holdoverUpdate_kept (s : State) (e : Int) :
    (State.holdoverUpdate s e).kept = s.kept := by
  simp [State.holdoverUpdate, kept_all]

@[simp] theorem State.limitBack_kept (s : State) :
    (State.limitBack s).kept = s.kept := by
  simp [State.limitBack, kept_all]

@[simp] theorem State.timeUpdate_kept (s : State) (e : Int) (y : Int) (bound : Nat) :
    (State.timeUpdate s e y bound).kept = s.kept := by
  simp only [State.timeUpdate]
  (repeat' split)
  all_goals simp [kept_all]

@[simp] theorem State.ptpUpdate_kept (s : State) (e : Int) (y : Int) :
    (State.ptpUpdate s e y).kept = s.kept := by
  simp [State.ptpUpdate, kept_all]

@[simp] theorem State.takeLead_kept (s : State) (island : Nat) :
    (State.takeLead s island).kept = s.kept := by
  simp [State.takeLead, kept_all]

@[simp] theorem State.found_kept (s : State) :
    (State.found s).kept = s.kept := by
  simp [State.found, kept_all]

@[simp] theorem State.loseParent_kept (s : State) :
    (State.loseParent s).kept = s.kept := by
  simp only [State.loseParent]
  (repeat' split)
  all_goals simp [kept_all]

@[simp] theorem State.follow_kept (s : State) (a : Announce) (parent : Nat) :
    (State.follow s a parent).kept = s.kept := by
  simp [State.follow, kept_all]

@[simp] theorem State.followNone_kept (s : State) (a : Announce) :
    (State.followNone s a).kept = s.kept := by
  simp [State.followNone, kept_all]

@[simp] theorem State.giveUpLead_kept (s : State) :
    (State.giveUpLead s).kept = s.kept := by
  simp [State.giveUpLead, kept_all]

@[simp] theorem State.refreshLead_kept (s : State) :
    (State.refreshLead s).kept = s.kept := by
  simp only [State.refreshLead]
  (repeat' split)
  all_goals simp [kept_all]

/-! Machine/Time.lean -/

@[simp] theorem State.newSegment_kept (s : State) :
    (State.newSegment s).kept = s.kept := by
  simp [State.newSegment, kept_all]

@[simp] theorem State.sendTime_kept (s : State) (p : Nat) (kind : Nat) (m : TimeMsg) :
    (State.sendTime s p kind m).kept = s.kept := by
  simp [State.sendTime, kept_all]

@[simp] theorem State.compareDelay_kept (s : State) (p : Nat) (d : Nat) :
    (State.compareDelay s p d).kept = s.kept := by
  simp [State.compareDelay, kept_all]

@[simp] theorem State.ptpStep_kept (s : State) (p : Nat) (y : Int) :
    (State.ptpStep s p y).kept = s.kept := by
  simp [State.ptpStep, kept_all]

@[simp] theorem State.ptpSend_kept (s : State) (p kind seq origin : Nat) (two : Bool) (peer : Nat) :
    (State.ptpSend s p kind seq origin two peer).kept = s.kept := by
  simp [State.ptpSend, kept_all]

@[simp] theorem State.ptpTake_kept (s : State) (p : Nat) (m : PtpMsg) (y : Int) (sl : Bool) :
    (State.ptpTake s p m y sl).kept = s.kept := by
  unfold State.ptpTake
  dsimp only
  split <;> (repeat' split) <;> first | rfl | simp

@[simp] theorem State.readNtimeLat_kept (s : State) :
    (State.readNtimeLat s).1.kept = s.kept := by
  simp [State.readNtimeLat, kept_all]

@[simp] theorem State.doUtc_kept (s : State) (v : Nat) :
    (State.doUtc s v).kept.1 = s.kept.1 := by
  simp [State.doUtc, kept_all]

@[simp] theorem State.reinFault_kept (s : State) (line : Nat) (kase : Nat) :
    (State.reinFault s line kase).kept = s.kept := by
  simp [State.reinFault, kept_all]

@[simp] theorem State.syncEdge_kept (s : State) (r : Nat) :
    (State.syncEdge s r).kept = s.kept := by
  unfold State.syncEdge
  dsimp only
  generalize hx : (if s.time.state = .locked ∧ 50 < (s.offSecond r).natAbs then s.reinFault 1 3 else s) = x
  have h : x.kept = s.kept := by
    rw [← hx]
    split <;> simp
  split
  · exact h
  · split
    · split
      · exact h
      · simp [h]
    · simp [h]

@[simp] theorem State.lineSlots_kept (s : State) (src : Nat) (r : Nat) (rising : Bool) :
    (State.lineSlots s src r rising).kept = s.kept := by
  simp [State.lineSlots, kept_all]

@[simp] theorem State.clkEdge_kept (s : State) (r : Nat) :
    (State.clkEdge s r).kept = s.kept := by
  simp [State.clkEdge, kept_all]

@[simp] theorem State.edgeIn_kept (s : State) (line : Nat) (r : Nat) (rising : Bool) :
    (State.edgeIn s line r rising).kept = s.kept := by
  unfold State.edgeIn
  split
  · split
    · exact s.clkEdge_kept r
    · rfl
  · split
    · exact s.syncEdge_kept r
    · rfl
  · exact s.lineSlots_kept _ r rising

/-! Machine/Calibration.lean -/

@[simp] theorem State.evCal_kept (s : State) (kind : Nat) (num : Nat) (c : Nat) :
    (State.evCal s kind num c).kept = s.kept := by
  simp [State.evCal, kept_all]

@[simp] theorem State.puReplaced_kept (s : State) (o : CalObj) :
    (State.puReplaced s o).kept = s.kept := by
  simp [State.puReplaced, kept_all]

@[simp] theorem State.puResult_kept (s : State) (o : CalObj) (c : Option CalOut) :
    (State.puResult s o c).kept = s.kept := by
  simp only [State.puResult]
  (repeat' split)
  all_goals simp [kept_all]

@[simp] theorem State.puQuad_kept (s : State) (results : List CalOut) (q : Nat) :
    (State.puQuad s results q).kept = s.kept := by
  simp [State.puQuad, kept_all]

@[simp] theorem State.puResults_kept (s : State) (results : List CalOut) :
    (State.puResults s results).kept = s.kept := by
  simp [State.puResults, kept_all]

@[simp] theorem State.quadReady_kept (s : State) (q : Nat) :
    (State.quadReady s q).kept = s.kept := by
  simp [State.quadReady, kept_all]

@[simp] theorem State.triStart_kept (s : State) (skip : List Nat) :
    (State.triStart s skip).kept = s.kept := by
  simp [State.triStart, kept_all]

@[simp] theorem State.triAsk_kept (s : State) :
    (State.triAsk s).kept = s.kept := by
  simp [State.triAsk, kept_all]

@[simp] theorem State.doCal_kept (s : State) (kind : Nat) (target : Nat) :
    (State.doCal s kind target).kept = s.kept := by
  simp [State.doCal, kept_all]

@[simp] theorem State.doBaseline_kept (s : State) (v : Nat) :
    (State.doBaseline s v).kept = s.kept := by
  simp [State.doBaseline, kept_all]

@[simp] theorem State.bgMark_kept (s : State) (key : Nat) :
    (State.bgMark s key).kept = s.kept := by
  simp [State.bgMark, kept_all]

@[simp] theorem State.convImplausible_kept (s : State) (cell : Nat) (k : Nat) (why : Nat) :
    (State.convImplausible s cell k why).kept = s.kept := by
  simp [State.convImplausible, kept_all]

@[simp] theorem State.convAccepted_kept (s : State) (cell : Nat) (k : Nat) (o : CalOut) :
    (State.convAccepted s cell k o).kept = s.kept := by
  simp [State.convAccepted, kept_all]

@[simp] theorem State.ownResult_kept (s : State) (cell : Nat) (k : Nat) (c : CalOut) :
    (State.ownResult s cell k c).kept = s.kept := by
  simp [State.ownResult, kept_all]

@[simp] theorem State.spResult_kept (s : State) (cell : Nat) (c : CalOut) :
    (State.spResult s cell c).kept = s.kept := by
  simp [State.spResult, kept_all]

@[simp] theorem State.sourceResult_kept (s : State) (n : Nat) (c : CalOut) :
    (State.sourceResult s n c).kept = s.kept := by
  simp [State.sourceResult, kept_all]

@[simp] theorem State.ampResult_kept (s : State) (n : Nat) (c : CalOut) :
    (State.ampResult s n c).kept = s.kept := by
  simp [State.ampResult, kept_all]

@[simp] theorem State.applyTrims_kept (s : State) (cell : Nat) (k : Nat) :
    (State.applyTrims s cell k).kept = s.kept := by
  simp only [State.applyTrims]
  (repeat' split)
  all_goals simp [kept_all]

@[simp] theorem State.logPut_kept (s : State) (e : LogEntry) :
    (State.logPut s e).kept = s.kept := by
  simp [State.logPut, kept_all]

@[simp] theorem State.logWrite_kept (s : State) (ok : Bool) (bits : Nat) (closure : Nat) :
    (State.logWrite s ok bits closure).kept = s.kept := by
  simp [State.logWrite, kept_all]

@[simp] theorem State.judgeRefin_kept (s : State) (o : TriOut) :
    (State.judgeRefin s o).kept = s.kept := by
  simp [State.judgeRefin, kept_all]

@[simp] theorem State.takeDrift_kept (s : State) (o : TriOut) :
    (State.takeDrift s o).kept = s.kept := by
  simp [State.takeDrift, kept_all]

@[simp] theorem State.takeBases_kept (s : State) (o : TriOut) (all : Bool) :
    (State.takeBases s o all).kept = s.kept := by
  simp [State.takeBases, kept_all]

@[simp] theorem State.takeBase_kept (s : State) :
    (State.takeBase s).kept = s.kept := by
  simp [State.takeBase, kept_all]

@[simp] theorem State.armTrims_kept (s : State) (due : List Nat) :
    (State.armTrims s due).kept = s.kept := by
  simp [State.armTrims, kept_all]

@[simp] theorem State.triLog_kept (s : State) (o : TriOut) (base : Bool) (suspect : Bool) :
    (State.triLog s o base suspect).kept = s.kept := by
  simp [State.triLog, kept_all]

@[simp] theorem State.triDone_kept (s : State) (res : Nat) :
    (State.triDone s res).kept = s.kept := by
  unfold State.triDone
  split <;> simp [kept_all]

@[simp] theorem State.triAccepted_kept (s : State) (o : TriOut) :
    (State.triAccepted s o).kept = s.kept := by
  simp only [State.triAccepted]
  (repeat' split)
  all_goals simp [kept_all]

@[simp] theorem State.triRejected_kept (s : State) (o : TriOut) :
    (State.triRejected s o).kept = s.kept := by
  simp [State.triRejected, kept_all]

@[simp] theorem State.triTrim_kept (s : State) (cell : Nat) (conv : Nat) (k : Int) :
    (State.triTrim s cell conv k).kept = s.kept := by
  simp [State.triTrim, kept_all]

@[simp] theorem State.ageOne_kept (s : State) (limit : Nat) (key : Nat) :
    (State.ageOne s limit key).kept = s.kept := by
  simp [State.ageOne, kept_all]

@[simp] theorem State.doTest_kept (s : State) (test : Nat) (target : Nat) :
    (State.doTest s test target).kept = s.kept := by
  simp only [State.doTest]
  (repeat' split)
  all_goals simp [kept_all]

@[simp] theorem State.modCheckEnd_kept (s : State) (ch : Nat) :
    (State.modCheckEnd s ch).kept = s.kept := by
  simp only [State.modCheckEnd]
  (repeat' split)
  all_goals simp [kept_all]

@[simp] theorem State.unpauseChan_kept (s : State) (ch : Nat) :
    (State.unpauseChan s ch).kept = s.kept := by
  simp [State.unpauseChan, kept_all]

@[simp] theorem State.offlineEnd_kept (s : State) (test : Nat) (target : Nat) :
    (State.offlineEnd s test target).kept = s.kept := by
  simp [State.offlineEnd, kept_all]

/-! Machine/Optical.lean -/

@[simp] theorem State.evOptical_kept (s : State) (n : Nat) (st : Nat) :
    (State.evOptical s n st).kept = s.kept := by
  simp [State.evOptical, kept_all]

@[simp] theorem State.relevel_kept (s : State) (e : Nat) (n : Nat) :
    (State.relevel s e n).kept = s.kept := by
  simp [State.relevel, kept_all]

@[simp] theorem State.relevelAll_kept (s : State) :
    (State.relevelAll s).kept = s.kept := by
  simp [State.relevelAll, kept_all]

@[simp] theorem State.osStatus_kept (s : State) (n : Nat) (f : Os → Os) :
    (State.osStatus s n f).kept = s.kept := by
  simp [State.osStatus, kept_all]

@[simp] theorem State.osSettle_kept (s : State) (e : Nat) (n : Nat) :
    (State.osSettle s e n).kept = s.kept := by
  simp [State.osSettle, kept_all]

@[simp] theorem State.osApplyOne_kept (s : State) (e : Nat) (n : Nat) :
    (State.osApplyOne s e n).kept = s.kept := by
  simp [State.osApplyOne, kept_all]

@[simp] theorem State.osApplyScale_kept (s : State) (e : Nat) :
    (State.osApplyScale s e).kept = s.kept := by
  simp [State.osApplyScale, kept_all]

@[simp] theorem State.doOsApply_kept (s : State) (a : Nat) (mask : Nat) :
    (State.doOsApply s a mask).kept = s.kept := by
  simp [State.doOsApply, kept_all]

@[simp] theorem State.setShorted_kept (s : State) (l : List Nat) :
    (State.setShorted s l).kept = s.kept := by
  simp [State.setShorted, kept_all]

@[simp] theorem State.pairTested_kept (s : State) (p : Nat) :
    (State.pairTested s p).kept = s.kept := by
  simp [State.pairTested, kept_all]

@[simp] theorem State.doOsClear_kept (s : State) (n : Nat) (shorted : Bool) :
    (State.doOsClear s n shorted).kept = s.kept := by
  simp [State.doOsClear, kept_all]

@[simp] theorem State.takeTdrv_kept (s : State) (tdrv : Int) :
    (State.takeTdrv s tdrv).kept = s.kept := by
  simp [State.takeTdrv, kept_all]

@[simp] theorem State.update_kept (s : State) (tdrv : Int) :
    (State.update s tdrv).kept = s.kept := by
  simp [State.update, kept_all]

@[simp] theorem State.doExtTemp_kept (s : State) (v : Nat) :
    (State.doExtTemp s v).kept.1 = s.kept.1 := by
  simp [State.doExtTemp, kept_all]

/-! Machine/Storage.lean -/

@[simp] theorem State.takeEntries_kept (n : Nat) (s : State) (e : List Ecc) :
    (State.takeEntries n s e).1.kept = s.kept := by
  induction n generalizing s e with
  | zero => rfl
  | succ n ih =>
    simp only [State.takeEntries]
    split <;> simp [ih]

@[simp] theorem State.evStorage_kept (s : State) (n : Nat) :
    (State.evStorage s n).kept = s.kept := by
  simp [State.evStorage, kept_all]

@[simp] theorem State.mount_kept (s : State) :
    (State.mount s).kept = s.kept := by
  simp [State.mount, kept_all]

@[simp] theorem State.arcEmpty_kept (s : State) :
    (State.arcEmpty s).kept = s.kept := by
  simp [State.arcEmpty, kept_all]

@[simp] theorem State.keepCopied_kept (s : State) (n : Nat) :
    (State.keepCopied s n).kept = s.kept := by
  simp [State.keepCopied, kept_all]

@[simp] theorem State.recLoses_kept (s : State) (b : Blk) :
    (State.recLoses s b).kept = s.kept := by
  unfold State.recLoses
  split <;> simp [kept_all]

@[simp] theorem State.countGaps_kept (s : State) (l : List Blk) :
    (State.countGaps s l).kept = s.kept := by
  simp [State.countGaps, kept_all]

@[simp] theorem State.storeLost_kept (s : State) (n : Nat) :
    (State.storeLost s n).kept = s.kept := by
  simp [State.storeLost, kept_all]

@[simp] theorem State.arcFree_kept (s : State) :
    (State.arcFree s).kept = s.kept := by
  simp [State.arcFree, kept_all]

@[simp] theorem State.jobEnd_kept (s : State) (st : Nat) (status : Nat) (detail : Nat) (data : List Byte) :
    (State.jobEnd s st status detail data).kept = s.kept := by
  simp [State.jobEnd, kept_all]

@[simp] theorem State.jobLost_kept (s : State) :
    (State.jobLost s).kept = s.kept := by
  simp [State.jobLost, kept_all]

@[simp] theorem State.storeGone_kept (s : State) (n : Nat) :
    (State.storeGone s n).kept = s.kept := by
  simp [State.storeGone, kept_all]

@[simp] theorem State.storeStops_kept (s : State) (n : Nat) (st : Nat) :
    (State.storeStops s n st).kept = s.kept := by
  simp [State.storeStops, kept_all]

@[simp] theorem State.doDetach_kept (s : State) (n : Nat) :
    (State.doDetach s n).kept = s.kept := by
  simp [State.doDetach, kept_all]

@[simp] theorem State.takeLayout_kept (s : State) :
    (State.takeLayout s).kept = s.kept := by
  simp [State.takeLayout, kept_all]

@[simp] theorem State.doAttach_kept (s : State) (n : Nat) :
    (State.doAttach s n).kept = s.kept := by
  simp [State.doAttach, kept_all]

@[simp] theorem State.labelDevice_kept (s : State) (n : Nat) (cap : Nat) :
    (State.labelDevice s n cap).kept = s.kept := by
  simp [State.labelDevice, kept_all]

@[simp] theorem State.spillMore_kept (n : Nat) (s : State) : (State.spillMore n s).kept = s.kept := by
  induction n generalizing s with
  | zero => rfl
  | succ n ih =>
    simp only [State.spillMore]
    (repeat' split)
    · rfl
    · rfl
    · rfl
    · rw [ih]
      rfl

@[simp] theorem State.arcPut_kept (s : State) (dir : Bool) (ch : Nat) (method : Nat) (blks : List Blk)
    (bytes : List Byte) :
    (State.arcPut s dir ch method blks bytes).kept = s.kept := by
  simp only [State.arcPut]
  (repeat' split)
  all_goals simp [kept_all]

@[simp] theorem State.arcDir_kept (s : State) :
    (State.arcDir s).kept = s.kept := by
  simp [State.arcDir, kept_all]

@[simp] theorem State.discardBlk_kept (s : State) (b : Blk) :
    (State.discardBlk s b).kept = s.kept := by
  simp [State.discardBlk, kept_all]

@[simp] theorem State.arcReads_kept (l : List Blk) (s : State) (ecc : List Ecc) :
    (State.arcReads l s ecc).kept = s.kept := by
  induction l generalizing s ecc with
  | nil => rfl
  | cons b r ih => simp [State.arcReads, ih, kept_all]

@[simp] theorem State.arcWrite_kept (s : State) (ch : Nat) :
    (State.arcWrite s ch).kept = s.kept := by
  simp [State.arcWrite, kept_all]

@[simp] theorem State.exportDone_kept (s : State) (sel : ArcSel) (bad : List Nat) :
    (State.exportDone s sel bad).kept = s.kept := by
  simp [State.exportDone, kept_all]

@[simp] theorem State.compressDone_kept (s : State) (sel : ArcSel) (bad : List Nat) :
    (State.compressDone s sel bad).kept = s.kept := by
  simp [State.compressDone, kept_all]

@[simp] theorem State.takeJob_kept (s : State) (h : Hdr) (op : Nat) (exp : Bool) (sel : ArcSel) :
    (State.takeJob s h op exp sel).kept = s.kept := by
  simp [State.takeJob, kept_all]

end Sys2Proof.Machine
end

