-- ==== Sys2Proof/Laws/KeptOps3.lean ====
section
/-! SUPPORT. The operations of the lanes, network, faults, cores, safety unit, boot, test port, items and images keep the kept part; power,
start and boundary are said apart. -/

set_option Elab.async false

namespace Sys2Proof.Machine

/-! Machine/LinkOps.lean -/

@[simp] theorem State.laneStart_kept (s : State) (p : Nat) :
    (State.laneStart s p).kept = s.kept := by
  simp [State.laneStart, kept_all]

@[simp] theorem State.laneFail_kept (s : State) (p : Nat) :
    (State.laneFail s p).kept = s.kept := by
  simp [State.laneFail, kept_all]

@[simp] theorem State.laneIdle_kept (s : State) (p : Nat) :
    (State.laneIdle s p).kept = s.kept := by
  simp [State.laneIdle, kept_all]

@[simp] theorem State.laneRestart_kept (s : State) (p : Nat) :
    (State.laneRestart s p).kept = s.kept := by
  simp [State.laneRestart, kept_all]

@[simp] theorem State.routeRefresh_kept (s : State) :
    (State.routeRefresh s).kept = s.kept := by
  simp [State.routeRefresh, kept_all]

@[simp] theorem State.laneUp_kept (s : State) (p : Nat) :
    (State.laneUp s p).kept = s.kept := by
  simp [State.laneUp, kept_all]

@[simp] theorem State.testEnd_kept (s : State) (p : Nat) :
    (State.testEnd s p).kept = s.kept := by
  simp [State.testEnd, kept_all]

@[simp] theorem State.evPartner_kept (s : State) (p : Nat) (here : Bool) (kind : Nat) :
    (State.evPartner s p here kind).kept = s.kept := by
  simp [State.evPartner, kept_all]

@[simp] theorem State.evRefused_kept (s : State) (p : Nat) (set : Bool) :
    (State.evRefused s p set).kept = s.kept := by
  simp [State.evRefused, kept_all]

@[simp] theorem State.evId_kept (s : State) (id : Nat) (cause : Nat) :
    (State.evId s id cause).kept = s.kept := by
  simp [State.evId, kept_all]

@[simp] theorem State.loseLink_kept (s : State) (p : Nat) :
    (State.loseLink s p).kept = s.kept := by
  simp [State.loseLink, kept_all]

@[simp] theorem State.laneLost_kept (s : State) (p : Nat) :
    (State.laneLost s p).kept = s.kept := by
  simp [State.laneLost, kept_all]

@[simp] theorem State.claim_kept (s : State) (c : Option Nat) :
    (State.claim s c).kept = s.kept := by
  unfold State.claim
  split <;> simp [kept_all]

@[simp] theorem State.chooseId_kept (s : State) :
    (State.chooseId s).kept = s.kept := by
  simp [State.chooseId, kept_all]

@[simp] theorem State.claimLost_kept (s : State) :
    (State.claimLost s).kept = s.kept := by
  simp [State.claimLost, kept_all]

@[simp] theorem State.takeId_kept (s : State) :
    (State.takeId s).kept = s.kept := by
  simp [State.takeId, kept_all]

@[simp] theorem State.giveUpId_kept (s : State) :
    (State.giveUpId s).kept = s.kept := by
  simp [State.giveUpId, kept_all]

@[simp] theorem State.refuseRefresh_kept (s : State) :
    (State.refuseRefresh s).kept = s.kept := by
  simp [State.refuseRefresh, kept_all]

@[simp] theorem State.storeLsa_kept (s : State) (m : Lsa) :
    (State.storeLsa s m).kept = s.kept := by
  simp [State.storeLsa, kept_all]

@[simp] theorem State.lsaId_kept (s : State) (m : Lsa) :
    (State.lsaId s m).kept = s.kept := by
  simp [State.lsaId, kept_all]

@[simp] theorem State.requeue_kept (s : State) (p : Nat) :
    (State.requeue s p).kept = s.kept := by
  unfold State.requeue
  refine kept_forAll _ _ _ (fun s x => ?_)
  (repeat' (first | (simp [kept_all]; done) | split | (simp [kept_all]; split)))

@[simp] theorem State.recomputeRoutes_kept (s : State) :
    (State.recomputeRoutes s).kept = s.kept := by
  simp [State.recomputeRoutes, kept_all]

/-! Machine/Lanes.lean -/

@[simp] theorem State.sendHello_kept (s : State) (p : Nat) :
    (State.sendHello s p).kept = s.kept := by
  simp only [State.sendHello]
  (repeat' split)
  all_goals simp [kept_all]

@[simp] theorem State.takePartner_kept (s : State) (p : Nat) (m : Hello) :
    (State.takePartner s p m).kept = s.kept := by
  simp [State.takePartner, kept_all]

@[simp] theorem State.takeRefuse_kept (s : State) (p : Nat) (m : Hello) :
    (State.takeRefuse s p m).kept = s.kept := by
  simp [State.takeRefuse, kept_all]

@[simp] theorem State.seekHello_kept (s : State) (p : Nat) (m : Hello) :
    (State.seekHello s p m).kept = s.kept := by
  unfold State.seekHello
  split <;> simp [kept_all]

@[simp] theorem State.trainFrame_kept (s : State) (p : Nat) (control : Nat) (status : Nat) (eyeOk : Bool) :
    (State.trainFrame s p control status eyeOk).kept = s.kept := by
  simp [State.trainFrame, kept_all]

@[simp] theorem State.loseLock_kept (s : State) (p : Nat) :
    (State.loseLock s p).kept = s.kept := by
  simp [State.loseLock, kept_all]

@[simp] theorem State.patternChange_kept (s : State) (p : Nat) :
    (State.patternChange s p).kept = s.kept := by
  simp [State.patternChange, kept_all]

@[simp] theorem State.doLaneTest_kept (s : State) (p : Nat) (v : Nat) :
    (State.doLaneTest s p v).kept.1 = s.kept.1 := by
  simp [State.doLaneTest, kept_all]

@[simp] theorem State.injectBit_kept (s : State) (p : Nat) :
    (State.injectBit s p).kept = s.kept := by
  simp [State.injectBit, kept_all]

@[simp] theorem State.doLaneClear_kept (s : State) (p : Nat) :
    (State.doLaneClear s p).kept = s.kept := by
  simp [State.doLaneClear, kept_all]

/-! Machine/Routing.lean -/

@[simp] theorem State.grantSlot_kept (s : State) (o : Nat) (c : Nat) :
    (State.grantSlot s o c).kept = s.kept := by
  simp [State.grantSlot, kept_all]

@[simp] theorem State.countSent_kept (s : State) (p : Nat) (c : Nat) (o : Nat) :
    (State.countSent s p c o).kept = s.kept := by
  simp [State.countSent, kept_all]

@[simp] theorem State.proxyReply_kept (s : State) (tag : Nat) (status : Nat) :
    (State.proxyReply s tag status).kept = s.kept := by
  unfold State.proxyReply
  split <;> simp [kept_all]

@[simp] theorem State.sendReply_kept (s : State) (p : Nat) (r : Reply) :
    (State.sendReply s p r).kept = s.kept := by
  simp [State.sendReply, kept_all]

@[simp] theorem State.sendOne_kept (s : State) (p : Nat) (ecc : List Ecc) (x : Ready) :
    (State.sendOne s p ecc x).kept = s.kept := by
  unfold State.sendOne
  split <;> simp [kept_all]

@[simp] theorem State.blockGone_kept (s : State) (order : Nat) (r : Nat) :
    (State.blockGone s order r).kept = s.kept := by
  simp [State.blockGone, kept_all]

@[simp] theorem State.dropFrame_kept (s : State) (o : Nat) (f : Frame) :
    (State.dropFrame s o f).kept = s.kept := by
  simp [State.dropFrame, kept_all]

@[simp] theorem State.forward_kept (s : State) (o : Nat) (f : Frame) :
    (State.forward s o f).kept = s.kept := by
  unfold State.forward
  split <;> simp [kept_all]

@[simp] theorem State.laneReply_kept (s : State) (p : Nat) (b : List Byte) (detail : Nat) :
    (State.laneReply s p b detail).kept = s.kept := by
  simp [State.laneReply, kept_all]

@[simp] theorem State.awayReply_kept (s : State) (p : Nat) (b : List Byte) :
    (State.awayReply s p b).kept = s.kept := by
  simp only [State.awayReply]
  (repeat' split)
  all_goals simp [kept_all]

@[simp] theorem State.replyHome_kept (s : State) (b : List Byte) :
    (State.replyHome s b).kept = s.kept := by
  unfold State.replyHome
  split <;> simp [kept_all]

@[simp] theorem State.deliverWcp_kept (s : State) (p : Nat) (b : List Byte) :
    (State.deliverWcp s p b).kept = s.kept := by
  simp only [State.deliverWcp]
  (repeat' split)
  all_goals simp [kept_all]

@[simp] theorem State.proxied_kept (s : State) (p : Nat) (tag : Nat) (b : List Byte) :
    (State.proxied s p tag b).1.kept = s.kept := by
  simp [State.proxied, kept_all]

@[simp] theorem State.takeBcast_kept (s : State) (p : Nat) (f : Frame) :
    (State.takeBcast s p f).kept = s.kept := by
  simp [State.takeBcast, kept_all]

@[simp] theorem State.fromCollector_kept (s : State) (p : Nat) (f : Frame) :
    (State.fromCollector s p f).kept = s.kept := by
  simp only [State.fromCollector]
  (repeat' split)
  all_goals simp [kept_all]

@[simp] theorem State.takeWcp_kept (s : State) (p : Nat) (f : Frame) :
    (State.takeWcp s p f).kept = s.kept := by
  simp [State.takeWcp, kept_all]

@[simp] theorem State.takeStream_kept (s : State) (p : Nat) (f : Frame) :
    (State.takeStream s p f).kept = s.kept := by
  simp [State.takeStream, kept_all]

@[simp] theorem State.dropEntry_kept (s : State) (eui : Nat) :
    (State.dropEntry s eui).kept = s.kept := by
  simp [State.dropEntry, kept_all]

@[simp] theorem State.expireFrames_kept (s : State) (dest : Nat) :
    (State.expireFrames s dest).kept = s.kept := by
  simp [State.expireFrames, kept_all]

@[simp] theorem State.doAttachRoute_kept (s : State) (h : Hdr) (detach : Bool) :
    (State.doAttachRoute s h detach).kept.1 = s.kept.1 := by
  simp [State.doAttachRoute, kept_all]

/-! Machine/FaultColl.lean -/

@[simp] theorem State.storeFence_kept (s : State) (n : Nat) (was : Bool) :
    (State.storeFence s n was).kept = s.kept := by
  simp [State.storeFence, kept_all]

@[simp] theorem State.pairActive_kept (s : State) (n : Nat) (detail : Word) :
    (State.pairActive s n detail).kept = s.kept := by
  simp [State.pairActive, kept_all]

@[simp] theorem State.wireFails_kept (s : State) (n : Nat) :
    (State.wireFails s n).kept = s.kept := by
  simp [State.wireFails, kept_all]

@[simp] theorem State.failWrites_kept (s : State) (cell : Nat) :
    (State.failWrites s cell).kept = s.kept := by
  simp [State.failWrites, kept_all]

@[simp] theorem State.missingAlarm_kept (s : State) (cell : Nat) :
    (State.missingAlarm s cell).kept = s.kept := by
  simp [State.missingAlarm, kept_all]

@[simp] theorem State.dropResults_kept (s : State) (cell : Nat) :
    (State.dropResults s cell).kept = s.kept := by
  simp [State.dropResults, kept_all]

@[simp] theorem State.patience_kept (s : State) (x : Crossing) (u : Nat) :
    (State.patience s x u).kept = s.kept := by
  unfold State.patience
  split <;> simp [kept_all]

@[simp] theorem State.evAlive_kept (s : State) (stopped : Bool) (cause : Nat) :
    (State.evAlive s stopped cause).kept = s.kept := by
  simp [State.evAlive, kept_all]

@[simp] theorem State.aliveToggle_kept (s : State) :
    (State.aliveToggle s).kept = s.kept := by
  simp only [State.aliveToggle]
  (repeat' split)
  all_goals simp [kept_all]

@[simp] theorem State.releaseFaultN_kept (s : State) :
    (State.releaseFaultN s).kept = s.kept := by
  simp [State.releaseFaultN, kept_all]

@[simp] theorem State.clearSrc_kept (s : State) (n : Nat) :
    (State.clearSrc s n).kept = s.kept := by
  simp [State.clearSrc, kept_all]

@[simp] theorem State.safeClear_kept (s : State) :
    (State.safeClear s).kept = s.kept := by
  simp [State.safeClear, kept_all]

@[simp] theorem State.faultClear_kept (s : State) (l : List Nat) (locket : Bool) (faultN : Bool) :
    (State.faultClear s l locket faultN).kept = s.kept := by
  simp [State.faultClear, kept_all]

@[simp] theorem State.unfence_kept (s : State) (h : Hdr) (kind : Nat) (num : Nat) :
    (State.unfence s h kind num).kept = s.kept := by
  simp [State.unfence, kept_all]

@[simp] theorem State.unitRuns_kept (s : State) (kind : Nat) (num : Nat) :
    (State.unitRuns s kind num).kept = s.kept := by
  unfold State.unitRuns
  split
  · simp
  · simp
  · simp
  · exact kept_forAll _ _ _ (fun s x => by simp)

@[simp] theorem State.unfenceEnd_kept (s : State) (kind : Nat) (num : Nat) :
    (State.unfenceEnd s kind num).kept = s.kept := by
  simp [State.unfenceEnd, kept_all]

@[simp] theorem State.fenceUnit_kept (s : State) (kind : Nat) (num : Nat) :
    (State.fenceUnit s kind num).kept = s.kept := by
  simp [State.fenceUnit, kept_all]

/-! Machine/CorePair.lean -/

@[simp] theorem State.modCore_kept (s : State) (f : Core → Core) :
    (State.modCore s f).kept = s.kept := by
  simp [State.modCore, kept_all]

@[simp] theorem State.dropCommands_kept (s : State) :
    (State.dropCommands s).kept = s.kept := by
  simp [State.dropCommands, kept_all]

@[simp] theorem State.coreHalt_kept (s : State) :
    (State.coreHalt s).kept = s.kept := by
  simp [State.coreHalt, kept_all]

@[simp] theorem State.coreDiffers_kept (s : State) (core : Nat) :
    (State.coreDiffers s core).kept = s.kept := by
  simp [State.coreDiffers, kept_all]

@[simp] theorem State.resyncFails_kept (s : State) :
    (State.resyncFails s).kept = s.kept := by
  simp [State.resyncFails, kept_all]

@[simp] theorem State.modHub2_kept (s : State) (f : Pair → Pair) :
    (State.modHub2 s f).kept = s.kept := by
  simp [State.modHub2, kept_all]

@[simp] theorem State.partnerBack_kept (s : State) :
    (State.partnerBack s).kept = s.kept := by
  simp [State.partnerBack, kept_all]

@[simp] theorem State.hbTake_kept (s : State) (m : Heartbeat) :
    (State.hbTake s m).kept = s.kept := by
  simp [State.hbTake, kept_all]

/-! Machine/SafetyUnit.lean -/

@[simp] theorem State.startTestStep_kept (s : State) (low : Bool) (high : Bool) :
    (State.startTestStep s low high).kept = s.kept := by
  simp [State.startTestStep, kept_all]

@[simp] theorem State.siDemand_kept (s : State) (x : Nat) (d : Bool) :
    (State.siDemand s x d).kept = s.kept := by
  simp [State.siDemand, kept_all]

@[simp] theorem State.siFilter_kept (s : State) (x : Nat) :
    (State.siFilter s x).kept = s.kept := by
  simp [State.siFilter, kept_all]

@[simp] theorem State.evNsl_kept (s : State) (c : Nat) (kind : Nat) (gap : Nat) :
    (State.evNsl s c kind gap).kept = s.kept := by
  simp [State.evNsl, kept_all]

@[simp] theorem State.confirmSignet_kept5 (s : State) (arg : Nat) :
    ((s.confirmSignet arg).1).kept.1.1 = s.kept.1.1 ∧ ((s.confirmSignet arg).1).kept.1.2.1 = s.kept.1.2.1 ∧ ((s.confirmSignet arg).1).kept.1.2.2.2 = s.kept.1.2.2.2 ∧
      ((s.confirmSignet arg).1).kept.2 = s.kept.2 := by
  simp only [State.confirmSignet]
  split <;> simp [kept_all]

theorem State.confirmSignet_conf (s : State) (arg : Nat) :
    ((s.confirmSignet arg).1).kept.1.2.2.1 = true → s.kept.1.2.2.1 = true ∨ s.kept.1.2.1 = true := by
  simp only [State.confirmSignet]
  split
  · rename_i h
    intro _
    simp [State.running, kept_running] at h
    exact Or.inr h.1
  · simp +contextual

@[simp] theorem State.clearSafetySrc_kept (s : State) (n : Nat) :
    (State.clearSafetySrc s n).kept = s.kept := by
  simp [State.clearSafetySrc, kept_all]

@[simp] theorem State.resetSo_kept (s : State) (x : Nat) (clear : Bool) :
    (State.resetSo s x clear).kept = s.kept := by
  simp [State.resetSo, kept_all]

@[simp] theorem State.safetyReset_kept (s : State) (arg : Nat) :
    (State.safetyReset s arg).kept = s.kept := by
  simp [State.safetyReset, kept_all]

@[simp] theorem State.nslCommand_kept5 (s : State) (op c arg : Nat) :
    ((s.nslCommand op c arg).1).kept.1.1 = s.kept.1.1 ∧ ((s.nslCommand op c arg).1).kept.1.2.1 = s.kept.1.2.1 ∧ ((s.nslCommand op c arg).1).kept.1.2.2.2 = s.kept.1.2.2.2 ∧
      ((s.nslCommand op c arg).1).kept.2 = s.kept.2 := by
  simp only [State.nslCommand]
  (repeat' split)
  all_goals simp

theorem State.nslCommand_conf (s : State) (op c arg : Nat) :
    ((s.nslCommand op c arg).1).kept.1.2.2.1 = true → s.kept.1.2.2.1 = true ∨ s.kept.1.2.1 = true := by
  simp only [State.nslCommand]
  split
  · exact Or.inl
  · split
    · exact Or.inl
    · split
      · exact s.confirmSignet_conf arg
      · simp +contextual

theorem State.nslCommand_keeps (s : State) (op c arg : Nat) (h : op ≠ 0x0B01) :
    (s.nslCommand op c arg).1.kept = s.kept := by
  simp only [State.nslCommand, if_neg h]
  (repeat' split)
  all_goals simp

@[simp] theorem State.nslTake_kept5 (s : State) (op c : Nat) (b : List Byte) :
    ((s.nslTake op c b).1).kept.1.1 = s.kept.1.1 ∧ ((s.nslTake op c b).1).kept.1.2.1 = s.kept.1.2.1 ∧ ((s.nslTake op c b).1).kept.1.2.2.2 = s.kept.1.2.2.2 ∧
      ((s.nslTake op c b).1).kept.2 = s.kept.2 := by
  unfold State.nslTake
  dsimp only
  split
  · simp
  · simp
  · simp [kept_ite]

theorem State.nslTake_conf (s : State) (op c : Nat) (b : List Byte) :
    ((s.nslTake op c b).1).kept.1.2.2.1 = true → s.kept.1.2.2.1 = true ∨ s.kept.1.2.1 = true := by
  unfold State.nslTake
  dsimp only
  split
  · simp +contextual
  · simp +contextual
  · intro h
    simpa [kept_ite] using State.nslCommand_conf _ _ _ _ h

theorem State.nslTake_keeps (s : State) (op c : Nat) (b : List Byte) (h : op ≠ 0x0B01) :
    (s.nslTake op c b).1.kept = s.kept := by
  unfold State.nslTake
  dsimp only
  split
  · simp
  · simp
  · rw [State.nslCommand_keeps _ _ _ _ h]
    simp [kept_ite]

@[simp] theorem State.nslPacket_kept5 (s : State) (op : Nat) (h : Hdr) (b : List Byte) :
    (s.nslPacket op h b).kept.1.1 = s.kept.1.1 ∧ (s.nslPacket op h b).kept.1.2.1 = s.kept.1.2.1 ∧ (s.nslPacket op h b).kept.1.2.2.2 = s.kept.1.2.2.2 ∧
      (s.nslPacket op h b).kept.2 = s.kept.2 := by
  simp only [State.nslPacket]
  split
  · simp
  · split <;> simp

theorem State.nslPacket_conf (s : State) (op : Nat) (h : Hdr) (b : List Byte) :
    (s.nslPacket op h b).kept.1.2.2.1 = true → s.kept.1.2.2.1 = true ∨ s.kept.1.2.1 = true := by
  simp only [State.nslPacket]
  split
  · simp +contextual
  · split
    · intro hc
      rw [State.answer_kept] at hc
      have := State.nslTake_conf _ _ _ _ hc
      simpa using this
    · simp +contextual

theorem State.nslPacket_keeps (s : State) (op : Nat) (h : Hdr) (b : List Byte) (ho : op ≠ 0x0B01) :
    (s.nslPacket op h b).kept = s.kept := by
  simp only [State.nslPacket]
  split
  · simp
  · split
    · simp [State.nslTake_keeps _ _ _ _ ho]
    · simp

@[simp] theorem State.testPass_kept (s : State) (x : Nat) :
    (State.testPass s x).kept = s.kept := by
  simp [State.testPass, kept_all]

@[simp] theorem State.testFail_kept (s : State) (x : Nat) :
    (State.testFail s x).kept = s.kept := by
  simp [State.testFail, kept_all]

@[simp] theorem State.readback_kept (s : State) (x : Nat) (hrb : Bool) (lrb : Bool) :
    (State.readback s x hrb lrb).kept = s.kept := by
  simp only [State.readback]
  (repeat' split)
  all_goals simp [kept_all]

@[simp] theorem State.rbExpiry_kept (s : State) (x : Nat) :
    (State.rbExpiry s x).kept = s.kept := by
  simp only [State.rbExpiry]
  (repeat' split)
  all_goals simp [kept_all]

/-! Machine/BootOps.lean -/

@[simp] theorem State.modBoot_kept (s : State) (f : Boot → Boot) :
    (State.modBoot s f).kept = s.kept := by
  simp [State.modBoot, kept_all]

@[simp] theorem State.setSlot_kept (s : State) (n : Nat) (st : SlotSt) :
    (State.setSlot s n st).kept = s.kept := by
  simp [State.setSlot, kept_all]

@[simp] theorem State.evStart_kept (s : State) (cause : Nat) (slot : Nat) :
    (State.evStart s cause slot).kept = s.kept := by
  simp [State.evStart, kept_all]

@[simp] theorem State.emptyStaging_kept (s : State) :
    (State.emptyStaging s).kept = s.kept := by
  simp [State.emptyStaging, kept_all]

@[simp] theorem State.fireRestart_kept (s : State) (n : Nat) :
    (State.fireRestart s n).kept = s.kept := by
  simp [State.fireRestart, kept_all]

/-! Machine/Actions.lean -/

@[simp] theorem State.takeAct_kept (s : State) (n : Nat) :
    (State.takeAct s n).kept = s.kept := by
  simp [State.takeAct, kept_all]

@[simp] theorem State.noteReason_kept (s : State) (n : Nat) (r : Nat) :
    (State.noteReason s n r).kept = s.kept := by
  simp [State.noteReason, kept_all]

@[simp] theorem State.schedule_kept (s : State) (h : Hdr) (typ : Word) (target : Nat) (args : List Word) :
    (State.schedule s h typ target args).kept = s.kept := by
  simp only [State.schedule]
  (repeat' split)
  all_goals simp [kept_all]

@[simp] theorem State.armHeld_kept (s : State) :
    (State.armHeld s).kept = s.kept := by
  simp [State.armHeld, kept_all]

@[simp] theorem State.resyncChan_kept (s : State) (e : Nat) (ch : Nat) :
    (State.resyncChan s e ch).kept = s.kept := by
  simp [State.resyncChan, kept_all]

@[simp] theorem State.resyncCell_kept (s : State) (e : Nat) (cell : Nat) :
    (State.resyncCell s e cell).kept = s.kept := by
  simp [State.resyncCell, kept_all]

@[simp] theorem State.doResync_kept (s : State) (a : Act) :
    (State.doResync s a).kept = s.kept := by
  simp [State.doResync, kept_all]

@[simp] theorem State.gaitItem_kept (s : State) (e : Nat) (id : Nat) (v : Nat) :
    (State.gaitItem s e id v).kept.1 = s.kept.1 := by
  unfold State.gaitItem
  dsimp only
  split
  · simp
  · split
    · simp [kept_all]
    · rfl

@[simp] theorem State.gaitItems_kept (s : State) (e : Nat) (l : List (Word × Word)) :
    (State.gaitItems s e l).kept.1 = s.kept.1 :=
  kept_fst_forAll _ _ _ (fun s x => s.gaitItem_kept e x.1.toNat x.2.toNat)

@[simp] theorem State.doGait_kept (s : State) (a : Act) :
    (State.doGait s a).kept.1 = s.kept.1 := by
  unfold State.doGait
  dsimp only
  rw [State.gaitItems_kept]
  simp [kept_all]

@[simp] theorem State.doLaunch_kept (s : State) (a : Act) :
    (State.doLaunch s a).kept = s.kept := by
  simp only [State.doLaunch]
  (repeat' split)
  all_goals simp [kept_all]

@[simp] theorem State.alarmTest_kept (s : State) (x : Nat) (d : Nat) :
    (State.alarmTest s x d).kept = s.kept := by
  simp [State.alarmTest, kept_all]

@[simp] theorem State.dropAct_kept (s : State) (n : Nat) (reason : Nat) :
    (State.dropAct s n reason).kept = s.kept := by
  simp [State.dropAct, kept_all]

@[simp] theorem State.reportAct_kept (s : State) (n : Nat) (a : Act) :
    (State.reportAct s n a).kept = s.kept := by
  simp [State.reportAct, kept_all]

@[simp] theorem State.auxPulse_kept (s : State) (a : Act) :
    (State.auxPulse s a).kept = s.kept := by
  simp [State.auxPulse, kept_all]

@[simp] theorem State.commitDue_kept (s : State) (n : Nat) (a : Act) :
    (State.commitDue s n a).kept = s.kept := by
  simp [State.commitDue, kept_all]

@[simp] theorem State.fireEffect_kept (s : State) (n : Nat) (a : Act) :
    (State.fireEffect s n a).kept.1 = s.kept.1 := by
  unfold State.fireEffect
  split <;> simp

@[simp] theorem State.fireAct_kept (s : State) (n : Nat) :
    (State.fireAct s n).kept.1 = s.kept.1 := by
  unfold State.fireAct
  dsimp only
  split <;> simp

@[simp] theorem State.fireDue_kept (s : State) :
    (State.fireDue s).kept.1 = s.kept.1 :=
  kept_fst_forAll _ _ _ (fun s x => by split <;> simp)

@[simp] theorem State.cancelAct_kept (s : State) (n : Nat) :
    (State.cancelAct s n).kept = s.kept := by
  simp [State.cancelAct, kept_all]

/-! Machine/Boot.lean -/

theorem State.coldStart_kept (s : State) : s.coldStart.kept.1 = (s.kept.1.1, false, false, 0, 0, 0) := rfl

theorem State.resetTime_runtime (s : State) : s.resetTime.runtime = s.kept.1.2.2.2.1 := by
  simp only [State.resetTime]
  split <;> simp [kept_runtime]

theorem State.fullReset_kept (s : State) : s.fullReset.kept.1 =
    (s.kept.1.1, false, false, s.kept.1.2.2.2.1, 1, 1) := by
  have h : (s.bump startCntId 0 15).resetTime.runtime = s.kept.1.2.2.2.1 := by
    rw [State.resetTime_runtime, State.bump_kept]
  have g : (s.bump startCntId 0 15).coldStart.pending = s.kept.1.1 := by
    rw [kept_pending, State.coldStart_kept, State.bump_kept]
  simp only [State.fullReset, kept_mk, h, g]
  rfl

@[simp] theorem State.powerNow_kept4 (s : State) (l : List Nat) :
    (s.powerNow l).kept.1.1 = s.kept.1.1 ∧ (s.powerNow l).kept.1.2.1 = s.kept.1.2.1 ∧ (s.powerNow l).kept.1.2.2.1 = s.kept.1.2.2.1 ∧
      (s.powerNow l).kept.1.2.2.2.1 = s.kept.1.2.2.2.1 ∧ (s.powerNow l).kept.2 = s.kept.2 := by
  simp [State.powerNow, kept_all]

theorem State.powerNow_pdOk (s : State) (l : List Nat) (h : s.pdOk) : (s.powerNow l).pdOk := by
  simpa [State.powerNow, State.pdOk, kept_all] using pd_both _ _ _ h

theorem State.powerNow_near (s : State) (l : List Nat) : near s (s.powerNow l) :=
  ⟨by simp, State.powerNow_pdOk s l⟩

theorem State.enterRecovery_near (s : State) : near s (s.enterRecovery) := by
  refine near_trans (s.powerNow_near [13, 15]) (near_of_kept ?_)
  simp [State.enterRecovery]
  rfl

@[simp] theorem State.romBoots_kept (s : State) (n : Nat) (other : Bool) :
    (State.romBoots s n other).kept = s.kept := by
  simp [State.romBoots, kept_all]

theorem State.romStart_near (s : State) (cause : Nat) (b : BootIn) : near s (s.romStart cause b) := by
  refine near_trans (s.powerNow_near [0, 1, 14]) ?_
  unfold State.romStart
  dsimp only
  exact near_ite _ (near_trans (near_of_kept (by simp)) (State.enterRecovery_near _))
    (near_ite _ (near_of_kept (by simp)) (near_ite _ (near_of_kept (by simp))
      (near_trans (near_of_kept (by simp)) (State.enterRecovery_near _))))

@[simp] theorem State.evResetPin_kept (s : State) (stuck : Bool) :
    (State.evResetPin s stuck).kept = s.kept := by
  simp [State.evResetPin, kept_all]

@[simp] theorem State.startDone_kept (s : State) :
    (State.startDone s).kept = s.kept := by
  simp [State.startDone, kept_all]

theorem State.powerNext_near (n : Nat) (s : State) : near s (State.powerNext n s) := by
  induction n generalizing s with
  | zero => exact near_refl s
  | succ k ih =>
    simp only [State.powerNext]
    split
    · exact near_of_kept (by simp)
    · split
      · refine near_trans (near_of_kept ?_) (ih _)
        split <;> simp [kept_mk] <;> rfl
      · split
        · exact State.domainOn_near _ _
        · exact near_refl s

theorem State.powerOn_near (s : State) : near s (s.powerOn) := by
  exact State.powerNext_near 14 s

@[simp] theorem State.resumeRecords_kept (s : State) :
    (State.resumeRecords s).kept = s.kept := by
  simp [State.resumeRecords, kept_all]

@[simp] theorem State.reapplyRetired_kept (s : State) :
    (State.reapplyRetired s).kept = s.kept := by
  simp [State.reapplyRetired, kept_all]

@[simp] theorem State.mountStores_kept (s : State) :
    (State.mountStores s).kept = s.kept := by
  simp [State.mountStores, kept_all]

theorem State.firmwareStart_near (s : State) : near s (s.firmwareStart) := by
  unfold State.firmwareStart
  refine near_trans (near_of_kept ?_) (State.powerOn_near _)
  simp
  rfl

@[simp] theorem State.startEvents_kept (s : State) :
    (State.startEvents s).kept = s.kept := by
  simp [State.startEvents, kept_all]

@[simp] theorem State.loseRail_kept (s : State) (r : Rail) :
    (State.loseRail s r).kept = s.kept := by
  simp [State.loseRail, kept_all]

@[simp] theorem State.losePd1_kept (s : State) :
    (State.losePd1 s).kept = s.kept := by
  simp [State.losePd1, kept_all]

theorem State.tripDomain_near (s : State) (d : Word) (n : Nat) : near s (s.tripDomain d n) := by
  have key : ∀ f, near s (((s.report (58 + n) d).modBoot f).domainOff n) := fun f =>
    near_trans (t := (s.report (58 + n) d).modBoot f) (near_of_kept (by simp)) (State.domainOff_near _ n)
  unfold State.tripDomain
  dsimp only
  refine near_ite _ (near_refl s) (near_ite _ ?_ (key _))
  exact near_trans (key _) (near_of_kept (State.losePd1_kept _))

theorem State.railBack_near (s : State) (n : Nat) : near s (s.railBack n) := by
  simp only [State.railBack]
  split
  · exact near_refl s
  · refine near_ite _ ?_ ?_
    · exact near_trans (near_of_kept (by simp [kept_ite])) (State.domainOn_near _ n)
    · exact near_of_kept (by simp [kept_ite])

@[simp] theorem State.lostWork_kept (s : State) :
    (State.lostWork s).kept = s.kept := by
  simp [State.lostWork, kept_all]

@[simp] theorem State.answerHandover_kept (s : State) (l : List Pkt) :
    (State.answerHandover s l).kept = s.kept := by
  simp [State.answerHandover, kept_all]

@[simp] theorem State.noteRestart_kept (s : State) (slot : Nat) (units : Nat) (since : Nat) :
    (State.noteRestart s slot units since).kept = s.kept := by
  simp [State.noteRestart, kept_all]

@[simp] theorem State.servedAgain_kept (s : State) :
    (State.servedAgain s).kept = s.kept := by
  simp [State.servedAgain, kept_all]

@[simp] theorem State.restartServed_kept (s : State) (r : Restart) (units : Nat) :
    (State.restartServed s r units).kept = s.kept := by
  simp [State.restartServed, kept_all]

@[simp] theorem State.haltServed_kept (s : State) :
    (State.haltServed s).kept = s.kept := by
  simp [State.haltServed, kept_all]

@[simp] theorem State.coreOut_kept (s : State) :
    (State.coreOut s).kept = s.kept := by
  simp [State.coreOut, kept_all]

@[simp] theorem State.windowMissed_kept (s : State) (r : Restart) :
    (State.windowMissed s r).kept = s.kept := by
  simp [State.windowMissed, kept_all]

/-! Machine/TestPort.lean -/

@[simp] theorem State.modTap_kept (s : State) (f : Tap → Tap) :
    (State.modTap s f).kept = s.kept := by
  simp [State.modTap, kept_all]

theorem State.testHold_near (s : State) : near s s.testHold := by
  refine ⟨?_, fun _ => ?_⟩
  · simp [State.testHold, kept_mk, kept_pending, kept_running, kept_confirmed, kept_runtime, kept_cfg]
  · simpa [State.testHold, State.pdOk, kept_mk, kept_pdOn] using pd_hold _ _

@[simp] theorem State.tapBypass_kept (s : State) (code : BitVec 8) :
    (State.tapBypass s code).kept = s.kept := by
  simp [State.tapBypass, kept_all]

@[simp] theorem State.bistDone_kept (s : State) (i : Ident) :
    (State.bistDone s i).kept = s.kept := by
  simp [State.bistDone, kept_all]

@[simp] theorem State.retireMap_kept (s : State) (map : BitVec 432) :
    (State.retireMap s map).kept = s.kept := by
  simp [State.retireMap, kept_all]

/-! Machine/Shown.lean -/

@[simp] theorem State.chkSync_kept (s : State) (p : Nat) :
    (State.chkSync s p).kept = s.kept := by
  simp [State.chkSync, kept_all]

@[simp] theorem State.readPort_kept (s : State) (id : Nat) (p : Nat) (k : Nat) :
    (State.readPort s id p k).1.kept = s.kept := by
  simp only [State.readPort]
  (repeat' split)
  all_goals simp [kept_all]

@[simp] theorem State.readItem_kept (s : State) (id : Nat) :
    (State.readItem s id).1.kept = s.kept := by
  simp only [State.readItem]
  (repeat' split)
  all_goals simp [kept_all]

@[simp] theorem State.readItems_kept (s : State) (l : List Nat) : (s.readItems l).1.kept = s.kept := by
  induction l generalizing s with
  | nil => rfl
  | cons x r ih => simp [State.readItems, ih]

/-! Machine/ItemWrite.lean -/

@[simp] theorem State.doQctl_kept (s : State) (v : Nat) :
    (State.doQctl s v).kept = s.kept := by
  simp [State.doQctl, kept_all]

@[simp] theorem State.doOsCtl_kept (s : State) (n : Nat) (v : Nat) :
    (State.doOsCtl s n v).kept = s.kept := by
  simp [State.doOsCtl, kept_all]

@[simp] theorem State.doLaneCtl_kept (s : State) (p : Nat) (v : Nat) :
    (State.doLaneCtl s p v).kept = s.kept := by
  simp [State.doLaneCtl, kept_all]

@[simp] theorem State.cmdEffect_kept (s : State) (id : Nat) (v : Nat) :
    (State.cmdEffect s id v).kept = s.kept := by
  unfold State.cmdEffect
  split <;> simp [kept_all]

@[simp] theorem State.putAct_kept (s : State) (n : Nat) (k : Nat) (v : Nat) :
    (State.putAct s n k v).kept = s.kept := by
  simp [State.putAct, kept_all]

@[simp] theorem State.configure_kept (s : State) (id : Nat) (v : Nat) :
    (State.configure s id v).kept.1 = s.kept.1 := by
  simp [State.configure, kept_all]

@[simp] theorem State.laneCfgEffect_kept (s : State) (p : Nat) (old : Nat) (new : Nat) :
    (State.laneCfgEffect s p old new).kept = s.kept := by
  simp [State.laneCfgEffect, kept_all]

@[simp] theorem State.pairCfgEffect_kept (s : State) (old : Nat) (new : Nat) :
    (State.pairCfgEffect s old new).kept = s.kept := by
  simp [State.pairCfgEffect, kept_all]

@[simp] theorem State.itemFollows_kept (s : State) (id : Nat) (old : Nat) (new : Nat) :
    (State.itemFollows s id old new).kept = s.kept := by
  unfold State.itemFollows
  split <;> simp [kept_all]

@[simp] theorem State.issueFenced_kept (s : State) (id : Nat) (v : Nat) :
    (State.issueFenced s id v).kept = s.kept := by
  unfold State.issueFenced
  split <;> simp [kept_all]

@[simp] theorem State.applyConfig_kept (s : State) (id : Nat) (v : Nat) :
    (State.applyConfig s id v).kept.1 = s.kept.1 := by
  simp [State.applyConfig, kept_all]

@[simp] theorem State.applyItem_kept (s : State) (x : Nat × Nat) :
    (State.applyItem s x).kept.1 = s.kept.1 := by
  simp [State.applyItem, kept_all]

@[simp] theorem State.resulting_kept (s : State) (l : List (Nat × Nat)) :
    (State.resulting s l).kept.1 = s.kept.1 := by
  simp [State.resulting, kept_all]

@[simp] theorem State.noteFailure_kept (s : State) (r : State) (x : Nat × Nat) :
    (State.noteFailure s r x).kept = s.kept := by
  simp [State.noteFailure, kept_all]

@[simp] theorem State.startDeferred_kept (s : State) (h : Hdr) (op : Nat) (id : Nat) (v : Nat) :
    (State.startDeferred s h op id v).kept = s.kept := by
  simp [State.startDeferred, kept_all]

@[simp] theorem State.applySet_kept (s : State) (l : List (Nat × Nat)) :
    (State.applySet s l).kept.1 = s.kept.1 := by
  simp [State.applySet, kept_all]

@[simp] theorem State.writeSet_kept (s : State) (h : Hdr) (op : Nat) (l : List (Nat × Nat)) :
    (State.writeSet s h op l).kept.1 = s.kept.1 := by
  simp only [State.writeSet]
  (repeat' split)
  all_goals simp [kept_all]

@[simp] theorem State.readSet_kept (s : State) (h : Hdr) (op : Nat) (ids : List Nat) :
    (State.readSet s h op ids).kept = s.kept := by
  unfold State.readSet
  split <;> simp [kept_all]

/-! Machine/ImageCheck.lean -/

@[simp] theorem State.withImage_kept (s : State) (l : List Sec) :
    (State.withImage s l).kept.1 = s.kept.1 := by
  simp [State.withImage, kept_all]

/-! Machine/Image.lean -/

@[simp] theorem State.modImage_kept (s : State) (f : Image → Image) (h : ∀ m, (f m).running = m.running) :
    (s.modImage f).kept = s.kept := by
  simp [State.modImage, State.kept, h]

@[simp] theorem State.dropVerify_kept (s : State) :
    (State.dropVerify s).kept = s.kept := by
  simp [State.dropVerify, kept_all]

@[simp] theorem State.noteCheck_kept (s : State) (r : Nat × Nat) :
    (State.noteCheck s r).kept = s.kept := by
  simp [State.noteCheck, kept_all]

@[simp] theorem State.takeCommit_kept (s : State) (h : Hdr) (store : Bool) :
    (State.takeCommit s h store).kept = s.kept := by
  simp [State.takeCommit, kept_all]

@[simp] theorem State.endCommit_kept (s : State) :
    (State.endCommit s).kept = s.kept := by
  simp [State.endCommit, kept_all]

@[simp] theorem State.failCommit_kept (s : State) :
    (State.failCommit s).kept = s.kept := by
  simp only [State.failCommit]
  (repeat' split)
  all_goals simp [kept_all]

@[simp] theorem State.splitForImage_kept (s : State) (l : List Change) :
    (State.splitForImage s l).kept = s.kept := by
  simp [State.splitForImage, kept_all]

@[simp] theorem State.putImage_kept (s : State) (new : Tbl Word) :
    (State.putImage s new).kept.1 = s.kept.1 := by
  simp [State.putImage, kept_all]

@[simp] theorem State.cellChanges_kept (s : State) (l : List Change) :
    (State.cellChanges s l).kept = s.kept := by
  simp [State.cellChanges, kept_all]

@[simp] theorem State.gaitChanges_kept (s : State) (l : List Change) :
    (State.gaitChanges s l).kept = s.kept := by
  simp [State.gaitChanges, kept_all]

@[simp] theorem State.slotChanges_kept (s : State) (l : List Change) :
    (State.slotChanges s l).kept = s.kept := by
  simp [State.slotChanges, kept_all]

@[simp] theorem State.otherChange_kept (s : State) (x : Change) :
    (State.otherChange s x).kept.1 = s.kept.1 := by
  unfold State.otherChange
  split <;> simp [kept_all]

@[simp] theorem State.opticalChanges_kept (s : State) :
    (State.opticalChanges s).kept = s.kept := by
  simp [State.opticalChanges, kept_all]

@[simp] theorem State.safetyChange_kept (s : State) (x : Change) :
    (State.safetyChange s x).kept = s.kept := by
  simp [State.safetyChange, kept_all]

@[simp] theorem State.newSignet_kept5 (s : State) (l : List Change) (sig : Word) :
    (s.newSignet l sig).kept.1.1 = s.kept.1.1 ∧ (s.newSignet l sig).kept.1.2.1 = s.kept.1.2.1 ∧ (s.newSignet l sig).kept.1.2.2.2 = s.kept.1.2.2.2 := by
  unfold State.newSignet
  dsimp only
  split <;> simp [kept_all]

theorem State.newSignet_conf (s : State) (l : List Change) (sig : Word) :
    (s.newSignet l sig).kept.1.2.2.1 = true → s.kept.1.2.2.1 = true := by
  unfold State.newSignet
  dsimp only
  split <;> simp [kept_all]

@[simp] theorem State.startSignet_kept5 (s : State) : (s.startSignet).kept.1.1 = s.kept.1.1 ∧
    (s.startSignet).kept.1.2.1 = s.kept.1.2.1 ∧ (s.startSignet).kept.1.2.2.2 = s.kept.1.2.2.2 := by
  unfold State.startSignet
  split
  · simp
  · split <;> simp [kept_all]

@[simp] theorem State.startSeq_kept (s : State) :
    (State.startSeq s).2.kept = s.kept := by
  simp [State.startSeq, kept_all]

@[simp] theorem State.firstChan_kept (s : State) (q : Nat) (c : Nat) (ch : Nat) :
    (State.firstChan s q c ch).kept = s.kept := by
  simp [State.firstChan, kept_all]

@[simp] theorem State.leaveHeld_kept (s : State) :
    s.leaveHeld.kept = ((s.kept.1.1, true, s.kept.1.2.2.1, s.kept.1.2.2.2), s.kept.2) := by
  unfold State.leaveHeld
  dsimp only
  rw [kept_forAll _ _ _ State.calKick_kept, kept_forAll _ _ _ State.slotReset_kept,
    kept_forAll _ _ _ (fun s x => by simp), kept_forAll _ _ _ (fun s x => by simp),
    State.modTime_kept _ (fun m => { m with outputs := true }) (fun _ => rfl), State.dropBusyGaps_kept,
    kept_forAll _ _ _ (fun s x => by simp), kept_forAll _ _ _ (fun s x => by simp), State.modBoot_kept]
  simp [State.modImage, kept_all]

@[simp] theorem State.noteCommit_kept (s : State) :
    (State.noteCommit s).kept = s.kept := by
  simp [State.noteCommit, kept_all]

theorem State.takeImage_kept (s : State) :
    s.takeImage.kept.1.1 = s.kept.1.1 ∧ s.takeImage.kept.1.2.1 = true ∧ s.takeImage.kept.1.2.2.2 = s.kept.1.2.2.2 := by
  unfold State.takeImage
  dsimp only
  cases hr : s.running
  · simp [kept_all]
  · have h : s.kept.1.2.1 = true := hr
    simp [h, kept_all]

theorem State.takeImage_conf (s : State) (hr : s.kept.1.2.1 = true) :
    s.takeImage.kept.1.2.2.1 = true → s.kept.1.2.2.1 = true := by
  have hr : s.running = true := hr
  unfold State.takeImage
  dsimp only
  simp only [hr, if_true, State.abandonBusyGaps_kept]
  intro h
  have h := State.newSignet_conf _ _ _ h
  simpa using h

@[simp] theorem State.gaitAgain_kept (s : State) : s.gaitAgain.kept.1 = s.kept.1 :=
  kept_fst_forAll _ _ _ (fun s x => s.gaitItems_kept x.1 x.2)

/-- Coming into force keeps what the image's values and the signet do not change. -/
theorem State.applyImage_fst (s : State) : s.applyImage.kept.1 = s.takeImage.kept.1 := by
  unfold State.applyImage
  dsimp only
  rw [State.updWm_kept, State.safetyRefresh_kept, kept_forAll _ _ _ (fun s x => by simp), State.sensorEnds_kept]
  simp

theorem State.applyImage_kept (s : State) :
    s.applyImage.kept.1.1 = s.kept.1.1 ∧ s.applyImage.kept.1.2.1 = true ∧ s.applyImage.kept.1.2.2.2 = s.kept.1.2.2.2 := by
  rw [State.applyImage_fst]
  exact s.takeImage_kept

theorem State.applyImage_conf (s : State) (hr : s.kept.1.2.1 = true) :
    s.applyImage.kept.1.2.2.1 = true → s.kept.1.2.2.1 = true := by
  rw [State.applyImage_fst]
  exact s.takeImage_conf hr

/-! Machine/Loading.lean -/

@[simp] theorem State.noCopy_kept (s : State) :
    (State.noCopy s).kept = s.kept := by
  simp only [State.noCopy]
  (repeat' split)
  all_goals simp [kept_all]

@[simp] theorem State.loadCopies_kept (s : State) :
    (State.loadCopies s).kept = s.kept := by
  simp only [State.loadCopies]
  (repeat' split)
  all_goals simp [kept_all]

@[simp] theorem State.tryLoad_kept (s : State) :
    (State.tryLoad s).kept = s.kept := by
  simp [State.tryLoad, kept_all]

end Sys2Proof.Machine
end

