-- ==== Sys2Proof/Laws/KeptExecA.lean ====
section
/-! SUPPORT. The meanings keep the kept part of the state as their instant leaves it; those of the power domains are said with near. -/

set_option Elab.async false

namespace Sys2Proof.Machine

/-! The forms of a meaning. -/

theorem atInstant_kept {t : Nat} {s u : State} {f : State → State} (h : ∀ s, (f s).kept = s.kept)
    (hx : at_ t s f = .next u) :
    u.kept = (s.setClock t).kept := by
  simp only [at_, Host.Outcome.next.injEq] at hx
  rw [← hx, h, State.tick_kept]

theorem onUnit_kept {k : UnitKind} {n t : Nat} {s u : State} {f : State → State} (h : ∀ s, (f s).kept = s.kept)
    (hx : onUnit k n t s f = .next u) : u.kept = (s.setClock t).kept := by
  simp only [onUnit] at hx
  split at hx
  · simp only [Host.Outcome.next.injEq] at hx
    rw [← hx, h, State.tick_kept]
  · cases hx

theorem onUnits_kept {k k' : UnitKind} {n n' t : Nat} {s u : State} {f : State → State} (h : ∀ s, (f s).kept = s.kept)
    (hx : onUnits k n k' n' t s f = .next u) : u.kept = (s.setClock t).kept := by
  simp only [onUnits] at hx
  split at hx
  · exact onUnit_kept h hx
  · cases hx

theorem command_kept {t : Nat} {s u : State} {f : State → State} (h : ∀ s, (f s).kept = s.kept)
    (hx : command t s f = .next u) : u.kept = (s.setClock t).kept :=
  atInstant_kept (fun s => kept_whenB _ f s h) hx

theorem packet_kept {op t : Nat} {hd : Hdr} {s u : State} {f : State → State} (h : ∀ s, (f s).kept = s.kept)
    (hx : packet op hd t s f = .next u) : u.kept = (s.setClock t).kept := by
  refine command_kept (fun s => ?_) hx
  split
  · simp
  · split
    · rfl
    · exact h s

theorem itemCommand_kept {id v t : Nat} {hd : Hdr} {s u : State} {c : State → Nat} {f : State → State}
    (h : ∀ s, (f s).kept = s.kept) (hx : itemCommand id v hd t s c f = .next u) : u.kept = (s.setClock t).kept := by
  refine packet_kept (fun s => ?_) hx
  (repeat' split)
  · simp
  · simp
  · simp [h]

/-! The same for a meaning that changes configured values. -/

theorem command_kept_fst {t : Nat} {s u : State} {f : State → State} (h : ∀ s, (f s).kept.1 = s.kept.1)
    (hx : command t s f = .next u) : u.kept.1 = (s.setClock t).kept.1 := by
  simp only [command, at_, Host.Outcome.next.injEq] at hx
  rw [← hx]
  unfold whenCore whenB
  split
  · rw [h, State.tick_kept]
  · rw [State.tick_kept]

theorem onUnit_kept_fst {k : UnitKind} {n t : Nat} {s u : State} {f : State → State} (h : ∀ s, (f s).kept.1 = s.kept.1)
    (hx : onUnit k n t s f = .next u) : u.kept.1 = (s.setClock t).kept.1 := by
  simp only [onUnit] at hx
  split at hx
  · simp only [Host.Outcome.next.injEq] at hx
    rw [← hx, h, State.tick_kept]
  · cases hx

theorem packet_kept_fst {op t : Nat} {hd : Hdr} {s u : State} {f : State → State} (h : ∀ s, (f s).kept.1 = s.kept.1)
    (hx : packet op hd t s f = .next u) : u.kept.1 = (s.setClock t).kept.1 := by
  refine command_kept_fst (fun s => ?_) hx
  split
  · simp
  · split
    · rfl
    · exact h s

theorem itemCommand_kept_fst {id v t : Nat} {hd : Hdr} {s u : State} {c : State → Nat} {f : State → State}
    (h : ∀ s, (f s).kept.1 = s.kept.1) (hx : itemCommand id v hd t s c f = .next u) : u.kept.1 = (s.setClock t).kept.1 := by
  refine packet_kept_fst (fun s => ?_) hx
  (repeat' split)
  · simp
  · simp
  · simp [h]

theorem latchRead_kept {ok : Bool} {t : Nat} {hd : Hdr} {s u : State} {f : State → State × Nat}
    (h : ∀ s, (f s).1.kept = s.kept) (hx : latchRead ok hd t s f = .next u) : u.kept = (s.setClock t).kept := by
  refine packet_kept (fun s => ?_) hx
  split
  · simp [h]
  · simp

theorem tapCommand_kept {t : Nat} {s u : State} {f : State → State} (h : ∀ s, (f s).kept = s.kept)
    (hx : tapCommand t s f = .next u) : u.kept = (s.setClock t).kept := by
  refine atInstant_kept (fun s => ?_) hx
  split
  · exact h s
  · rfl

/-! The same for steps that only change the power domains. -/

theorem atInstant_near {t : Nat} {s u : State} {f : State → State} (h : ∀ s, near s (f s))
    (hx : at_ t s f = .next u) :
    near (s.setClock t) u := by
  simp only [at_, Host.Outcome.next.injEq] at hx
  rw [← hx]
  exact near_trans (near_of_kept (State.tick_kept t s)) (h _)

theorem onUnit_near {k : UnitKind} {n t : Nat} {s u : State} {f : State → State} (h : ∀ s, near s (f s))
    (hx : onUnit k n t s f = .next u) : near (s.setClock t) u := by
  simp only [onUnit] at hx
  split at hx
  · simp only [Host.Outcome.next.injEq] at hx
    rw [← hx]
    exact near_trans (near_of_kept (State.tick_kept t s)) (h _)
  · cases hx

theorem packet_near {op t : Nat} {hd : Hdr} {s u : State} {f : State → State} (h : ∀ s, near s (f s))
    (hx : packet op hd t s f = .next u) : near (s.setClock t) u := by
  refine atInstant_near (fun s => ?_) hx
  unfold whenCore whenB
  refine near_ite _ (near_ite _ (near_of_kept (by simp)) (near_ite _ (near_refl s) (h s))) (near_refl s)

theorem intrusive_near {t : Nat} {code : BitVec 8} {s u : State} {f : State → Tap → Tap}
    (hx : intrusive t code s f = .next u) : near (s.setClock t) u := by
  unfold intrusive tapCommand at hx
  refine atInstant_near (fun s => ?_) hx
  dsimp only
  refine near_ite _ (near_ite _ ?_ (near_of_kept (by simp [State.tapBypass]))) (near_refl s)
  exact near_trans (State.testHold_near s) (near_of_kept (by simp))

theorem execWrite_kept (t stated : Nat) (bytes : List Byte) (s : State) (u : State)
    (hx : execWrite t stated bytes s = .next u) :
    u.kept = (s.setClock t).kept := by
  unfold execWrite at hx
  refine atInstant_kept (fun s => ?_) hx
  simp [kept_all]

theorem execReadReply_kept (t clocked : Nat) (ecc : List Ecc) (s : State) (u : State)
    (hx : execReadReply t clocked ecc s = .next u) :
    u.kept = (s.setClock t).kept := by
  unfold execReadReply at hx
  refine atInstant_kept (fun s => ?_) hx
  simp [kept_all]

theorem execReadEvents_kept (t clocked : Nat) (ecc : List Ecc) (s : State) (u : State)
    (hx : execReadEvents t clocked ecc s = .next u) :
    u.kept = (s.setClock t).kept := by
  unfold execReadEvents at hx
  refine atInstant_kept (fun s => ?_) hx
  simp [kept_all]

theorem execStatus_kept (t : Nat) (s : State) (u : State) (hx : execStatus t s = .next u) :
    u.kept = (s.setClock t).kept := by
  unfold execStatus at hx
  refine atInstant_kept (fun s => ?_) hx
  simp [kept_all]

theorem execBadTransactionCode_kept (t code : Nat) (s : State) (u : State)
    (hx : execBadTransactionCode t code s = .next u) :
    u.kept = (s.setClock t).kept := by
  unfold execBadTransactionCode at hx
  refine atInstant_kept (fun s => ?_) hx
  simp [kept_all]

theorem execCommandStart_kept (t : Nat) (s : State) (u : State) (hx : execCommandStart t s = .next u) :
    u.kept = (s.setClock t).kept := by
  unfold execCommandStart at hx
  refine command_kept (fun s => ?_) hx
  simp [kept_all]

theorem execNop_kept (t : Nat) (h : Hdr) (s : State) (u : State) (hx : execNop t h s = .next u) :
    u.kept = (s.setClock t).kept := by
  unfold execNop at hx
  refine packet_kept (fun s => ?_) hx
  simp [kept_all]

theorem execIdentify_kept (t : Nat) (h : Hdr) (s : State) (u : State) (hx : execIdentify t h s = .next u) :
    u.kept = (s.setClock t).kept := by
  unfold execIdentify at hx
  refine packet_kept (fun s => ?_) hx
  simp [kept_all]

theorem execFence_kept (t : Nat) (h : Hdr) (scope : Nat) (s : State) (u : State)
    (hx : execFence t h scope s = .next u) :
    u.kept = (s.setClock t).kept := by
  unfold execFence at hx
  refine packet_kept (fun s => ?_) hx
  simp [kept_all]

theorem execFenceCfgMet_kept (t : Nat) (h : Hdr) (s : State) (u : State) (hx : execFenceCfgMet t h s = .next u) :
    u.kept = (s.setClock t).kept := by
  unfold execFenceCfgMet at hx
  refine command_kept (fun s => ?_) hx
  split <;> simp [kept_all]

theorem execFenceOutMet_kept (t : Nat) (h : Hdr) (s : State) (u : State) (hx : execFenceOutMet t h s = .next u) :
    u.kept = (s.setClock t).kept := by
  unfold execFenceOutMet at hx
  refine command_kept (fun s => ?_) hx
  split <;> simp [kept_all]

theorem execPdCtl_near (t : Nat) (h : Hdr) (domain action lanes : Nat) (s : State) (u : State)
    (hx : execPdCtl t h domain action lanes s = .next u) :
    near (s.setClock t) u := by
  unfold execPdCtl at hx
  refine packet_near (fun s => ?_) hx
  dsimp only
  exact near_ite _ (near_of_kept (by simp)) (near_ite _ (near_of_kept (by simp)) (State.pdSwitch_near s h domain action))

theorem execCellWriteEffect_kept (t cell : Nat) (s : State) (u : State)
    (hx : execCellWriteEffect t cell s = .next u) :
    u.kept = (s.setClock t).kept := by
  unfold execCellWriteEffect at hx
  refine onUnit_kept (fun s => ?_) hx
  simp [kept_all]

theorem execCrosspointClose_kept (t cell : Nat) (s : State) (u : State)
    (hx : execCrosspointClose t cell s = .next u) :
    u.kept = (s.setClock t).kept := by
  unfold execCrosspointClose at hx
  refine onUnit_kept (fun s => ?_) hx
  split <;> simp [kept_all]

theorem execCrossingPatienceExpiry_kept (t : Nat) (x : Crossing) (unit : Nat) (s : State) (u : State)
    (hx : execCrossingPatienceExpiry t x unit s = .next u) :
    u.kept = (s.setClock t).kept := by
  unfold execCrossingPatienceExpiry at hx
  refine onUnit_kept (fun s => ?_) hx
  simp [kept_all]

theorem execTapExcursionStart_kept (t cell tap : Nat) (s : State) (u : State)
    (hx : execTapExcursionStart t cell tap s = .next u) :
    u.kept = (s.setClock t).kept := by
  unfold execTapExcursionStart at hx
  refine onUnits_kept (fun s => ?_) hx
  simp [kept_all]

theorem execTapExcursionEnd_kept (t cell tap : Nat) (s : State) (u : State)
    (hx : execTapExcursionEnd t cell tap s = .next u) :
    u.kept = (s.setClock t).kept := by
  unfold execTapExcursionEnd at hx
  refine onUnits_kept (fun s => ?_) hx
  simp [kept_all]

theorem execSourceMonitorEvaluation_kept (t src : Nat) (m : Monitor) (s : State) (u : State)
    (hx : execSourceMonitorEvaluation t src m s = .next u) :
    u.kept = (s.setClock t).kept := by
  unfold execSourceMonitorEvaluation at hx
  refine onUnit_kept (fun s => ?_) hx
  simp [kept_all]

theorem execDriftEvaluation_kept (t src : Nat) (m : Monitor) (s : State) (u : State)
    (hx : execDriftEvaluation t src m s = .next u) :
    u.kept = (s.setClock t).kept := by
  unfold execDriftEvaluation at hx
  refine onUnit_kept (fun s => ?_) hx
  simp [kept_all]

theorem execBlankingEnd_kept (t src : Nat) (s : State) (u : State) (hx : execBlankingEnd t src s = .next u) :
    u.kept = (s.setClock t).kept := by
  unfold execBlankingEnd at hx
  refine onUnit_kept (fun s => ?_) hx
  split <;> simp [kept_all]

theorem execQaThresholdCrossing_kept (t cell qa : Nat) (lv : QaLevels) (s : State) (u : State)
    (hx : execQaThresholdCrossing t cell qa lv s = .next u) :
    u.kept = (s.setClock t).kept := by
  unfold execQaThresholdCrossing at hx
  refine onUnits_kept (fun s => ?_) hx
  simp [kept_all]

theorem execQaPeriodicReset_kept (t cell qa : Nat) (lv : QaLevels) (s : State) (u : State)
    (hx : execQaPeriodicReset t cell qa lv s = .next u) :
    u.kept = (s.setClock t).kept := by
  unfold execQaPeriodicReset at hx
  refine onUnits_kept (fun s => ?_) hx
  simp [kept_all]

theorem execQaDeferredReset_kept (t cell qa : Nat) (lv : QaLevels) (s : State) (u : State)
    (hx : execQaDeferredReset t cell qa lv s = .next u) :
    u.kept = (s.setClock t).kept := by
  unfold execQaDeferredReset at hx
  refine onUnits_kept (fun s => ?_) hx
  simp [kept_all]

theorem execRangeRecoveryEnd_kept (t ch : Nat) (s : State) (u : State) (hx : execRangeRecoveryEnd t ch s = .next u) :
    u.kept = (s.setClock t).kept := by
  unfold execRangeRecoveryEnd at hx
  refine onUnit_kept (fun s => ?_) hx
  split <;> simp [kept_all]

theorem execConverterPathValid_kept (t cell : Nat) (s : State) (u : State)
    (hx : execConverterPathValid t cell s = .next u) :
    u.kept = (s.setClock t).kept := by
  unfold execConverterPathValid at hx
  refine onUnit_kept (fun s => ?_) hx
  split <;> simp [kept_all]

theorem execSeamlessSeam_kept (t cell : Nat) (s : State) (u : State) (hx : execSeamlessSeam t cell s = .next u) :
    u.kept = (s.setClock t).kept := by
  unfold execSeamlessSeam at hx
  refine onUnit_kept (fun s => ?_) hx
  split <;> simp [kept_all]

theorem execSeamlessHandbackSeam_kept (t cell : Nat) (s : State) (u : State)
    (hx : execSeamlessHandbackSeam t cell s = .next u) :
    u.kept = (s.setClock t).kept := by
  unfold execSeamlessHandbackSeam at hx
  refine onUnit_kept (fun s => ?_) hx
  split <;> simp [kept_all]

theorem execAutoRangeLower_kept (t ch : Nat) (s : State) (u : State) (hx : execAutoRangeLower t ch s = .next u) :
    u.kept = (s.setClock t).kept := by
  unfold execAutoRangeLower at hx
  refine onUnit_kept (fun s => ?_) hx
  simp [kept_all]

theorem execAutoRangeRaise_kept (t ch : Nat) (s : State) (u : State) (hx : execAutoRangeRaise t ch s = .next u) :
    u.kept = (s.setClock t).kept := by
  unfold execAutoRangeRaise at hx
  refine onUnit_kept (fun s => ?_) hx
  simp [kept_all]

theorem execModulatorFailure_kept (t cell modulator : Nat) (s : State) (u : State)
    (hx : execModulatorFailure t cell modulator s = .next u) :
    u.kept = (s.setClock t).kept := by
  unfold execModulatorFailure at hx
  refine onUnits_kept (fun s => ?_) hx
  (repeat' split) <;> simp [kept_all]

theorem execColdSwitchResume_kept (t ch : Nat) (s : State) (u : State) (hx : execColdSwitchResume t ch s = .next u) :
    u.kept = (s.setClock t).kept := by
  unfold execColdSwitchResume at hx
  refine onUnit_kept (fun s => ?_) hx
  simp [kept_all]

theorem execSpAssign_kept (t : Nat) (h : Hdr) (cell : Nat) (val : Word) (s : State) (u : State)
    (hx : execSpAssign t h cell val s = .next u) :
    u.kept = (s.setClock t).kept := by
  unfold execSpAssign at hx
  refine itemCommand_kept (fun s => ?_) hx
  simp [kept_all]

theorem execWarmSeam_kept (t cell : Nat) (ps : List BasePer) (s : State) (u : State)
    (hx : execWarmSeam t cell ps s = .next u) :
    u.kept = (s.setClock t).kept := by
  unfold execWarmSeam at hx
  refine onUnit_kept (fun s => ?_) hx
  split <;> simp [kept_all]

theorem execVwRead_kept (t : Nat) (h : Hdr) (src : Nat) (s : State) (u : State)
    (hx : execVwRead t h src s = .next u) :
    u.kept = (s.setClock t).kept := by
  unfold execVwRead at hx
  refine packet_kept (fun s => ?_) hx
  simp [kept_all]

theorem execVwResistanceEnd_kept (t src : Nat) (m : Monitor) (s : State) (u : State) (hx : execVwResistanceEnd t src m s = .next u) :
    u.kept = (s.setClock t).kept := by
  unfold execVwResistanceEnd at hx
  refine onUnit_kept (fun s => ?_) hx
  simp [kept_all]

theorem execVwPluckStart_kept (t src : Nat) (s : State) (u : State) (hx : execVwPluckStart t src s = .next u) :
    u.kept = (s.setClock t).kept := by
  unfold execVwPluckStart at hx
  refine onUnit_kept (fun s => ?_) hx
  simp [kept_all]

theorem execVwListenStart_kept (t src : Nat) (s : State) (u : State) (hx : execVwListenStart t src s = .next u) :
    u.kept = (s.setClock t).kept := by
  unfold execVwListenStart at hx
  refine onUnit_kept (fun s => ?_) hx
  simp [kept_all]

theorem execVwCaptureEnd_kept (t src : Nat) (s : State) (u : State) (hx : execVwCaptureEnd t src s = .next u) :
    u.kept = (s.setClock t).kept := by
  unfold execVwCaptureEnd at hx
  refine onUnit_kept (fun s => ?_) hx
  (repeat' (first | (simp [kept_all]; done) | split | (simp [kept_all]; split)))

theorem execOutputSample_kept (t ch : Nat) (ps : List BasePer) (s : State) (u : State) (hx : execOutputSample t ch ps s = .next u) :
    u.kept = (s.setClock t).kept := by
  unfold execOutputSample at hx
  refine onUnit_kept (fun s => ?_) hx
  simp [kept_all]

theorem execCoarseValue_kept (t ch : Nat) (ps : List BasePer) (s : State) (u : State) (hx : execCoarseValue t ch ps s = .next u) :
    u.kept = (s.setClock t).kept := by
  unfold execCoarseValue at hx
  refine onUnit_kept (fun s => ?_) hx
  simp [kept_all]

theorem execSwap_kept (t : Nat) (h : Hdr) (gait : Nat) (s : State) (u : State) (hx : execSwap t h gait s = .next u) :
    u.kept = (s.setClock t).kept := by
  unfold execSwap at hx
  refine itemCommand_kept (fun s => ?_) hx
  simp [kept_all]

theorem execSwapEffect_kept (t gait : Nat) (s : State) (u : State) (hx : execSwapEffect t gait s = .next u) :
    u.kept = (s.setClock t).kept := by
  unfold execSwapEffect at hx
  refine onUnit_kept (fun s => ?_) hx
  (repeat' (first | (simp [kept_all]; done) | split | (simp [kept_all]; split)))

theorem execGaitChange_kept (t ch : Nat) (s : State) (u : State) (hx : execGaitChange t ch s = .next u) :
    u.kept = (s.setClock t).kept := by
  unfold execGaitChange at hx
  refine onUnit_kept (fun s => ?_) hx
  split <;> simp [kept_all]

theorem execRedCloseAcc_kept (t : Nat) (h : Hdr) (ch : Nat) (s : State) (u : State)
    (hx : execRedCloseAcc t h ch s = .next u) :
    u.kept = (s.setClock t).kept := by
  unfold execRedCloseAcc at hx
  refine itemCommand_kept (fun s => ?_) hx
  simp [kept_all]

theorem execRedCloseMm_kept (t : Nat) (h : Hdr) (ch : Nat) (s : State) (u : State)
    (hx : execRedCloseMm t h ch s = .next u) :
    u.kept = (s.setClock t).kept := by
  unfold execRedCloseMm at hx
  refine itemCommand_kept (fun s => ?_) hx
  simp [kept_all]

theorem execRedLatchLive_kept (t : Nat) (h : Hdr) (ch : Nat) (s : State) (u : State)
    (hx : execRedLatchLive t h ch s = .next u) :
    u.kept = (s.setClock t).kept := by
  unfold execRedLatchLive at hx
  refine itemCommand_kept (fun s => ?_) hx
  simp [kept_all]

theorem execRedLatchLast_kept (t : Nat) (h : Hdr) (ch : Nat) (s : State) (u : State)
    (hx : execRedLatchLast t h ch s = .next u) :
    u.kept = (s.setClock t).kept := by
  unfold execRedLatchLast at hx
  refine itemCommand_kept (fun s => ?_) hx
  simp [kept_all]

theorem execIntervalClose_kept (t ch : Nat) (s : State) (u : State) (hx : execIntervalClose t ch s = .next u) :
    u.kept = (s.setClock t).kept := by
  unfold execIntervalClose at hx
  refine onUnit_kept (fun s => ?_) hx
  simp [kept_all]

theorem execMeasCmd_kept (t : Nat) (h : Hdr) (ch : Nat) (s : State) (u : State)
    (hx : execMeasCmd t h ch s = .next u) :
    u.kept = (s.setClock t).kept := by
  unfold execMeasCmd at hx
  refine packet_kept (fun s => ?_) hx
  simp [kept_all]

theorem execSpanEnd_kept (t ch : Nat) (ofRecord : Bool) (s : State) (u : State)
    (hx : execSpanEnd t ch ofRecord s = .next u) :
    u.kept = (s.setClock t).kept := by
  unfold execSpanEnd at hx
  refine onUnit_kept (fun s => ?_) hx
  (repeat' split) <;> simp [kept_all]

theorem execMeasResult_kept (t ch : Nat) (ofRecord : Bool) (s : State) (u : State)
    (hx : execMeasResult t ch ofRecord s = .next u) :
    u.kept = (s.setClock t).kept := by
  unfold execMeasResult at hx
  refine onUnit_kept (fun s => ?_) hx
  (repeat' split) <;> simp [kept_all]

theorem execGapEntryCont_kept (t ch : Nat) (s : State) (u : State) (hx : execGapEntryCont t ch s = .next u) :
    u.kept = (s.setClock t).kept := by
  unfold execGapEntryCont at hx
  refine onUnit_kept (fun s => ?_) hx
  dsimp only
  rw [kept_forAll]
  · split
    · split <;> simp
    · rfl
  · intro s x
    split
    · split
      · split <;> simp
      · rfl
    · rfl

theorem execLastSampleRead_kept (t : Nat) (h : Hdr) (ch : Nat) (s : State) (u : State)
    (hx : execLastSampleRead t h ch s = .next u) :
    u.kept = (s.setClock t).kept := by
  unfold execLastSampleRead at hx
  refine latchRead_kept (fun s => ?_) hx
  simp [kept_all]

theorem execLastCoarseRead_kept (t : Nat) (h : Hdr) (ch : Nat) (s : State) (u : State)
    (hx : execLastCoarseRead t h ch s = .next u) :
    u.kept = (s.setClock t).kept := by
  unfold execLastCoarseRead at hx
  refine latchRead_kept (fun s => ?_) hx
  simp [kept_all]

theorem execManual_kept (t : Nat) (h : Hdr) (profile : Nat) (net : Bool) (s : State) (u : State)
    (hx : execManual t h profile net s = .next u) :
    u.kept = (s.setClock t).kept := by
  unfold execManual at hx
  refine itemCommand_kept (fun s => ?_) hx
  simp [kept_all]

theorem execRecordManual_kept (t : Nat) (h : Hdr) (profile : Nat) (net : Bool) (s : State) (u : State)
    (hx : execRecordManual t h profile net s = .next u) :
    u.kept = (s.setClock t).kept := by
  unfold execRecordManual at hx
  refine packet_kept (fun s => ?_) hx
  simp [kept_all]

theorem execRctl_kept (t : Nat) (h : Hdr) (slot : Nat) (s : State) (u : State) (hx : execRctl t h slot s = .next u) :
    u.kept = (s.setClock t).kept := by
  unfold execRctl at hx
  refine itemCommand_kept (fun s => ?_) hx
  simp [kept_all]

theorem execRecordClose_kept (t : Nat) (h : Hdr) (slot : Nat) (s : State) (u : State)
    (hx : execRecordClose t h slot s = .next u) :
    u.kept = (s.setClock t).kept := by
  unfold execRecordClose at hx
  refine packet_kept (fun s => ?_) hx
  simp [kept_all]

theorem execSlotResult_kept (t slot : Nat) (s : State) (u : State) (hx : execSlotResult t slot s = .next u) :
    u.kept = (s.setClock t).kept := by
  unfold execSlotResult at hx
  refine onUnit_kept (fun s => ?_) hx
  split <;> simp [kept_all]

theorem execTriggerEvent_kept (t trig : Nat) (s : State) (u : State) (hx : execTriggerEvent t trig s = .next u) :
    u.kept = (s.setClock t).kept := by
  unfold execTriggerEvent at hx
  refine atInstant_kept (fun s => ?_) hx
  split <;> simp [kept_all]

theorem execRecordEnd_kept (t slot : Nat) (s : State) (u : State) (hx : execRecordEnd t slot s = .next u) :
    u.kept = (s.setClock t).kept := by
  unfold execRecordEnd at hx
  refine onUnit_kept (fun s => ?_) hx
  split <;> simp [kept_all]

theorem execNetworkTriggerReceive_kept (t port seq hops : Nat) (m : NetTrig) (s : State) (u : State)
    (hx : execNetworkTriggerReceive t port seq hops m s = .next u) :
    u.kept = (s.setClock t).kept := by
  unfold execNetworkTriggerReceive at hx
  refine onUnit_kept (fun s => ?_) hx
  simp [kept_all]

theorem execBlockFlush_kept (t ch : Nat) (slot : Option Nat) (s : State) (u : State)
    (hx : execBlockFlush t ch slot s = .next u) :
    u.kept = (s.setClock t).kept := by
  unfold execBlockFlush at hx
  refine onUnit_kept (fun s => ?_) hx
  split <;> simp [kept_all]

theorem execRefclkLost_kept (t cause : Nat) (s : State) (u : State) (hx : execRefclkLost t cause s = .next u) :
    u.kept = (s.setClock t).kept := by
  unfold execRefclkLost at hx
  refine atInstant_kept (fun s => ?_) hx
  simp [kept_all]

theorem execRefclkReturn_kept (t : Nat) (s : State) (u : State) (hx : execRefclkReturn t s = .next u) :
    u.kept = (s.setClock t).kept := by
  unfold execRefclkReturn at hx
  refine atInstant_kept (fun s => ?_) hx
  simp [kept_all]

theorem execSyncSend_kept (t port : Nat) (s : State) (u : State) (hx : execSyncSend t port s = .next u) :
    u.kept = (s.setClock t).kept := by
  unfold execSyncSend at hx
  refine onUnit_kept (fun s => ?_) hx
  simp [kept_all]

theorem execSyncReceive_kept (t port : Nat) (m : TimeMsg) (s : State) (u : State)
    (hx : execSyncReceive t port m s = .next u) :
    u.kept = (s.setClock t).kept := by
  unfold execSyncReceive at hx
  refine onUnit_kept (fun s => ?_) hx
  simp [kept_all]

theorem execDelayReqReceive_kept (t port : Nat) (m : TimeMsg) (s : State) (u : State)
    (hx : execDelayReqReceive t port m s = .next u) :
    u.kept = (s.setClock t).kept := by
  unfold execDelayReqReceive at hx
  refine onUnit_kept (fun s => ?_) hx
  simp [kept_all]

theorem execDelayRespReceive_kept (t port : Nat) (m : TimeMsg) (y : Int) (s : State) (u : State)
    (hx : execDelayRespReceive t port m y s = .next u) :
    u.kept = (s.setClock t).kept := by
  unfold execDelayRespReceive at hx
  refine onUnit_kept (fun s => ?_) hx
  simp [kept_all]

theorem execPtpMessageReceive_kept (t port : Nat) (m : PtpMsg) (y : Int) (s : State) (u : State)
    (hx : execPtpMessageReceive t port m y s = .next u) :
    u.kept = (s.setClock t).kept := by
  unfold execPtpMessageReceive at hx
  refine onUnit_kept (fun s => ?_) hx
  simp [kept_all]

theorem execPtpMessageSend_kept (t port kind : Nat) (s : State) (u : State)
    (hx : execPtpMessageSend t port kind s = .next u) :
    u.kept = (s.setClock t).kept := by
  unfold execPtpMessageSend at hx
  refine onUnit_kept (fun s => ?_) hx
  (repeat' split) <;> simp [kept_all]

theorem execParentLoss_kept (t : Nat) (s : State) (u : State) (hx : execParentLoss t s = .next u) :
    u.kept = (s.setClock t).kept := by
  unfold execParentLoss at hx
  refine atInstant_kept (fun s => ?_) hx
  simp [kept_all]

theorem execParentReplaceTimeout_kept (t : Nat) (s : State) (u : State)
    (hx : execParentReplaceTimeout t s = .next u) :
    u.kept = (s.setClock t).kept := by
  unfold execParentReplaceTimeout at hx
  refine atInstant_kept (fun s => ?_) hx
  split <;> simp [kept_all]

theorem execLeadWaitExpiry_kept (t : Nat) (s : State) (u : State) (hx : execLeadWaitExpiry t s = .next u) :
    u.kept = (s.setClock t).kept := by
  unfold execLeadWaitExpiry at hx
  refine atInstant_kept (fun s => ?_) hx
  simp [kept_all]

theorem execHoldLimitPassed_kept (t : Nat) (s : State) (u : State) (hx : execHoldLimitPassed t s = .next u) :
    u.kept = (s.setClock t).kept := by
  unfold execHoldLimitPassed at hx
  refine atInstant_kept (fun s => ?_) hx
  simp [kept_all]

theorem execSlewComplete_kept (t : Nat) (s : State) (u : State) (hx : execSlewComplete t s = .next u) :
    u.kept = (s.setClock t).kept := by
  unfold execSlewComplete at hx
  refine atInstant_kept (fun s => ?_) hx
  simp [kept_all]

theorem execNtimeLatRead_kept (t : Nat) (h : Hdr) (s : State) (u : State) (hx : execNtimeLatRead t h s = .next u) :
    u.kept = (s.setClock t).kept := by
  unfold execNtimeLatRead at hx
  refine latchRead_kept (fun s => ?_) hx
  simp [kept_all]

theorem execUtc_kept (t : Nat) (h : Hdr) (val : Word) (s : State) (u : State) (hx : execUtc t h val s = .next u) :
    u.kept.1 = (s.setClock t).kept.1 := by
  unfold execUtc at hx
  refine itemCommand_kept_fst (fun s => ?_) hx
  simp [kept_all]

theorem execTimeRead_kept (t : Nat) (h : Hdr) (s : State) (u : State) (hx : execTimeRead t h s = .next u) :
    u.kept = (s.setClock t).kept := by
  unfold execTimeRead at hx
  refine packet_kept (fun s => ?_) hx
  simp [kept_all]

theorem execReinEdge_kept (t line : Nat) (rising : Bool) (s : State) (u : State)
    (hx : execReinEdge t line rising s = .next u) :
    u.kept = (s.setClock t).kept := by
  unfold execReinEdge at hx
  refine onUnit_kept (fun s => ?_) hx
  (repeat' split) <;> simp [kept_all]

theorem execReinSyncDrive_kept (t : Nat) (s : State) (u : State) (hx : execReinSyncDrive t s = .next u) :
    u.kept = (s.setClock t).kept := by
  unfold execReinSyncDrive at hx
  refine atInstant_kept (fun s => ?_) hx
  simp [kept_all]

theorem execReinPulseEnd_kept (t line : Nat) (s : State) (u : State) (hx : execReinPulseEnd t line s = .next u) :
    u.kept = (s.setClock t).kept := by
  unfold execReinPulseEnd at hx
  refine onUnit_kept (fun s => ?_) hx
  split <;> simp [kept_all]

theorem execReinClkMissing_kept (t : Nat) (s : State) (u : State) (hx : execReinClkMissing t s = .next u) :
    u.kept = (s.setClock t).kept := by
  unfold execReinClkMissing at hx
  refine atInstant_kept (fun s => ?_) hx
  simp [kept_all]

theorem execReinSyncMissing_kept (t : Nat) (s : State) (u : State) (hx : execReinSyncMissing t s = .next u) :
    u.kept = (s.setClock t).kept := by
  unfold execReinSyncMissing at hx
  refine atInstant_kept (fun s => ?_) hx
  simp [kept_all]

theorem execReinReadbackFault_kept (t line : Nat) (s : State) (u : State)
    (hx : execReinReadbackFault t line s = .next u) :
    u.kept = (s.setClock t).kept := by
  unfold execReinReadbackFault at hx
  refine onUnit_kept (fun s => ?_) hx
  simp [kept_all]

theorem execReinLineStuckHigh_kept (t line : Nat) (s : State) (u : State)
    (hx : execReinLineStuckHigh t line s = .next u) :
    u.kept = (s.setClock t).kept := by
  unfold execReinLineStuckHigh at hx
  refine onUnit_kept (fun s => ?_) hx
  simp [kept_all]

theorem execCalRequest_kept (t : Nat) (h : Hdr) (kind target : Nat) (s : State) (u : State)
    (hx : execCalRequest t h kind target s = .next u) :
    u.kept = (s.setClock t).kept := by
  unfold execCalRequest at hx
  refine packet_kept (fun s => ?_) hx
  simp [kept_all]

theorem execCalReq_kept (t : Nat) (h : Hdr) (kind target : Nat) (s : State) (u : State)
    (hx : execCalReq t h kind target s = .next u) :
    u.kept = (s.setClock t).kept := by
  unfold execCalReq at hx
  refine packet_kept (fun s => ?_) hx
  simp [kept_all]

theorem execBaseline_kept (t : Nat) (h : Hdr) (val : Word) (s : State) (u : State)
    (hx : execBaseline t h val s = .next u) :
    u.kept = (s.setClock t).kept := by
  unfold execBaseline at hx
  refine itemCommand_kept (fun s => ?_) hx
  simp [kept_all]

theorem execBackgroundCalibration_kept (t cell : Nat) (s : State) (u : State)
    (hx : execBackgroundCalibration t cell s = .next u) :
    u.kept = (s.setClock t).kept := by
  unfold execBackgroundCalibration at hx
  refine onUnit_kept (fun s => ?_) hx
  simp [kept_all]

theorem execCalibrationResult_kept (t : Nat) (c : CalOut) (s : State) (u : State)
    (hx : execCalibrationResult t c s = .next u) :
    u.kept = (s.setClock t).kept := by
  unfold execCalibrationResult at hx
  split at hx
  · refine onUnits_kept (fun s => ?_) hx
    (repeat' split) <;> simp
  · refine onUnit_kept (fun s => ?_) hx
    split <;> simp
  · refine onUnits_kept (fun s => ?_) hx
    split <;> simp

theorem execTrimApply_kept (t cell conv : Nat) (s : State) (u : State) (hx : execTrimApply t cell conv s = .next u) :
    u.kept = (s.setClock t).kept := by
  unfold execTrimApply at hx
  refine onUnits_kept (fun s => ?_) hx
  simp [kept_all]

theorem execTriangulationRun_kept (t : Nat) (s : State) (u : State) (hx : execTriangulationRun t s = .next u) :
    u.kept = (s.setClock t).kept := by
  unfold execTriangulationRun at hx
  refine command_kept (fun s => ?_) hx
  simp [kept_all]

theorem execTriangulationResult_kept (t : Nat) (o : TriOut) (s : State) (u : State)
    (hx : execTriangulationResult t o s = .next u) :
    u.kept = (s.setClock t).kept := by
  unfold execTriangulationResult at hx
  refine command_kept (fun s => ?_) hx
  simp [kept_all]

theorem execTriangulationTrimUpdate_kept (t quadrant : Nat) (s : State) (u : State)
    (hx : execTriangulationTrimUpdate t quadrant s = .next u) :
    u.kept = (s.setClock t).kept := by
  unfold execTriangulationTrimUpdate at hx
  refine onUnit_kept (fun s => ?_) hx
  split <;> simp [kept_all]

theorem execDriftLogRetry_kept (t : Nat) (ok : Bool) (s : State) (u : State)
    (hx : execDriftLogRetry t ok s = .next u) :
    u.kept = (s.setClock t).kept := by
  unfold execDriftLogRetry at hx
  refine command_kept (fun s => ?_) hx
  split <;> simp [kept_all]

theorem execCalAgeTick_kept (t : Nat) (s : State) (u : State) (hx : execCalAgeTick t s = .next u) :
    u.kept = (s.setClock t).kept := by
  unfold execCalAgeTick at hx
  refine command_kept (fun s => ?_) hx
  simp [kept_all]

theorem execSelfTest_kept (t : Nat) (h : Hdr) (test target : Nat) (s : State) (u : State)
    (hx : execSelfTest t h test target s = .next u) :
    u.kept = (s.setClock t).kept := by
  unfold execSelfTest at hx
  refine packet_kept (fun s => ?_) hx
  simp [kept_all]

theorem execTestReq_kept (t : Nat) (h : Hdr) (test target : Nat) (s : State) (u : State)
    (hx : execTestReq t h test target s = .next u) :
    u.kept = (s.setClock t).kept := by
  unfold execTestReq at hx
  refine packet_kept (fun s => ?_) hx
  simp [kept_all]

theorem execSelfTestEnd_kept (t test target : Nat) (failed : Bool) (data : Nat) (s : State) (u : State)
    (hx : execSelfTestEnd t test target failed data s = .next u) :
    u.kept = (s.setClock t).kept := by
  unfold execSelfTestEnd at hx
  refine command_kept (fun s => ?_) hx
  simp [kept_all]

theorem execOsApply_kept (t : Nat) (h : Hdr) (mask : Nat) (s : State) (u : State)
    (hx : execOsApply t h mask s = .next u) :
    u.kept = (s.setClock t).kept := by
  unfold execOsApply at hx
  refine packet_kept (fun s => ?_) hx
  simp [kept_all]

theorem execOsCtlApply_kept (t : Nat) (h : Hdr) (os : Nat) (s : State) (u : State)
    (hx : execOsCtlApply t h os s = .next u) :
    u.kept = (s.setClock t).kept := by
  unfold execOsCtlApply at hx
  refine itemCommand_kept (fun s => ?_) hx
  simp [kept_all]

theorem execOsCtlClear_kept (t : Nat) (h : Hdr) (os : Nat) (shorted : Bool) (s : State) (u : State)
    (hx : execOsCtlClear t h os shorted s = .next u) :
    u.kept = (s.setClock t).kept := by
  unfold execOsCtlClear at hx
  refine itemCommand_kept (fun s => ?_) hx
  simp [kept_all]

theorem execOpticalUpdate_kept (t : Nat) (tdrv : Int) (s : State) (u : State)
    (hx : execOpticalUpdate t tdrv s = .next u) :
    u.kept = (s.setClock t).kept := by
  unfold execOpticalUpdate at hx
  refine atInstant_kept (fun s => ?_) hx
  simp [kept_all]

theorem execOsOpenDetect_kept (t os : Nat) (s : State) (u : State) (hx : execOsOpenDetect t os s = .next u) :
    u.kept = (s.setClock t).kept := by
  unfold execOsOpenDetect at hx
  refine onUnit_kept (fun s => ?_) hx
  simp [kept_all]

theorem execOsOpenClear_kept (t os : Nat) (s : State) (u : State) (hx : execOsOpenClear t os s = .next u) :
    u.kept = (s.setClock t).kept := by
  unfold execOsOpenClear at hx
  refine onUnit_kept (fun s => ?_) hx
  simp [kept_all]

theorem execNeighbourShortTest_kept (t pair : Nat) (shorted : Bool) (s : State) (u : State)
    (hx : execNeighbourShortTest t pair shorted s = .next u) :
    u.kept = (s.setClock t).kept := by
  unfold execNeighbourShortTest at hx
  refine onUnit_kept (fun s => ?_) hx
  simp [kept_all]

theorem execExtTemp_kept (t : Nat) (h : Hdr) (val : Word) (s : State) (u : State)
    (hx : execExtTemp t h val s = .next u) :
    u.kept.1 = (s.setClock t).kept.1 := by
  unfold execExtTemp at hx
  refine itemCommand_kept_fst (fun s => ?_) hx
  simp [kept_all]

theorem execExtTempStale_kept (t : Nat) (s : State) (u : State) (hx : execExtTempStale t s = .next u) :
    u.kept = (s.setClock t).kept := by
  unfold execExtTempStale at hx
  refine atInstant_kept (fun s => ?_) hx
  simp [kept_all]

theorem execQctlClearUnderrun_kept (t : Nat) (h : Hdr) (s : State) (u : State)
    (hx : execQctlClearUnderrun t h s = .next u) :
    u.kept = (s.setClock t).kept := by
  unfold execQctlClearUnderrun at hx
  refine itemCommand_kept (fun s => ?_) hx
  simp [kept_all]

theorem execQctlClearNotices_kept (t : Nat) (h : Hdr) (s : State) (u : State)
    (hx : execQctlClearNotices t h s = .next u) :
    u.kept = (s.setClock t).kept := by
  unfold execQctlClearNotices at hx
  refine itemCommand_kept (fun s => ?_) hx
  simp [kept_all]

theorem execQctlClearLost_kept (t : Nat) (h : Hdr) (s : State) (u : State) (hx : execQctlClearLost t h s = .next u) :
    u.kept = (s.setClock t).kept := by
  unfold execQctlClearLost at hx
  refine itemCommand_kept (fun s => ?_) hx
  simp [kept_all]

theorem execQctlClearReplyUnderrun_kept (t : Nat) (h : Hdr) (s : State) (u : State)
    (hx : execQctlClearReplyUnderrun t h s = .next u) :
    u.kept = (s.setClock t).kept := by
  unfold execQctlClearReplyUnderrun at hx
  refine itemCommand_kept (fun s => ?_) hx
  simp [kept_all]

theorem execEventRead_kept (t : Nat) (h : Hdr) (count : Nat) (ecc : List Ecc) (s : State) (u : State)
    (hx : execEventRead t h count ecc s = .next u) :
    u.kept = (s.setClock t).kept := by
  unfold execEventRead at hx
  refine packet_kept (fun s => ?_) hx
  split
  · simp
  · dsimp only
    rw [State.finish_kept, kept_forAll _ _ _ (fun s x => by simp)]
    simp

theorem execStoragePortFail_kept (t st : Nat) (s : State) (u : State) (hx : execStoragePortFail t st s = .next u) :
    u.kept = (s.setClock t).kept := by
  unfold execStoragePortFail at hx
  refine onUnit_kept (fun s => ?_) hx
  simp [kept_all]

theorem execStCtlDetach_kept (t : Nat) (h : Hdr) (st : Nat) (s : State) (u : State)
    (hx : execStCtlDetach t h st s = .next u) :
    u.kept = (s.setClock t).kept := by
  unfold execStCtlDetach at hx
  refine itemCommand_kept (fun s => ?_) hx
  simp [kept_all]

theorem execStCtlAttach_kept (t : Nat) (h : Hdr) (st : Nat) (s : State) (u : State)
    (hx : execStCtlAttach t h st s = .next u) :
    u.kept = (s.setClock t).kept := by
  unfold execStCtlAttach at hx
  refine itemCommand_kept (fun s => ?_) hx
  simp [kept_all]

theorem execResilverComplete_kept (t st : Nat) (s : State) (u : State) (hx : execResilverComplete t st s = .next u) :
    u.kept = (s.setClock t).kept := by
  unfold execResilverComplete at hx
  refine onUnit_kept (fun s => ?_) hx
  simp [kept_all]

theorem execLifeCheck_kept (t st lifeA lifeB eol : Nat) (s : State) (u : State)
    (hx : execLifeCheck t st lifeA lifeB eol s = .next u) :
    u.kept = (s.setClock t).kept := by
  unfold execLifeCheck at hx
  refine onUnit_kept (fun s => ?_) hx
  simp [kept_all]

theorem execSpill_kept (t : Nat) (s : State) (u : State) (hx : execSpill t s = .next u) :
    u.kept = (s.setClock t).kept := by
  unfold execSpill at hx
  refine atInstant_kept (fun s => ?_) hx
  split <;> simp

theorem execSpillReadback_kept (t : Nat) (s : State) (u : State) (hx : execSpillReadback t s = .next u) :
    u.kept = (s.setClock t).kept := by
  unfold execSpillReadback at hx
  refine atInstant_kept (fun s => ?_) hx
  split <;> simp [kept_all]

theorem execArchiveBlockWrite_kept (t ch : Nat) (ecc : List Ecc) (s : State) (u : State)
    (hx : execArchiveBlockWrite t ch ecc s = .next u) :
    u.kept = (s.setClock t).kept := by
  unfold execArchiveBlockWrite at hx
  refine atInstant_kept (fun s => ?_) hx
  (repeat' split) <;> simp [kept_all]

theorem execStorageWriteComplete_kept (t index : Nat) (s : State) (u : State)
    (hx : execStorageWriteComplete t index s = .next u) :
    u.kept = (s.setClock t).kept := by
  unfold execStorageWriteComplete at hx
  refine atInstant_kept (fun s => ?_) hx
  simp [kept_all]

theorem execJobComplete_kept (t : Nat) (o : JobOut) (s : State) (u : State) (hx : execJobComplete t o s = .next u) :
    u.kept = (s.setClock t).kept := by
  unfold execJobComplete at hx
  refine atInstant_kept (fun s => ?_) hx
  (repeat' split) <;> simp [kept_all]

theorem execArcExport_kept (t : Nat) (h : Hdr) (sel : ArcSel) (s : State) (u : State)
    (hx : execArcExport t h sel s = .next u) :
    u.kept = (s.setClock t).kept := by
  unfold execArcExport at hx
  refine packet_kept (fun s => ?_) hx
  simp [kept_all]

theorem execArcCompress_kept (t : Nat) (h : Hdr) (sel : ArcSel) (s : State) (u : State)
    (hx : execArcCompress t h sel s = .next u) :
    u.kept = (s.setClock t).kept := by
  unfold execArcCompress at hx
  refine packet_kept (fun s => ?_) hx
  simp [kept_all]

theorem execArcRead_kept (t : Nat) (h : Hdr) (off len : Nat) (s : State) (u : State)
    (hx : execArcRead t h off len s = .next u) :
    u.kept = (s.setClock t).kept := by
  unfold execArcRead at hx
  refine packet_kept (fun s => ?_) hx
  simp [kept_all]

theorem execJobCancel_kept (t : Nat) (h : Hdr) (s : State) (u : State) (hx : execJobCancel t h s = .next u) :
    u.kept = (s.setClock t).kept := by
  unfold execJobCancel at hx
  refine packet_kept (fun s => ?_) hx
  simp [kept_all]

theorem execLaneSwitchClose_kept (t lane : Nat) (s : State) (u : State)
    (hx : execLaneSwitchClose t lane s = .next u) :
    u.kept = (s.setClock t).kept := by
  unfold execLaneSwitchClose at hx
  refine onUnit_kept (fun s => ?_) hx
  simp [kept_all]

theorem execPllLock_kept (t lane : Nat) (s : State) (u : State) (hx : execPllLock t lane s = .next u) :
    u.kept = (s.setClock t).kept := by
  unfold execPllLock at hx
  refine onUnit_kept (fun s => ?_) hx
  simp [kept_all]

theorem execPllLockTimeout_kept (t lane : Nat) (s : State) (u : State) (hx : execPllLockTimeout t lane s = .next u) :
    u.kept = (s.setClock t).kept := by
  unfold execPllLockTimeout at hx
  refine onUnit_kept (fun s => ?_) hx
  simp [kept_all]

theorem execPllLoss_kept (t lane : Nat) (s : State) (u : State) (hx : execPllLoss t lane s = .next u) :
    u.kept = (s.setClock t).kept := by
  unfold execPllLoss at hx
  refine onUnit_kept (fun s => ?_) hx
  simp [kept_all]

theorem execFailedRetry_kept (t lane : Nat) (locked : Bool) (s : State) (u : State)
    (hx : execFailedRetry t lane locked s = .next u) :
    u.kept = (s.setClock t).kept := by
  unfold execFailedRetry at hx
  refine onUnit_kept (fun s => ?_) hx
  simp [kept_all]

theorem execHelloSend_kept (t port : Nat) (s : State) (u : State) (hx : execHelloSend t port s = .next u) :
    u.kept = (s.setClock t).kept := by
  unfold execHelloSend at hx
  refine onUnit_kept (fun s => ?_) hx
  simp [kept_all]

theorem execHelloReceive_kept (t port : Nat) (m : Hello) (s : State) (u : State)
    (hx : execHelloReceive t port m s = .next u) :
    u.kept = (s.setClock t).kept := by
  unfold execHelloReceive at hx
  refine onUnit_kept (fun s => ?_) hx
  simp [kept_all]

end Sys2Proof.Machine
end

