-- ==== Sys2Proof/Laws/KeptExecB.lean ====
section
/-! SUPPORT. The rest of the meanings, with the five that change more: RESET_N, a lost rail, a commit boundary, CONFIRM_SIGNET. -/

set_option Elab.async false

namespace Sys2Proof.Machine

theorem execPartnerGone_kept (t port : Nat) (s : State) (u : State) (hx : execPartnerGone t port s = .next u) :
    u.kept = (s.setClock t).kept := by
  unfold execPartnerGone at hx
  refine onUnit_kept (fun s => ?_) hx
  simp [kept_all]

theorem execCountdownSwitch_kept (t port : Nat) (s : State) (u : State)
    (hx : execCountdownSwitch t port s = .next u) :
    u.kept = (s.setClock t).kept := by
  unfold execCountdownSwitch at hx
  refine onUnit_kept (fun s => ?_) hx
  simp [kept_all]

theorem execAdaptLock_kept (t port : Nat) (s : State) (u : State) (hx : execAdaptLock t port s = .next u) :
    u.kept = (s.setClock t).kept := by
  unfold execAdaptLock at hx
  refine onUnit_kept (fun s => ?_) hx
  simp [kept_all]

theorem execAdaptFailure_kept (t port : Nat) (s : State) (u : State) (hx : execAdaptFailure t port s = .next u) :
    u.kept = (s.setClock t).kept := by
  unfold execAdaptFailure at hx
  refine onUnit_kept (fun s => ?_) hx
  simp [kept_all]

theorem execTrainingFrameReceive_kept (t port : Nat) (control status : BitVec 16) (eyeOk : Bool) (s : State)
    (u : State) (hx : execTrainingFrameReceive t port control status eyeOk s = .next u) :
    u.kept = (s.setClock t).kept := by
  unfold execTrainingFrameReceive at hx
  refine onUnit_kept (fun s => ?_) hx
  simp [kept_all]

theorem execDataStart_kept (t port : Nat) (s : State) (u : State) (hx : execDataStart t port s = .next u) :
    u.kept = (s.setClock t).kept := by
  unfold execDataStart at hx
  refine onUnit_kept (fun s => ?_) hx
  simp [kept_all]

theorem execMarkerReceive_kept (t port : Nat) (inPlace : Bool) (s : State) (u : State)
    (hx : execMarkerReceive t port inPlace s = .next u) :
    u.kept = (s.setClock t).kept := by
  unfold execMarkerReceive at hx
  refine onUnit_kept (fun s => ?_) hx
  simp [kept_all]

theorem execLockLoss_kept (t port : Nat) (s : State) (u : State) (hx : execLockLoss t port s = .next u) :
    u.kept = (s.setClock t).kept := by
  unfold execLockLoss at hx
  refine onUnit_kept (fun s => ?_) hx
  simp [kept_all]

theorem execLockRegainTimeout_kept (t port : Nat) (s : State) (u : State)
    (hx : execLockRegainTimeout t port s = .next u) :
    u.kept = (s.setClock t).kept := by
  unfold execLockRegainTimeout at hx
  refine onUnit_kept (fun s => ?_) hx
  simp [kept_all]

theorem execEthLinkUp_kept (t port : Nat) (fullDuplex : Bool) (s : State) (u : State)
    (hx : execEthLinkUp t port fullDuplex s = .next u) :
    u.kept = (s.setClock t).kept := by
  unfold execEthLinkUp at hx
  refine onUnit_kept (fun s => ?_) hx
  simp [kept_all]

theorem execLaneTest_kept (t : Nat) (h : Hdr) (port : Nat) (val : Word) (s : State) (u : State)
    (hx : execLaneTest t h port val s = .next u) :
    u.kept.1 = (s.setClock t).kept.1 := by
  unfold execLaneTest at hx
  refine itemCommand_kept_fst (fun s => ?_) hx
  simp [kept_all]

theorem execErrInjSingle_kept (t : Nat) (h : Hdr) (port : Nat) (s : State) (u : State)
    (hx : execErrInjSingle t h port s = .next u) :
    u.kept = (s.setClock t).kept := by
  unfold execErrInjSingle at hx
  refine itemCommand_kept (fun s => ?_) hx
  simp [kept_all]

theorem execLaneCtlRetrain_kept (t : Nat) (h : Hdr) (port : Nat) (s : State) (u : State)
    (hx : execLaneCtlRetrain t h port s = .next u) :
    u.kept = (s.setClock t).kept := by
  unfold execLaneCtlRetrain at hx
  refine itemCommand_kept (fun s => ?_) hx
  simp [kept_all]

theorem execLaneCtlClear_kept (t : Nat) (h : Hdr) (port : Nat) (s : State) (u : State)
    (hx : execLaneCtlClear t h port s = .next u) :
    u.kept = (s.setClock t).kept := by
  unfold execLaneCtlClear at hx
  refine itemCommand_kept (fun s => ?_) hx
  simp [kept_all]

theorem execCheckerLock_kept (t port : Nat) (s : State) (u : State) (hx : execCheckerLock t port s = .next u) :
    u.kept = (s.setClock t).kept := by
  unfold execCheckerLock at hx
  refine onUnit_kept (fun s => ?_) hx
  simp [kept_all]

theorem execCheckerLockLoss_kept (t port : Nat) (s : State) (u : State)
    (hx : execCheckerLockLoss t port s = .next u) :
    u.kept = (s.setClock t).kept := by
  unfold execCheckerLockLoss at hx
  refine onUnit_kept (fun s => ?_) hx
  simp [kept_all]

theorem execCheckerCountSaturate_kept (t port : Nat) (bits : Bool) (s : State) (u : State)
    (hx : execCheckerCountSaturate t port bits s = .next u) :
    u.kept = (s.setClock t).kept := by
  unfold execCheckerCountSaturate at hx
  refine onUnit_kept (fun s => ?_) hx
  simp [kept_all]

theorem execFecLimitCheck_kept (t port corr unc sym : Nat) (s : State) (u : State)
    (hx : execFecLimitCheck t port corr unc sym s = .next u) :
    u.kept = (s.setClock t).kept := by
  unfold execFecLimitCheck at hx
  refine onUnit_kept (fun s => ?_) hx
  simp [kept_all]

theorem execCreditReceive_kept (t port c2 c3 : Nat) (s : State) (u : State)
    (hx : execCreditReceive t port c2 c3 s = .next u) :
    u.kept = (s.setClock t).kept := by
  unfold execCreditReceive at hx
  refine onUnit_kept (fun s => ?_) hx
  simp [kept_all]

theorem execCreditSend_kept (t port : Nat) (s : State) (u : State) (hx : execCreditSend t port s = .next u) :
    u.kept = (s.setClock t).kept := by
  unfold execCreditSend at hx
  refine onUnit_kept (fun s => ?_) hx
  simp [kept_all]

theorem execPortFrameSend_kept (t port : Nat) (ecc : List Ecc) (s : State) (u : State)
    (hx : execPortFrameSend t port ecc s = .next u) :
    u.kept = (s.setClock t).kept := by
  unfold execPortFrameSend at hx
  refine onUnit_kept (fun s => ?_) hx
  split
  · dsimp only
    split <;> simp
  · rfl

theorem execBlockSent_kept (t port : Nat) (s : State) (u : State) (hx : execBlockSent t port s = .next u) :
    u.kept = (s.setClock t).kept := by
  unfold execBlockSent at hx
  refine onUnit_kept (fun s => ?_) hx
  split <;> simp [kept_all]

theorem execWcpFrameReceive_kept (t port : Nat) (f : Frame) (s : State) (u : State)
    (hx : execWcpFrameReceive t port f s = .next u) :
    u.kept = (s.setClock t).kept := by
  unfold execWcpFrameReceive at hx
  refine onUnit_kept (fun s => ?_) hx
  simp [kept_all]

theorem execStreamFrameReceive_kept (t port : Nat) (f : Frame) (s : State) (u : State)
    (hx : execStreamFrameReceive t port f s = .next u) :
    u.kept = (s.setClock t).kept := by
  unfold execStreamFrameReceive at hx
  refine onUnit_kept (fun s => ?_) hx
  simp [kept_all]

theorem execEthFrameReceive_kept (t port etherType : Nat) (f : Frame) (s : State) (u : State)
    (hx : execEthFrameReceive t port etherType f s = .next u) :
    u.kept = (s.setClock t).kept := by
  unfold execEthFrameReceive at hx
  refine onUnit_kept (fun s => ?_) hx
  simp [kept_all]

theorem execLsaReceive_kept (t port : Nat) (m : Lsa) (s : State) (u : State)
    (hx : execLsaReceive t port m s = .next u) :
    u.kept = (s.setClock t).kept := by
  unfold execLsaReceive at hx
  refine onUnit_kept (fun s => ?_) hx
  simp [kept_all]

theorem execLsaRefresh_kept (t : Nat) (s : State) (u : State) (hx : execLsaRefresh t s = .next u) :
    u.kept = (s.setClock t).kept := by
  unfold execLsaRefresh at hx
  refine atInstant_kept (fun s => ?_) hx
  simp [kept_all]

theorem execLsaUnreachableHold_kept (t eui : Nat) (s : State) (u : State)
    (hx : execLsaUnreachableHold t eui s = .next u) :
    u.kept = (s.setClock t).kept := by
  unfold execLsaUnreachableHold at hx
  refine atInstant_kept (fun s => ?_) hx
  split <;> simp [kept_all]

theorem execIdHoldExpiry_kept (t eui : Nat) (s : State) (u : State) (hx : execIdHoldExpiry t eui s = .next u) :
    u.kept = (s.setClock t).kept := by
  unfold execIdHoldExpiry at hx
  refine atInstant_kept (fun s => ?_) hx
  split <;> simp [kept_all]

theorem execRouteRecompute_kept (t : Nat) (s : State) (u : State) (hx : execRouteRecompute t s = .next u) :
    u.kept = (s.setClock t).kept := by
  unfold execRouteRecompute at hx
  refine atInstant_kept (fun s => ?_) hx
  simp [kept_all]

theorem execQueuedFrameExpiry_kept (t dest : Nat) (s : State) (u : State)
    (hx : execQueuedFrameExpiry t dest s = .next u) :
    u.kept = (s.setClock t).kept := by
  unfold execQueuedFrameExpiry at hx
  refine atInstant_kept (fun s => ?_) hx
  split <;> simp [kept_all]

theorem execProxyExpiry_kept (t tag : Nat) (s : State) (u : State) (hx : execProxyExpiry t tag s = .next u) :
    u.kept = (s.setClock t).kept := by
  unfold execProxyExpiry at hx
  refine atInstant_kept (fun s => ?_) hx
  (repeat' split) <;> simp [kept_all]

theorem execStreamAttach_kept (t : Nat) (h : Hdr) (detach : Bool) (s : State) (u : State)
    (hx : execStreamAttach t h detach s = .next u) :
    u.kept.1 = (s.setClock t).kept.1 := by
  unfold execStreamAttach at hx
  refine packet_kept_fst (fun s => ?_) hx
  simp [kept_all]

theorem execTopologyRead_kept (t : Nat) (h : Hdr) (id : Nat) (s : State) (u : State)
    (hx : execTopologyRead t h id s = .next u) :
    u.kept = (s.setClock t).kept := by
  unfold execTopologyRead at hx
  refine packet_kept (fun s => ?_) hx
  split <;> simp [kept_all]

theorem execIdRelease_kept (t : Nat) (h : Hdr) (id : Nat) (s : State) (u : State)
    (hx : execIdRelease t h id s = .next u) :
    u.kept = (s.setClock t).kept := by
  unfold execIdRelease at hx
  refine packet_kept (fun s => ?_) hx
  simp [kept_all]

theorem execFaultPairActive_kept (t src : Nat) (detail : Word) (s : State) (u : State)
    (hx : execFaultPairActive t src detail s = .next u) :
    u.kept = (s.setClock t).kept := by
  unfold execFaultPairActive at hx
  refine onUnit_kept (fun s => ?_) hx
  simp [kept_all]

theorem execFaultPairInactive_kept (t src : Nat) (s : State) (u : State)
    (hx : execFaultPairInactive t src s = .next u) :
    u.kept = (s.setClock t).kept := by
  unfold execFaultPairInactive at hx
  refine onUnit_kept (fun s => ?_) hx
  simp [kept_all]

theorem execWireFault_kept (t pair : Nat) (s : State) (u : State) (hx : execWireFault t pair s = .next u) :
    u.kept = (s.setClock t).kept := by
  unfold execWireFault at hx
  refine onUnit_kept (fun s => ?_) hx
  simp [kept_all]

theorem execAliveToggle_kept (t : Nat) (s : State) (u : State) (hx : execAliveToggle t s = .next u) :
    u.kept = (s.setClock t).kept := by
  unfold execAliveToggle at hx
  refine atInstant_kept (fun s => ?_) hx
  simp [kept_all]

theorem execWatchdogMiss_kept (t : Nat) (s : State) (u : State) (hx : execWatchdogMiss t s = .next u) :
    u.kept = (s.setClock t).kept := by
  unfold execWatchdogMiss at hx
  refine atInstant_kept (fun s => ?_) hx
  simp [kept_all]

theorem execFaultNRelease_kept (t : Nat) (s : State) (u : State) (hx : execFaultNRelease t s = .next u) :
    u.kept = (s.setClock t).kept := by
  unfold execFaultNRelease at hx
  refine atInstant_kept (fun s => ?_) hx
  simp [kept_all]

theorem execLocketCopy_kept (t : Nat) (s : State) (u : State) (hx : execLocketCopy t s = .next u) :
    u.kept = (s.setClock t).kept := by
  unfold execLocketCopy at hx
  refine command_kept (fun s => ?_) hx
  simp [kept_all]

theorem execLocketRead_kept (t : Nat) (h : Hdr) (prev : Bool) (s : State) (u : State)
    (hx : execLocketRead t h prev s = .next u) :
    u.kept = (s.setClock t).kept := by
  unfold execLocketRead at hx
  refine packet_kept (fun s => ?_) hx
  simp [kept_all]

theorem execFaultClear_kept (t : Nat) (h : Hdr) (mask : BitVec 128) (locket faultN : Bool) (s : State)
    (u : State) (hx : execFaultClear t h mask locket faultN s = .next u) :
    u.kept = (s.setClock t).kept := by
  unfold execFaultClear at hx
  refine packet_kept (fun s => ?_) hx
  simp [kept_all]

theorem execUnfence_kept (t : Nat) (h : Hdr) (kind num : Nat) (s : State) (u : State)
    (hx : execUnfence t h kind num s = .next u) :
    u.kept = (s.setClock t).kept := by
  unfold execUnfence at hx
  refine packet_kept (fun s => ?_) hx
  simp [kept_all]

theorem execUnfenceComplete_kept (t kind num : Nat) (s : State) (u : State)
    (hx : execUnfenceComplete t kind num s = .next u) :
    u.kept = (s.setClock t).kept := by
  unfold execUnfenceComplete at hx
  refine command_kept (fun s => ?_) hx
  simp [kept_all]

theorem execFenceUnit_kept (t : Nat) (h : Hdr) (kind num : Nat) (s : State) (u : State)
    (hx : execFenceUnit t h kind num s = .next u) :
    u.kept = (s.setClock t).kept := by
  unfold execFenceUnit at hx
  refine packet_kept (fun s => ?_) hx
  simp [kept_all]

theorem execClaspMinority_kept (t core : Nat) (s : State) (u : State) (hx : execClaspMinority t core s = .next u) :
    u.kept = (s.setClock t).kept := by
  unfold execClaspMinority at hx
  refine onUnit_kept (fun s => ?_) hx
  simp [kept_all]

theorem execCoreResyncComplete_kept (t : Nat) (ok : Bool) (s : State) (u : State)
    (hx : execCoreResyncComplete t ok s = .next u) :
    u.kept = (s.setClock t).kept := by
  unfold execCoreResyncComplete at hx
  refine atInstant_kept (fun s => ?_) hx
  simp [kept_all]

theorem execClaspDoubleDisagreement_kept (t : Nat) (s : State) (u : State)
    (hx : execClaspDoubleDisagreement t s = .next u) :
    u.kept = (s.setClock t).kept := by
  unfold execClaspDoubleDisagreement at hx
  refine atInstant_kept (fun s => ?_) hx
  simp [kept_all]

theorem execScrub_kept (t : Nat) (mismatch : Option Nat) (s : State) (u : State)
    (hx : execScrub t mismatch s = .next u) :
    u.kept = (s.setClock t).kept := by
  have run : ∀ (m : Option Nat) (s : State), (if s.coreRuns && decide (s.core.scrubAt + 1000000000 ≤ s.now) then
      (match m with
        | some k => ((s.modCore (fun c => { c with scrubAt := s.now })).bump coreCntId 16 15).coreDiffers k
        | none => s.modCore (fun c => { c with scrubAt := s.now }))
      else s).kept = s.kept := by
    intro m s
    cases m <;> split <;> simp
  unfold execScrub at hx
  cases mismatch with
  | none => exact atInstant_kept (run none) hx
  | some k => exact onUnit_kept (run (some k)) hx

theorem execHeartbeatSend_kept (t : Nat) (s : State) (u : State) (hx : execHeartbeatSend t s = .next u) :
    u.kept = (s.setClock t).kept := by
  unfold execHeartbeatSend at hx
  refine atInstant_kept (fun s => ?_) hx
  (repeat' (first | (simp [kept_all]; done) | split | (simp [kept_all]; split)))

theorem execHeartbeatReceive_kept (t port : Nat) (m : Heartbeat) (s : State) (u : State)
    (hx : execHeartbeatReceive t port m s = .next u) :
    u.kept = (s.setClock t).kept := by
  unfold execHeartbeatReceive at hx
  refine onUnit_kept (fun s => ?_) hx
  simp [kept_all]

theorem execPartnerLoss_kept (t : Nat) (s : State) (u : State) (hx : execPartnerLoss t s = .next u) :
    u.kept = (s.setClock t).kept := by
  unfold execPartnerLoss at hx
  refine atInstant_kept (fun s => ?_) hx
  simp [kept_all]

theorem execPairCtlYield_kept (t : Nat) (h : Hdr) (s : State) (u : State) (hx : execPairCtlYield t h s = .next u) :
    u.kept = (s.setClock t).kept := by
  unfold execPairCtlYield at hx
  refine itemCommand_kept (fun s => ?_) hx
  simp [kept_all]

theorem execYieldTimeout_kept (t : Nat) (s : State) (u : State) (hx : execYieldTimeout t s = .next u) :
    u.kept = (s.setClock t).kept := by
  unfold execYieldTimeout at hx
  refine atInstant_kept (fun s => ?_) hx
  simp [kept_all]

theorem execYieldRetry_kept (t : Nat) (s : State) (u : State) (hx : execYieldRetry t s = .next u) :
    u.kept = (s.setClock t).kept := by
  unfold execYieldRetry at hx
  refine atInstant_kept (fun s => ?_) hx
  split <;> simp [kept_all]

theorem execPairMemberValue_kept (t pair : Nat) (memberB : Bool) (v : Option CoarseVal) (s : State) (u : State)
    (hx : execPairMemberValue t pair memberB v s = .next u) :
    u.kept = (s.setClock t).kept := by
  unfold execPairMemberValue at hx
  refine onUnit_kept (fun s => ?_) hx
  simp [kept_all]

theorem execPairDiscrepancy_kept (t pair : Nat) (s : State) (u : State)
    (hx : execPairDiscrepancy t pair s = .next u) :
    u.kept = (s.setClock t).kept := by
  unfold execPairDiscrepancy at hx
  refine onUnit_kept (fun s => ?_) hx
  split <;> simp [kept_all]

theorem execSiChange_kept (t si : Nat) (a b : Bool) (s : State) (u : State) (hx : execSiChange t si a b s = .next u) :
    u.kept = (s.setClock t).kept := by
  unfold execSiChange at hx
  refine onUnit_kept (fun s => ?_) hx
  simp [kept_all]

theorem execSiFilterExpiry_kept (t si : Nat) (s : State) (u : State) (hx : execSiFilterExpiry t si s = .next u) :
    u.kept = (s.setClock t).kept := by
  unfold execSiFilterExpiry at hx
  refine onUnit_kept (fun s => ?_) hx
  simp [kept_all]

theorem execSiDiscrepancy_kept (t si : Nat) (s : State) (u : State) (hx : execSiDiscrepancy t si s = .next u) :
    u.kept = (s.setClock t).kept := by
  unfold execSiDiscrepancy at hx
  refine onUnit_kept (fun s => ?_) hx
  simp [kept_all]

theorem execNslCycle_kept (t : Nat) (h : Hdr) (bytes : List Byte) (s : State) (u : State)
    (hx : execNslCycle t h bytes s = .next u) :
    u.kept = (s.setClock t).kept := by
  unfold execNslCycle at hx
  exact atInstant_kept (fun s => State.nslPacket_keeps s _ h bytes (by decide)) hx

theorem execConfirmSignet_kept (t : Nat) (h : Hdr) (bytes : List Byte) (s : State) (u : State)
    (hx : execConfirmSignet t h bytes s = .next u) :
    (u.kept.1.1 = (s.setClock t).kept.1.1 ∧ u.kept.1.2.1 = (s.setClock t).kept.1.2.1 ∧ u.kept.1.2.2.2 = (s.setClock t).kept.1.2.2.2 ∧
      u.kept.2 = (s.setClock t).kept.2) ∧
      (u.kept.1.2.2.1 = true → (s.setClock t).kept.1.2.2.1 = true ∨ (s.setClock t).kept.1.2.1 = true) := by
  unfold execConfirmSignet at hx
  simp only [at_, Host.Outcome.next.injEq] at hx
  rw [← hx, ← State.tick_kept]
  exact ⟨State.nslPacket_kept5 _ _ _ _, State.nslPacket_conf _ _ _ _⟩

theorem execSafetyReset_kept (t : Nat) (h : Hdr) (bytes : List Byte) (s : State) (u : State)
    (hx : execSafetyReset t h bytes s = .next u) :
    u.kept = (s.setClock t).kept := by
  unfold execSafetyReset at hx
  exact atInstant_kept (fun s => State.nslPacket_keeps s _ h bytes (by decide)) hx

theorem execNslOpen_kept (t : Nat) (h : Hdr) (bytes : List Byte) (s : State) (u : State)
    (hx : execNslOpen t h bytes s = .next u) :
    u.kept = (s.setClock t).kept := by
  unfold execNslOpen at hx
  exact atInstant_kept (fun s => State.nslPacket_keeps s _ h bytes (by decide)) hx

theorem execNslTimeout_kept (t conn : Nat) (s : State) (u : State) (hx : execNslTimeout t conn s = .next u) :
    u.kept = (s.setClock t).kept := by
  unfold execNslTimeout at hx
  refine onUnit_kept (fun s => ?_) hx
  simp [kept_all]

theorem execSoReadback_kept (t so : Nat) (hrb lrb : Bool) (s : State) (u : State)
    (hx : execSoReadback t so hrb lrb s = .next u) :
    u.kept = (s.setClock t).kept := by
  unfold execSoReadback at hx
  refine onUnit_kept (fun s => ?_) hx
  simp [kept_all]

theorem execRbTExpiry_kept (t so : Nat) (s : State) (u : State) (hx : execRbTExpiry t so s = .next u) :
    u.kept = (s.setClock t).kept := by
  unfold execRbTExpiry at hx
  refine onUnit_kept (fun s => ?_) hx
  simp [kept_all]

theorem execTpWidthEnd_kept (t so : Nat) (s : State) (u : State) (hx : execTpWidthEnd t so s = .next u) :
    u.kept = (s.setClock t).kept := by
  unfold execTpWidthEnd at hx
  refine onUnit_kept (fun s => ?_) hx
  simp [kept_all]

theorem execSchedule_kept (t : Nat) (h : Hdr) (typ : Word) (target : Nat) (args : List Word) (s : State)
    (u : State) (hx : execSchedule t h typ target args s = .next u) :
    u.kept = (s.setClock t).kept := by
  unfold execSchedule at hx
  refine packet_kept (fun s => ?_) hx
  simp [kept_all]

theorem execCancel_kept (t : Nat) (h : Hdr) (entry : Nat) (s : State) (u : State)
    (hx : execCancel t h entry s = .next u) :
    u.kept = (s.setClock t).kept := by
  unfold execCancel at hx
  refine packet_kept (fun s => ?_) hx
  simp [kept_all]

theorem execActAccept_kept (t : Nat) (h : Hdr) (entry : Nat) (s : State) (u : State)
    (hx : execActAccept t h entry s = .next u) :
    u.kept = (s.setClock t).kept := by
  unfold execActAccept at hx
  refine packet_kept (fun s => ?_) hx
  simp [kept_all]

theorem execActCancel_kept (t : Nat) (h : Hdr) (entry : Nat) (s : State) (u : State)
    (hx : execActCancel t h entry s = .next u) :
    u.kept = (s.setClock t).kept := by
  unfold execActCancel at hx
  refine itemCommand_kept (fun s => ?_) hx
  simp [kept_all]

theorem execActionArmCheck_kept (t : Nat) (s : State) (u : State) (hx : execActionArmCheck t s = .next u) :
    u.kept = (s.setClock t).kept := by
  unfold execActionArmCheck at hx
  refine command_kept (fun s => ?_) hx
  simp [kept_all]

theorem execActionFire_kept (t entry : Nat) (s : State) (u : State) (hx : execActionFire t entry s = .next u) :
    u.kept.1 = (s.setClock t).kept.1 := by
  unfold execActionFire at hx
  refine onUnit_kept_fst (fun s => ?_) hx
  split <;> simp

theorem execHeldActionDrop_kept (t entry : Nat) (s : State) (u : State)
    (hx : execHeldActionDrop t entry s = .next u) :
    u.kept = (s.setClock t).kept := by
  unfold execHeldActionDrop at hx
  refine onUnit_kept (fun s => ?_) hx
  simp [kept_all]

theorem execPowerUp_near (t : Nat) (b : BootIn) (s : State) (u : State) (hx : execPowerUp t b s = .next u) :
    near (s.setClock t) u := by
  unfold execPowerUp at hx
  refine atInstant_near (fun s => near_ite _ ?_ (near_refl s)) hx
  refine near_trans (near_of_kept ?_) (State.romStart_near _ _ _)
  exact State.modTime_kept _ _ (fun _ => rfl)

theorem execResetNAssert_kept (t : Nat) (s : State) (u : State) (hx : execResetNAssert t s = .next u) :
    u.kept = (s.setClock t).kept ∨ u.kept.1 = ((s.setClock t).kept.1.1, false, false, (s.setClock t).kept.1.2.2.2.1, 1, 1) := by
  unfold execResetNAssert at hx
  simp only [at_, Host.Outcome.next.injEq] at hx
  rw [← hx, ← State.tick_kept]
  split
  · exact Or.inl rfl
  · exact Or.inr (State.fullReset_kept _)

theorem execResetNRelease_near (t : Nat) (b : BootIn) (s : State) (u : State)
    (hx : execResetNRelease t b s = .next u) :
    near (s.setClock t) u := by
  unfold execResetNRelease at hx
  exact atInstant_near (fun s => near_ite _ (State.romStart_near _ _ _) (near_refl s)) hx

theorem execResetNTimeout_near (t : Nat) (b : BootIn) (s : State) (u : State)
    (hx : execResetNTimeout t b s = .next u) :
    near (s.setClock t) u := by
  unfold execResetNTimeout at hx
  refine atInstant_near (fun s => near_ite _ ?_ (near_refl s)) hx
  refine near_trans (State.romStart_near s 1 b) (near_of_kept ?_)
  rw [State.modBoot_kept, State.report_kept]

theorem execResetNStuckClear_kept (t : Nat) (s : State) (u : State) (hx : execResetNStuckClear t s = .next u) :
    u.kept = (s.setClock t).kept := by
  unfold execResetNStuckClear at hx
  refine atInstant_kept (fun s => ?_) hx
  simp [kept_all]

theorem execFirmwareStart_near (t : Nat) (s : State) (u : State) (hx : execFirmwareStart t s = .next u) :
    near (s.setClock t) u := by
  unfold execFirmwareStart at hx
  exact atInstant_near (fun s => near_ite _ (State.firmwareStart_near s) (near_refl s)) hx

theorem execDomainGood_near (t pd : Nat) (badPairs : List Nat) (s : State) (u : State)
    (hx : execDomainGood t pd badPairs s = .next u) :
    near (s.setClock t) u := by
  unfold execDomainGood at hx
  refine onUnit_near (fun s => near_ite _ (near_refl s) ?_) hx
  dsimp only
  have h : near s (if pd = 12 then (s.domainReturn pd badPairs).relevelAll else s.domainReturn pd badPairs) := by
    refine near_trans (State.domainReturn_near s pd badPairs) (near_of_kept ?_)
    split <;> simp
  refine near_ite _ (near_trans (near_trans h (near_of_kept ?_)) (State.powerOn_near _)) h
  split <;> simp

theorem execRailWaitExpiry_near (t pd : Nat) (s : State) (u : State) (hx : execRailWaitExpiry t pd s = .next u) :
    near (s.setClock t) u := by
  unfold execRailWaitExpiry at hx
  refine onUnit_near (fun s => near_ite _ ?_ (near_refl s)) hx
  exact near_trans (near_of_kept (by simp)) (State.powerOn_near _)

theorem execRailTrip_kept (t : Nat) (rail : Rail) (overV : Bool) (s : State) (u : State)
    (hx : execRailTrip t rail overV s = .next u) :
    near (s.setClock t) u ∨ ((rail = .vddaon ∨ rail = .vioaon) ∧ u.kept.1 = ((s.setClock t).kept.1.1, false, false, 0, 0, 0)) := by
  unfold execRailTrip onRail at hx
  split at hx
  · simp only [at_, Host.Outcome.next.injEq] at hx
    rw [← hx, ← State.tick_kept]
    split
    · exact Or.inl (near_of_kept (State.tick_kept t s))
    · split
      · rename_i hv
        refine Or.inr ⟨hv, ?_⟩
        rw [State.coldStart_kept, State.loseRail_kept]
      · refine Or.inl (near_trans (near_of_kept ((State.loseRail_kept (s.tick t) rail).trans (State.tick_kept t s))) ?_)
        refine near_trans ?_ (near_of_kept (State.safetyRefresh_kept _))
        exact near_forAll _ _ _ (fun s n => State.tripDomain_near s _ n)
  · cases hx

theorem onRail_near {rail : Rail} {t : Nat} {s u : State} {f : State → State} (h : ∀ s, near s (f s))
    (hx : onRail rail t s f = .next u) : near (s.setClock t) u := by
  unfold onRail at hx
  split at hx
  · exact atInstant_near h hx
  · cases hx

theorem execRailGood_near (t : Nat) (rail : Rail) (s : State) (u : State) (hx : execRailGood t rail s = .next u) :
    near (s.setClock t) u := by
  unfold execRailGood at hx
  refine onRail_near (fun s => near_ite _ (near_refl s) ?_) hx
  dsimp only
  have key : ∀ f, near s (if (s.modBoot f).boot.phase = .off then s.modBoot f
      else forAll (railFeeds rail) State.railBack (s.modBoot f)) := fun f =>
    near_trans (t := s.modBoot f) (near_of_kept (State.modBoot_kept s f))
      (near_ite _ (near_refl _) (near_forAll _ _ _ State.railBack_near))
  have h := key (fun b => { b with rails := b.rails ++ [rail] })
  split
  · exact near_ite _ h (near_trans h (State.powerOn_near _))
  · exact h

theorem execRestartServed_kept (t unitsSwapped : Nat) (s : State) (u : State)
    (hx : execRestartServed t unitsSwapped s = .next u) :
    u.kept = (s.setClock t).kept := by
  unfold execRestartServed at hx
  refine atInstant_kept (fun s => ?_) hx
  (repeat' split) <;> simp [kept_all]

theorem execRestartWindowExpiry_kept (t : Nat) (s : State) (u : State) (hx : execRestartWindowExpiry t s = .next u) :
    u.kept = (s.setClock t).kept := by
  unfold execRestartWindowExpiry at hx
  refine atInstant_kept (fun s => ?_) hx
  (repeat' split) <;> simp [kept_all]

theorem execCodeSwap_kept (t kind num : Nat) (ok : Bool) (s : State) (u : State)
    (hx : execCodeSwap t kind num ok s = .next u) :
    u.kept = (s.setClock t).kept := by
  unfold execCodeSwap at hx
  split at hx
  · refine atInstant_kept (fun s => ?_) hx
    (repeat' split) <;> simp
  · cases hx

theorem execUpdStatus_kept (t : Nat) (h : Hdr) (s : State) (u : State) (hx : execUpdStatus t h s = .next u) :
    u.kept = (s.setClock t).kept := by
  unfold execUpdStatus at hx
  refine packet_kept (fun s => ?_) hx
  simp [kept_all]

theorem execUpdOpen_kept (t : Nat) (h : Hdr) (slot len : Nat) (s : State) (u : State)
    (hx : execUpdOpen t h slot len s = .next u) :
    u.kept = (s.setClock t).kept := by
  unfold execUpdOpen at hx
  refine packet_kept (fun s => ?_) hx
  simp [kept_all]

theorem execSlotEraseComplete_kept (t : Nat) (s : State) (u : State) (hx : execSlotEraseComplete t s = .next u) :
    u.kept = (s.setClock t).kept := by
  unfold execSlotEraseComplete at hx
  refine command_kept (fun s => ?_) hx
  split <;> simp [kept_all]

theorem execUpdWrite_kept (t : Nat) (h : Hdr) (off : Nat) (bytes : List Byte) (s : State) (u : State)
    (hx : execUpdWrite t h off bytes s = .next u) :
    u.kept = (s.setClock t).kept := by
  unfold execUpdWrite at hx
  refine packet_kept (fun s => ?_) hx
  split <;> simp [kept_all]

theorem execUpdVerify_kept (t : Nat) (h : Hdr) (slot : Nat) (s : State) (u : State)
    (hx : execUpdVerify t h slot s = .next u) :
    u.kept = (s.setClock t).kept := by
  unfold execUpdVerify at hx
  refine packet_kept (fun s => ?_) hx
  simp [kept_all]

theorem execUpdVerifyComplete_kept (t slot : Nat) (keyOk sigOk : Bool) (s : State) (u : State)
    (hx : execUpdVerifyComplete t slot keyOk sigOk s = .next u) :
    u.kept = (s.setClock t).kept := by
  unfold execUpdVerifyComplete at hx
  split at hx
  · refine command_kept (fun s => ?_) hx
    split <;> simp
  · cases hx

theorem execUpdConfirm_kept (t : Nat) (h : Hdr) (burn : Bool) (s : State) (u : State)
    (hx : execUpdConfirm t h burn s = .next u) :
    u.kept = (s.setClock t).kept := by
  unfold execUpdConfirm at hx
  refine packet_kept (fun s => ?_) hx
  simp [kept_all]

theorem execUpdBoot_kept (t : Nat) (h : Hdr) (slot : Nat) (code : Nat) (s : State) (u : State)
    (hx : execUpdBoot t h slot code s = .next u) :
    u.kept = (s.setClock t).kept := by
  unfold execUpdBoot at hx
  refine packet_kept (fun s => ?_) hx
  simp [kept_all]

theorem execExtest_near (t : Nat) (shift : List Bool) (s : State) (u : State) (hx : execExtest t shift s = .next u) :
    near (s.setClock t) u := by
  unfold execExtest at hx
  exact intrusive_near hx

theorem execSamplePreload_kept (t : Nat) (shift : List Bool) (s : State) (u : State)
    (hx : execSamplePreload t shift s = .next u) :
    u.kept = (s.setClock t).kept := by
  unfold execSamplePreload at hx
  refine tapCommand_kept (fun s => ?_) hx
  simp [kept_all]

theorem execIdcode_kept (t : Nat) (s : State) (u : State) (hx : execIdcode t s = .next u) :
    u.kept = (s.setClock t).kept := by
  unfold execIdcode at hx
  refine tapCommand_kept (fun s => ?_) hx
  simp [kept_all]

theorem execProbe_near (t : Nat) (s : State) (u : State) (hx : execProbe t s = .next u) :
    near (s.setClock t) u := by
  unfold execProbe at hx
  exact intrusive_near hx

theorem execExtestPulse_near (t : Nat) (s : State) (u : State) (hx : execExtestPulse t s = .next u) :
    near (s.setClock t) u := by
  unfold execExtestPulse at hx
  exact intrusive_near hx

theorem execExtestTrain_near (t : Nat) (s : State) (u : State) (hx : execExtestTrain t s = .next u) :
    near (s.setClock t) u := by
  unfold execExtestTrain at hx
  exact intrusive_near hx

theorem execClamp_near (t : Nat) (s : State) (u : State) (hx : execClamp t s = .next u) :
    near (s.setClock t) u := by
  unfold execClamp at hx
  exact intrusive_near hx

theorem execHighz_near (t : Nat) (s : State) (u : State) (hx : execHighz t s = .next u) :
    near (s.setClock t) u := by
  unfold execHighz at hx
  exact intrusive_near hx

theorem execMbist_near (t failing : Nat) (s : State) (u : State) (hx : execMbist t failing s = .next u) :
    near (s.setClock t) u := by
  unfold execMbist tapCommand at hx
  refine atInstant_near (fun s => near_ite _ ?_ (near_refl s)) hx
  refine near_ite _ ?_ (near_of_kept (by simp))
  exact near_trans (State.testHold_near s) (near_of_kept (by simp))

theorem execModbist_near (t : Nat) (map : BitVec 432) (s : State) (u : State) (hx : execModbist t map s = .next u) :
    near (s.setClock t) u := by
  unfold execModbist tapCommand at hx
  refine atInstant_near (fun s => near_ite _ ?_ (near_refl s)) hx
  refine near_ite _ ?_ (near_of_kept (by simp))
  refine near_trans (State.testHold_near s) (near_of_kept ?_)
  dsimp only
  split <;> simp

theorem execBistResult_kept (t : Nat) (s : State) (u : State) (hx : execBistResult t s = .next u) :
    u.kept = (s.setClock t).kept := by
  unfold execBistResult at hx
  refine tapCommand_kept (fun s => ?_) hx
  simp [kept_all]

theorem execBypass_kept (t : Nat) (code : BitVec 8) (s : State) (u : State) (hx : execBypass t code s = .next u) :
    u.kept = (s.setClock t).kept := by
  unfold execBypass at hx
  refine tapCommand_kept (fun s => ?_) hx
  simp [kept_all]

theorem execTestLogicReset_kept (t : Nat) (s : State) (u : State) (hx : execTestLogicReset t s = .next u) :
    u.kept = (s.setClock t).kept := by
  unfold execTestLogicReset at hx
  refine tapCommand_kept (fun s => ?_) hx
  simp [kept_all]

theorem execTapUnlock_kept (t : Nat) (h : Hdr) (magic : Word) (s : State) (u : State)
    (hx : execTapUnlock t h magic s = .next u) :
    u.kept = (s.setClock t).kept := by
  unfold execTapUnlock at hx
  refine packet_kept (fun s => ?_) hx
  simp [kept_all]

theorem execUnlockWindowExpiry_kept (t : Nat) (s : State) (u : State) (hx : execUnlockWindowExpiry t s = .next u) :
    u.kept = (s.setClock t).kept := by
  unfold execUnlockWindowExpiry at hx
  refine atInstant_kept (fun s => ?_) hx
  simp [kept_all]

theorem execBistReport_kept (t : Nat) (h : Hdr) (s : State) (u : State) (hx : execBistReport t h s = .next u) :
    u.kept = (s.setClock t).kept := by
  unfold execBistReport at hx
  refine packet_kept (fun s => ?_) hx
  simp [kept_all]

theorem execTjHoursTick_kept (t : Nat) (temp : Int) (sensor : Nat) (s : State) (u : State)
    (hx : execTjHoursTick t temp sensor s = .next u) :
    u.kept = (s.setClock t).kept := by
  unfold execTjHoursTick at hx
  refine atInstant_kept (fun s => ?_) hx
  simp [kept_all]

theorem execRegisterWrite_kept (t : Nat) (h : Hdr) (id val : Word) (s : State) (u : State)
    (hx : execRegisterWrite t h id val s = .next u) :
    u.kept.1 = (s.setClock t).kept.1 := by
  unfold execRegisterWrite at hx
  refine packet_kept_fst (fun s => ?_) hx
  simp [kept_all]

theorem execWriteParam_kept (t : Nat) (h : Hdr) (items : List (Word × Word)) (s : State) (u : State)
    (hx : execWriteParam t h items s = .next u) :
    u.kept.1 = (s.setClock t).kept.1 := by
  unfold execWriteParam at hx
  refine packet_kept_fst (fun s => ?_) hx
  simp [kept_all]

theorem execWriteRange_kept (t : Nat) (h : Hdr) (first : Word) (vals : List Word) (s : State) (u : State)
    (hx : execWriteRange t h first vals s = .next u) :
    u.kept.1 = (s.setClock t).kept.1 := by
  unfold execWriteRange at hx
  refine packet_kept_fst (fun s => ?_) hx
  simp [kept_all]

theorem execReadParam_kept (t : Nat) (h : Hdr) (ids : List Word) (s : State) (u : State)
    (hx : execReadParam t h ids s = .next u) :
    u.kept = (s.setClock t).kept := by
  unfold execReadParam at hx
  refine packet_kept (fun s => ?_) hx
  simp [kept_all]

theorem execReadRange_kept (t : Nat) (h : Hdr) (first : Word) (count : Nat) (s : State) (u : State)
    (hx : execReadRange t h first count s = .next u) :
    u.kept = (s.setClock t).kept := by
  unfold execReadRange at hx
  refine packet_kept (fun s => ?_) hx
  simp [kept_all]

theorem execImgOpen_kept (t : Nat) (h : Hdr) (gen len : Nat) (s : State) (u : State)
    (hx : execImgOpen t h gen len s = .next u) :
    u.kept = (s.setClock t).kept := by
  unfold execImgOpen at hx
  refine packet_kept (fun s => ?_) hx
  simp [kept_all]

theorem execImgWrite_kept (t : Nat) (h : Hdr) (off : Nat) (data : List Word) (s : State) (u : State)
    (hx : execImgWrite t h off data s = .next u) :
    u.kept = (s.setClock t).kept := by
  unfold execImgWrite at hx
  refine packet_kept (fun s => ?_) hx
  simp [kept_all]

theorem execImgVerify_kept (t : Nat) (h : Hdr) (s : State) (u : State) (hx : execImgVerify t h s = .next u) :
    u.kept = (s.setClock t).kept := by
  unfold execImgVerify at hx
  refine packet_kept (fun s => ?_) hx
  simp [kept_all]

theorem execImgVerifyComplete_kept (t : Nat) (s : State) (u : State) (hx : execImgVerifyComplete t s = .next u) :
    u.kept = (s.setClock t).kept := by
  unfold execImgVerifyComplete at hx
  refine command_kept (fun s => ?_) hx
  simp [kept_all]

theorem execImgAbort_kept (t : Nat) (h : Hdr) (s : State) (u : State) (hx : execImgAbort t h s = .next u) :
    u.kept = (s.setClock t).kept := by
  unfold execImgAbort at hx
  refine packet_kept (fun s => ?_) hx
  simp [kept_all]

theorem execImgCommit_kept (t : Nat) (h : Hdr) (store : Bool) (s : State) (u : State)
    (hx : execImgCommit t h store s = .next u) :
    u.kept = (s.setClock t).kept := by
  unfold execImgCommit at hx
  refine packet_kept (fun s => ?_) hx
  simp [kept_all]

theorem execCommitBoundary_kept (t : Nat) (s : State) (u : State) (hx : execCommitBoundary t s = .next u) :
    u.kept = (s.setClock t).kept ∨ ((u.kept.1.1 = (s.setClock t).kept.1.1 ∧ u.kept.1.2.1 = true ∧ u.kept.1.2.2.2 = (s.setClock t).kept.1.2.2.2) ∧
      ((s.setClock t).kept.1.2.1 = true → u.kept.1.2.2.1 = true → (s.setClock t).kept.1.2.2.1 = true)) := by
  unfold execCommitBoundary at hx
  simp only [at_, Host.Outcome.next.injEq] at hx
  rw [← hx]
  split
  · exact Or.inl (State.tick_kept t s)
  · split
    · exact Or.inl (by simp)
    · refine Or.inr ?_
      have a := State.applyImage_kept (s.tick t)
      have b := State.applyImage_conf (s.tick t)
      rw [State.tick_kept] at a b
      split <;> simpa using ⟨a, b⟩

theorem execImageStoreComplete_kept (t : Nat) (ok : Bool) (s : State) (u : State)
    (hx : execImageStoreComplete t ok s = .next u) :
    u.kept = (s.setClock t).kept := by
  unfold execImageStoreComplete at hx
  refine atInstant_kept (fun s => ?_) hx
  simp [kept_all]

theorem execHubIdWaitExpiry_kept (t : Nat) (s : State) (u : State) (hx : execHubIdWaitExpiry t s = .next u) :
    u.kept = (s.setClock t).kept := by
  unfold execHubIdWaitExpiry at hx
  refine command_kept (fun s => ?_) hx
  split <;> simp [kept_all]

theorem execPowerupCalibrationEnd_kept (t : Nat) (results : List CalOut) (s : State) (u : State)
    (hx : execPowerupCalibrationEnd t results s = .next u) :
    u.kept = (s.setClock t).kept := by
  unfold execPowerupCalibrationEnd at hx
  refine command_kept (fun s => ?_) hx
  simp [kept_all]

theorem execIdClaimWaitEnd_kept (t : Nat) (s : State) (u : State) (hx : execIdClaimWaitEnd t s = .next u) :
    u.kept = (s.setClock t).kept := by
  unfold execIdClaimWaitEnd at hx
  refine atInstant_kept (fun s => ?_) hx
  simp [kept_all]

theorem execStInitComplete_kept (t st : Nat) (d : StDev) (s : State) (u : State)
    (hx : execStInitComplete t st d s = .next u) :
    u.kept = (s.setClock t).kept := by
  unfold execStInitComplete at hx
  refine onUnit_kept (fun s => ?_) hx
  simp [kept_all]

end Sys2Proof.Machine
end

