-- ==== Sys2Proof/Laws/KeptStep.lean ====
section
/-! SUPPORT. What every command does to the queue, the modes, the clock, the domains and the configuration, said once. -/

set_option Elab.async false

namespace Sys2Proof.Machine

/-- The inversion lemma of exec over the projection kept: a next state keeps it but for the clock, or the command is of one of
six named classes and the change is the one that class allows. -/
theorem exec_kept (c : Instr) (s u : State) (hx : exec c s = .next u) : (∃ t, u.kept = (s.setClock t).kept) ∨
  (writesConfig c = true ∧ ∃ t, u.kept.1 = (s.setClock t).kept.1) ∨
  (switchesDomains c = true ∧ ∃ t, near (s.setClock t) u) ∨
  (startsAnew c = true ∧ ∃ t, u.kept.1 = ((s.setClock t).kept.1.1, false, false, (s.setClock t).kept.1.2.2.2.1, 1, 1)) ∨
  (∃ t r b, c = .railTrip t r b ∧ startsAnew c = true ∧ u.kept.1 = ((s.setClock t).kept.1.1, false, false, 0, 0, 0)) ∨
  (∃ t h b, c = .confirmSignet t h b ∧ (u.kept.1.1 = (s.setClock t).kept.1.1 ∧ u.kept.1.2.1 = (s.setClock t).kept.1.2.1 ∧
      u.kept.1.2.2.2 = (s.setClock t).kept.1.2.2.2 ∧ u.kept.2 = (s.setClock t).kept.2) ∧
      (u.kept.1.2.2.1 = true → (s.setClock t).kept.1.2.2.1 = true ∨ (s.setClock t).kept.1.2.1 = true)) ∨
  (∃ t, c = .commitBoundary t ∧ ((u.kept.1.1 = (s.setClock t).kept.1.1 ∧ u.kept.1.2.1 = true ∧
      u.kept.1.2.2.2 = (s.setClock t).kept.1.2.2.2) ∧
      ((s.setClock t).kept.1.2.1 = true → u.kept.1.2.2.1 = true → (s.setClock t).kept.1.2.2.1 = true))) := by
  cases c with
  | write t stated bytes =>
    exact .inl ⟨t, execWrite_kept t stated bytes s u hx⟩
  | readReply t clocked ecc =>
    exact .inl ⟨t, execReadReply_kept t clocked ecc s u hx⟩
  | readEvents t clocked ecc =>
    exact .inl ⟨t, execReadEvents_kept t clocked ecc s u hx⟩
  | status t =>
    exact .inl ⟨t, execStatus_kept t s u hx⟩
  | badTransactionCode t code =>
    exact .inl ⟨t, execBadTransactionCode_kept t code s u hx⟩
  | commandStart t =>
    exact .inl ⟨t, execCommandStart_kept t s u hx⟩
  | nop t h =>
    exact .inl ⟨t, execNop_kept t h s u hx⟩
  | identify t h =>
    exact .inl ⟨t, execIdentify_kept t h s u hx⟩
  | fence t h scope =>
    exact .inl ⟨t, execFence_kept t h scope s u hx⟩
  | fenceCfgMet t h =>
    exact .inl ⟨t, execFenceCfgMet_kept t h s u hx⟩
  | fenceOutMet t h =>
    exact .inl ⟨t, execFenceOutMet_kept t h s u hx⟩
  | pdCtl t h domain action lanes =>
    exact .inr (.inr (.inl ⟨rfl, t, execPdCtl_near t h domain action lanes s u hx⟩))
  | cellWriteEffect t cell =>
    exact .inl ⟨t, execCellWriteEffect_kept t cell s u hx⟩
  | crosspointClose t cell =>
    exact .inl ⟨t, execCrosspointClose_kept t cell s u hx⟩
  | crossingPatienceExpiry t x unit =>
    exact .inl ⟨t, execCrossingPatienceExpiry_kept t x unit s u hx⟩
  | tapExcursionStart t cell tap =>
    exact .inl ⟨t, execTapExcursionStart_kept t cell tap s u hx⟩
  | tapExcursionEnd t cell tap =>
    exact .inl ⟨t, execTapExcursionEnd_kept t cell tap s u hx⟩
  | sourceMonitorEvaluation t src m =>
    exact .inl ⟨t, execSourceMonitorEvaluation_kept t src m s u hx⟩
  | driftEvaluation t src m =>
    exact .inl ⟨t, execDriftEvaluation_kept t src m s u hx⟩
  | blankingEnd t src =>
    exact .inl ⟨t, execBlankingEnd_kept t src s u hx⟩
  | qaThresholdCrossing t cell qa lv =>
    exact .inl ⟨t, execQaThresholdCrossing_kept t cell qa lv s u hx⟩
  | qaPeriodicReset t cell qa lv =>
    exact .inl ⟨t, execQaPeriodicReset_kept t cell qa lv s u hx⟩
  | qaDeferredReset t cell qa lv =>
    exact .inl ⟨t, execQaDeferredReset_kept t cell qa lv s u hx⟩
  | rangeRecoveryEnd t ch =>
    exact .inl ⟨t, execRangeRecoveryEnd_kept t ch s u hx⟩
  | converterPathValid t cell =>
    exact .inl ⟨t, execConverterPathValid_kept t cell s u hx⟩
  | seamlessSeam t cell =>
    exact .inl ⟨t, execSeamlessSeam_kept t cell s u hx⟩
  | seamlessHandbackSeam t cell =>
    exact .inl ⟨t, execSeamlessHandbackSeam_kept t cell s u hx⟩
  | autoRangeLower t ch =>
    exact .inl ⟨t, execAutoRangeLower_kept t ch s u hx⟩
  | autoRangeRaise t ch =>
    exact .inl ⟨t, execAutoRangeRaise_kept t ch s u hx⟩
  | modulatorFailure t cell modulator =>
    exact .inl ⟨t, execModulatorFailure_kept t cell modulator s u hx⟩
  | coldSwitchResume t ch =>
    exact .inl ⟨t, execColdSwitchResume_kept t ch s u hx⟩
  | spAssign t h cell val =>
    exact .inl ⟨t, execSpAssign_kept t h cell val s u hx⟩
  | warmSeam t cell ps =>
    exact .inl ⟨t, execWarmSeam_kept t cell ps s u hx⟩
  | vwRead t h src =>
    exact .inl ⟨t, execVwRead_kept t h src s u hx⟩
  | vwResistanceEnd t src coil =>
    exact .inl ⟨t, execVwResistanceEnd_kept t src coil s u hx⟩
  | vwPluckStart t src =>
    exact .inl ⟨t, execVwPluckStart_kept t src s u hx⟩
  | vwListenStart t src =>
    exact .inl ⟨t, execVwListenStart_kept t src s u hx⟩
  | vwCaptureEnd t src =>
    exact .inl ⟨t, execVwCaptureEnd_kept t src s u hx⟩
  | outputSample t ch v =>
    exact .inl ⟨t, execOutputSample_kept t ch v s u hx⟩
  | coarseValue t ch v =>
    exact .inl ⟨t, execCoarseValue_kept t ch v s u hx⟩
  | swap t h gait =>
    exact .inl ⟨t, execSwap_kept t h gait s u hx⟩
  | swapEffect t gait =>
    exact .inl ⟨t, execSwapEffect_kept t gait s u hx⟩
  | gaitChange t ch =>
    exact .inl ⟨t, execGaitChange_kept t ch s u hx⟩
  | redCloseAcc t h ch =>
    exact .inl ⟨t, execRedCloseAcc_kept t h ch s u hx⟩
  | redCloseMm t h ch =>
    exact .inl ⟨t, execRedCloseMm_kept t h ch s u hx⟩
  | redLatchLive t h ch =>
    exact .inl ⟨t, execRedLatchLive_kept t h ch s u hx⟩
  | redLatchLast t h ch =>
    exact .inl ⟨t, execRedLatchLast_kept t h ch s u hx⟩
  | intervalClose t ch =>
    exact .inl ⟨t, execIntervalClose_kept t ch s u hx⟩
  | measCmd t h ch =>
    exact .inl ⟨t, execMeasCmd_kept t h ch s u hx⟩
  | spanEnd t ch ofRecord =>
    exact .inl ⟨t, execSpanEnd_kept t ch ofRecord s u hx⟩
  | measResult t ch ofRecord =>
    exact .inl ⟨t, execMeasResult_kept t ch ofRecord s u hx⟩
  | gapEntryCont t ch =>
    exact .inl ⟨t, execGapEntryCont_kept t ch s u hx⟩
  | lastSampleRead t h ch =>
    exact .inl ⟨t, execLastSampleRead_kept t h ch s u hx⟩
  | lastCoarseRead t h ch =>
    exact .inl ⟨t, execLastCoarseRead_kept t h ch s u hx⟩
  | manual t h profile net =>
    exact .inl ⟨t, execManual_kept t h profile net s u hx⟩
  | recordManual t h profile net =>
    exact .inl ⟨t, execRecordManual_kept t h profile net s u hx⟩
  | rctl t h slot =>
    exact .inl ⟨t, execRctl_kept t h slot s u hx⟩
  | recordClose t h slot =>
    exact .inl ⟨t, execRecordClose_kept t h slot s u hx⟩
  | slotResult t slot =>
    exact .inl ⟨t, execSlotResult_kept t slot s u hx⟩
  | triggerEvent t trig =>
    exact .inl ⟨t, execTriggerEvent_kept t trig s u hx⟩
  | recordEnd t slot =>
    exact .inl ⟨t, execRecordEnd_kept t slot s u hx⟩
  | networkTriggerReceive t port seq hops m =>
    exact .inl ⟨t, execNetworkTriggerReceive_kept t port seq hops m s u hx⟩
  | blockFlush t ch slot =>
    exact .inl ⟨t, execBlockFlush_kept t ch slot s u hx⟩
  | refclkLost t cause =>
    exact .inl ⟨t, execRefclkLost_kept t cause s u hx⟩
  | refclkReturn t =>
    exact .inl ⟨t, execRefclkReturn_kept t s u hx⟩
  | syncSend t port =>
    exact .inl ⟨t, execSyncSend_kept t port s u hx⟩
  | syncReceive t port m =>
    exact .inl ⟨t, execSyncReceive_kept t port m s u hx⟩
  | delayReqReceive t port m =>
    exact .inl ⟨t, execDelayReqReceive_kept t port m s u hx⟩
  | delayRespReceive t port m y =>
    exact .inl ⟨t, execDelayRespReceive_kept t port m y s u hx⟩
  | ptpMessageReceive t port m y =>
    exact .inl ⟨t, execPtpMessageReceive_kept t port m y s u hx⟩
  | ptpMessageSend t port kind =>
    exact .inl ⟨t, execPtpMessageSend_kept t port kind s u hx⟩
  | parentLoss t =>
    exact .inl ⟨t, execParentLoss_kept t s u hx⟩
  | parentReplaceTimeout t =>
    exact .inl ⟨t, execParentReplaceTimeout_kept t s u hx⟩
  | leadWaitExpiry t =>
    exact .inl ⟨t, execLeadWaitExpiry_kept t s u hx⟩
  | holdLimitPassed t =>
    exact .inl ⟨t, execHoldLimitPassed_kept t s u hx⟩
  | slewComplete t =>
    exact .inl ⟨t, execSlewComplete_kept t s u hx⟩
  | ntimeLatRead t h =>
    exact .inl ⟨t, execNtimeLatRead_kept t h s u hx⟩
  | utc t h val =>
    exact .inr (.inl ⟨rfl, t, execUtc_kept t h val s u hx⟩)
  | timeRead t h =>
    exact .inl ⟨t, execTimeRead_kept t h s u hx⟩
  | reinEdge t line rising =>
    exact .inl ⟨t, execReinEdge_kept t line rising s u hx⟩
  | reinSyncDrive t =>
    exact .inl ⟨t, execReinSyncDrive_kept t s u hx⟩
  | reinPulseEnd t line =>
    exact .inl ⟨t, execReinPulseEnd_kept t line s u hx⟩
  | reinClkMissing t =>
    exact .inl ⟨t, execReinClkMissing_kept t s u hx⟩
  | reinSyncMissing t =>
    exact .inl ⟨t, execReinSyncMissing_kept t s u hx⟩
  | reinReadbackFault t line =>
    exact .inl ⟨t, execReinReadbackFault_kept t line s u hx⟩
  | reinLineStuckHigh t line =>
    exact .inl ⟨t, execReinLineStuckHigh_kept t line s u hx⟩
  | calRequest t h kind target =>
    exact .inl ⟨t, execCalRequest_kept t h kind target s u hx⟩
  | calReq t h kind target =>
    exact .inl ⟨t, execCalReq_kept t h kind target s u hx⟩
  | baseline t h val =>
    exact .inl ⟨t, execBaseline_kept t h val s u hx⟩
  | backgroundCalibration t cell =>
    exact .inl ⟨t, execBackgroundCalibration_kept t cell s u hx⟩
  | calibrationResult t c =>
    exact .inl ⟨t, execCalibrationResult_kept t c s u hx⟩
  | trimApply t cell conv =>
    exact .inl ⟨t, execTrimApply_kept t cell conv s u hx⟩
  | triangulationRun t =>
    exact .inl ⟨t, execTriangulationRun_kept t s u hx⟩
  | triangulationResult t o =>
    exact .inl ⟨t, execTriangulationResult_kept t o s u hx⟩
  | triangulationTrimUpdate t quadrant =>
    exact .inl ⟨t, execTriangulationTrimUpdate_kept t quadrant s u hx⟩
  | driftLogRetry t ok =>
    exact .inl ⟨t, execDriftLogRetry_kept t ok s u hx⟩
  | calAgeTick t =>
    exact .inl ⟨t, execCalAgeTick_kept t s u hx⟩
  | selfTest t h test target =>
    exact .inl ⟨t, execSelfTest_kept t h test target s u hx⟩
  | testReq t h test target =>
    exact .inl ⟨t, execTestReq_kept t h test target s u hx⟩
  | selfTestEnd t test target failed data =>
    exact .inl ⟨t, execSelfTestEnd_kept t test target failed data s u hx⟩
  | osApply t h mask =>
    exact .inl ⟨t, execOsApply_kept t h mask s u hx⟩
  | osCtlApply t h os =>
    exact .inl ⟨t, execOsCtlApply_kept t h os s u hx⟩
  | osCtlClear t h os shorted =>
    exact .inl ⟨t, execOsCtlClear_kept t h os shorted s u hx⟩
  | opticalUpdate t tdrv =>
    exact .inl ⟨t, execOpticalUpdate_kept t tdrv s u hx⟩
  | osOpenDetect t os =>
    exact .inl ⟨t, execOsOpenDetect_kept t os s u hx⟩
  | osOpenClear t os =>
    exact .inl ⟨t, execOsOpenClear_kept t os s u hx⟩
  | neighbourShortTest t pair shorted =>
    exact .inl ⟨t, execNeighbourShortTest_kept t pair shorted s u hx⟩
  | extTemp t h val =>
    exact .inr (.inl ⟨rfl, t, execExtTemp_kept t h val s u hx⟩)
  | extTempStale t =>
    exact .inl ⟨t, execExtTempStale_kept t s u hx⟩
  | qctlClearUnderrun t h =>
    exact .inl ⟨t, execQctlClearUnderrun_kept t h s u hx⟩
  | qctlClearNotices t h =>
    exact .inl ⟨t, execQctlClearNotices_kept t h s u hx⟩
  | qctlClearLost t h =>
    exact .inl ⟨t, execQctlClearLost_kept t h s u hx⟩
  | qctlClearReplyUnderrun t h =>
    exact .inl ⟨t, execQctlClearReplyUnderrun_kept t h s u hx⟩
  | eventRead t h count ecc =>
    exact .inl ⟨t, execEventRead_kept t h count ecc s u hx⟩
  | storagePortFail t st =>
    exact .inl ⟨t, execStoragePortFail_kept t st s u hx⟩
  | stCtlDetach t h st =>
    exact .inl ⟨t, execStCtlDetach_kept t h st s u hx⟩
  | stCtlAttach t h st =>
    exact .inl ⟨t, execStCtlAttach_kept t h st s u hx⟩
  | resilverComplete t st =>
    exact .inl ⟨t, execResilverComplete_kept t st s u hx⟩
  | lifeCheck t st lifeA lifeB eol =>
    exact .inl ⟨t, execLifeCheck_kept t st lifeA lifeB eol s u hx⟩
  | spill t =>
    exact .inl ⟨t, execSpill_kept t s u hx⟩
  | spillReadback t =>
    exact .inl ⟨t, execSpillReadback_kept t s u hx⟩
  | archiveBlockWrite t ch ecc =>
    exact .inl ⟨t, execArchiveBlockWrite_kept t ch ecc s u hx⟩
  | storageWriteComplete t index =>
    exact .inl ⟨t, execStorageWriteComplete_kept t index s u hx⟩
  | jobComplete t o =>
    exact .inl ⟨t, execJobComplete_kept t o s u hx⟩
  | arcExport t h sel =>
    exact .inl ⟨t, execArcExport_kept t h sel s u hx⟩
  | arcCompress t h sel =>
    exact .inl ⟨t, execArcCompress_kept t h sel s u hx⟩
  | arcRead t h off len =>
    exact .inl ⟨t, execArcRead_kept t h off len s u hx⟩
  | jobCancel t h =>
    exact .inl ⟨t, execJobCancel_kept t h s u hx⟩
  | laneSwitchClose t lane =>
    exact .inl ⟨t, execLaneSwitchClose_kept t lane s u hx⟩
  | pllLock t lane =>
    exact .inl ⟨t, execPllLock_kept t lane s u hx⟩
  | pllLockTimeout t lane =>
    exact .inl ⟨t, execPllLockTimeout_kept t lane s u hx⟩
  | pllLoss t lane =>
    exact .inl ⟨t, execPllLoss_kept t lane s u hx⟩
  | failedRetry t lane locked =>
    exact .inl ⟨t, execFailedRetry_kept t lane locked s u hx⟩
  | helloSend t port =>
    exact .inl ⟨t, execHelloSend_kept t port s u hx⟩
  | helloReceive t port m =>
    exact .inl ⟨t, execHelloReceive_kept t port m s u hx⟩
  | partnerGone t port =>
    exact .inl ⟨t, execPartnerGone_kept t port s u hx⟩
  | countdownSwitch t port =>
    exact .inl ⟨t, execCountdownSwitch_kept t port s u hx⟩
  | adaptLock t port =>
    exact .inl ⟨t, execAdaptLock_kept t port s u hx⟩
  | adaptFailure t port =>
    exact .inl ⟨t, execAdaptFailure_kept t port s u hx⟩
  | trainingFrameReceive t port control status eyeOk =>
    exact .inl ⟨t, execTrainingFrameReceive_kept t port control status eyeOk s u hx⟩
  | dataStart t port =>
    exact .inl ⟨t, execDataStart_kept t port s u hx⟩
  | markerReceive t port inPlace =>
    exact .inl ⟨t, execMarkerReceive_kept t port inPlace s u hx⟩
  | lockLoss t port =>
    exact .inl ⟨t, execLockLoss_kept t port s u hx⟩
  | lockRegainTimeout t port =>
    exact .inl ⟨t, execLockRegainTimeout_kept t port s u hx⟩
  | ethLinkUp t port fullDuplex =>
    exact .inl ⟨t, execEthLinkUp_kept t port fullDuplex s u hx⟩
  | laneTest t h port val =>
    exact .inr (.inl ⟨rfl, t, execLaneTest_kept t h port val s u hx⟩)
  | errInjSingle t h port =>
    exact .inl ⟨t, execErrInjSingle_kept t h port s u hx⟩
  | laneCtlRetrain t h port =>
    exact .inl ⟨t, execLaneCtlRetrain_kept t h port s u hx⟩
  | laneCtlClear t h port =>
    exact .inl ⟨t, execLaneCtlClear_kept t h port s u hx⟩
  | checkerLock t port =>
    exact .inl ⟨t, execCheckerLock_kept t port s u hx⟩
  | checkerLockLoss t port =>
    exact .inl ⟨t, execCheckerLockLoss_kept t port s u hx⟩
  | checkerCountSaturate t port bits =>
    exact .inl ⟨t, execCheckerCountSaturate_kept t port bits s u hx⟩
  | fecLimitCheck t port corr unc sym =>
    exact .inl ⟨t, execFecLimitCheck_kept t port corr unc sym s u hx⟩
  | creditReceive t port c2 c3 =>
    exact .inl ⟨t, execCreditReceive_kept t port c2 c3 s u hx⟩
  | creditSend t port =>
    exact .inl ⟨t, execCreditSend_kept t port s u hx⟩
  | portFrameSend t port ecc =>
    exact .inl ⟨t, execPortFrameSend_kept t port ecc s u hx⟩
  | blockSent t port =>
    exact .inl ⟨t, execBlockSent_kept t port s u hx⟩
  | wcpFrameReceive t port f =>
    exact .inl ⟨t, execWcpFrameReceive_kept t port f s u hx⟩
  | streamFrameReceive t port f =>
    exact .inl ⟨t, execStreamFrameReceive_kept t port f s u hx⟩
  | ethFrameReceive t port etherType f =>
    exact .inl ⟨t, execEthFrameReceive_kept t port etherType f s u hx⟩
  | lsaReceive t port m =>
    exact .inl ⟨t, execLsaReceive_kept t port m s u hx⟩
  | lsaRefresh t =>
    exact .inl ⟨t, execLsaRefresh_kept t s u hx⟩
  | lsaUnreachableHold t eui =>
    exact .inl ⟨t, execLsaUnreachableHold_kept t eui s u hx⟩
  | idHoldExpiry t eui =>
    exact .inl ⟨t, execIdHoldExpiry_kept t eui s u hx⟩
  | routeRecompute t =>
    exact .inl ⟨t, execRouteRecompute_kept t s u hx⟩
  | queuedFrameExpiry t dest =>
    exact .inl ⟨t, execQueuedFrameExpiry_kept t dest s u hx⟩
  | proxyExpiry t tag =>
    exact .inl ⟨t, execProxyExpiry_kept t tag s u hx⟩
  | streamAttach t h detach =>
    exact .inr (.inl ⟨rfl, t, execStreamAttach_kept t h detach s u hx⟩)
  | topologyRead t h id =>
    exact .inl ⟨t, execTopologyRead_kept t h id s u hx⟩
  | idRelease t h id =>
    exact .inl ⟨t, execIdRelease_kept t h id s u hx⟩
  | faultPairActive t src detail =>
    exact .inl ⟨t, execFaultPairActive_kept t src detail s u hx⟩
  | faultPairInactive t src =>
    exact .inl ⟨t, execFaultPairInactive_kept t src s u hx⟩
  | wireFault t pair =>
    exact .inl ⟨t, execWireFault_kept t pair s u hx⟩
  | aliveToggle t =>
    exact .inl ⟨t, execAliveToggle_kept t s u hx⟩
  | watchdogMiss t =>
    exact .inl ⟨t, execWatchdogMiss_kept t s u hx⟩
  | faultNRelease t =>
    exact .inl ⟨t, execFaultNRelease_kept t s u hx⟩
  | locketCopy t =>
    exact .inl ⟨t, execLocketCopy_kept t s u hx⟩
  | locketRead t h prev =>
    exact .inl ⟨t, execLocketRead_kept t h prev s u hx⟩
  | faultClear t h mask locket faultN =>
    exact .inl ⟨t, execFaultClear_kept t h mask locket faultN s u hx⟩
  | unfence t h kind num =>
    exact .inl ⟨t, execUnfence_kept t h kind num s u hx⟩
  | unfenceComplete t kind num =>
    exact .inl ⟨t, execUnfenceComplete_kept t kind num s u hx⟩
  | fenceUnit t h kind num =>
    exact .inl ⟨t, execFenceUnit_kept t h kind num s u hx⟩
  | claspMinority t core =>
    exact .inl ⟨t, execClaspMinority_kept t core s u hx⟩
  | coreResyncComplete t ok =>
    exact .inl ⟨t, execCoreResyncComplete_kept t ok s u hx⟩
  | claspDoubleDisagreement t =>
    exact .inl ⟨t, execClaspDoubleDisagreement_kept t s u hx⟩
  | scrub t mismatch =>
    exact .inl ⟨t, execScrub_kept t mismatch s u hx⟩
  | heartbeatSend t =>
    exact .inl ⟨t, execHeartbeatSend_kept t s u hx⟩
  | heartbeatReceive t port m =>
    exact .inl ⟨t, execHeartbeatReceive_kept t port m s u hx⟩
  | partnerLoss t =>
    exact .inl ⟨t, execPartnerLoss_kept t s u hx⟩
  | pairCtlYield t h =>
    exact .inl ⟨t, execPairCtlYield_kept t h s u hx⟩
  | yieldTimeout t =>
    exact .inl ⟨t, execYieldTimeout_kept t s u hx⟩
  | yieldRetry t =>
    exact .inl ⟨t, execYieldRetry_kept t s u hx⟩
  | pairMemberValue t pair memberB v =>
    exact .inl ⟨t, execPairMemberValue_kept t pair memberB v s u hx⟩
  | pairDiscrepancy t pair =>
    exact .inl ⟨t, execPairDiscrepancy_kept t pair s u hx⟩
  | siChange t si a b =>
    exact .inl ⟨t, execSiChange_kept t si a b s u hx⟩
  | siFilterExpiry t si =>
    exact .inl ⟨t, execSiFilterExpiry_kept t si s u hx⟩
  | siDiscrepancy t si =>
    exact .inl ⟨t, execSiDiscrepancy_kept t si s u hx⟩
  | nslCycle t h bytes =>
    exact .inl ⟨t, execNslCycle_kept t h bytes s u hx⟩
  | confirmSignet t h bytes =>
    exact .inr (.inr (.inr (.inr (.inr (.inl ⟨t, h, bytes, rfl, execConfirmSignet_kept t h bytes s u hx⟩)))))
  | safetyReset t h bytes =>
    exact .inl ⟨t, execSafetyReset_kept t h bytes s u hx⟩
  | nslOpen t h bytes =>
    exact .inl ⟨t, execNslOpen_kept t h bytes s u hx⟩
  | nslTimeout t conn =>
    exact .inl ⟨t, execNslTimeout_kept t conn s u hx⟩
  | soReadback t so hrb lrb =>
    exact .inl ⟨t, execSoReadback_kept t so hrb lrb s u hx⟩
  | rbTExpiry t so =>
    exact .inl ⟨t, execRbTExpiry_kept t so s u hx⟩
  | tpWidthEnd t so =>
    exact .inl ⟨t, execTpWidthEnd_kept t so s u hx⟩
  | schedule t h typ target args =>
    exact .inl ⟨t, execSchedule_kept t h typ target args s u hx⟩
  | cancel t h entry =>
    exact .inl ⟨t, execCancel_kept t h entry s u hx⟩
  | actAccept t h entry =>
    exact .inl ⟨t, execActAccept_kept t h entry s u hx⟩
  | actCancel t h entry =>
    exact .inl ⟨t, execActCancel_kept t h entry s u hx⟩
  | actionArmCheck t =>
    exact .inl ⟨t, execActionArmCheck_kept t s u hx⟩
  | actionFire t entry =>
    exact .inr (.inl ⟨rfl, t, execActionFire_kept t entry s u hx⟩)
  | heldActionDrop t entry =>
    exact .inl ⟨t, execHeldActionDrop_kept t entry s u hx⟩
  | powerUp t b =>
    exact .inr (.inr (.inl ⟨rfl, t, execPowerUp_near t b s u hx⟩))
  | resetNAssert t =>
    rcases execResetNAssert_kept t s u hx with h | h
    · exact .inl ⟨t, h⟩
    · exact .inr (.inr (.inr (.inl ⟨rfl, t, h⟩)))
  | resetNRelease t b =>
    exact .inr (.inr (.inl ⟨rfl, t, execResetNRelease_near t b s u hx⟩))
  | resetNTimeout t b =>
    exact .inr (.inr (.inl ⟨rfl, t, execResetNTimeout_near t b s u hx⟩))
  | resetNStuckClear t =>
    exact .inl ⟨t, execResetNStuckClear_kept t s u hx⟩
  | firmwareStart t =>
    exact .inr (.inr (.inl ⟨rfl, t, execFirmwareStart_near t s u hx⟩))
  | domainGood t pd badPairs =>
    exact .inr (.inr (.inl ⟨rfl, t, execDomainGood_near t pd badPairs s u hx⟩))
  | railWaitExpiry t pd =>
    exact .inr (.inr (.inl ⟨rfl, t, execRailWaitExpiry_near t pd s u hx⟩))
  | railTrip t rail overV =>
    rcases execRailTrip_kept t rail overV s u hx with h | ⟨h, g⟩
    · exact .inr (.inr (.inl ⟨rfl, t, h⟩))
    · refine .inr (.inr (.inr (.inr (.inl ⟨t, rail, overV, rfl, ?_, g⟩))))
      rcases h with rfl | rfl <;> rfl
  | railGood t rail =>
    exact .inr (.inr (.inl ⟨rfl, t, execRailGood_near t rail s u hx⟩))
  | restartServed t unitsSwapped =>
    exact .inl ⟨t, execRestartServed_kept t unitsSwapped s u hx⟩
  | restartWindowExpiry t =>
    exact .inl ⟨t, execRestartWindowExpiry_kept t s u hx⟩
  | codeSwap t kind num ok =>
    exact .inl ⟨t, execCodeSwap_kept t kind num ok s u hx⟩
  | updStatus t h =>
    exact .inl ⟨t, execUpdStatus_kept t h s u hx⟩
  | updOpen t h slot len =>
    exact .inl ⟨t, execUpdOpen_kept t h slot len s u hx⟩
  | slotEraseComplete t =>
    exact .inl ⟨t, execSlotEraseComplete_kept t s u hx⟩
  | updWrite t h off bytes =>
    exact .inl ⟨t, execUpdWrite_kept t h off bytes s u hx⟩
  | updVerify t h slot =>
    exact .inl ⟨t, execUpdVerify_kept t h slot s u hx⟩
  | updVerifyComplete t slot keyOk sigOk =>
    exact .inl ⟨t, execUpdVerifyComplete_kept t slot keyOk sigOk s u hx⟩
  | updConfirm t h burn =>
    exact .inl ⟨t, execUpdConfirm_kept t h burn s u hx⟩
  | updBoot t h slot code =>
    exact .inl ⟨t, execUpdBoot_kept t h slot code s u hx⟩
  | extest t shift =>
    exact .inr (.inr (.inl ⟨rfl, t, execExtest_near t shift s u hx⟩))
  | samplePreload t shift =>
    exact .inl ⟨t, execSamplePreload_kept t shift s u hx⟩
  | idcode t =>
    exact .inl ⟨t, execIdcode_kept t s u hx⟩
  | probe t =>
    exact .inr (.inr (.inl ⟨rfl, t, execProbe_near t s u hx⟩))
  | extestPulse t =>
    exact .inr (.inr (.inl ⟨rfl, t, execExtestPulse_near t s u hx⟩))
  | extestTrain t =>
    exact .inr (.inr (.inl ⟨rfl, t, execExtestTrain_near t s u hx⟩))
  | clamp t =>
    exact .inr (.inr (.inl ⟨rfl, t, execClamp_near t s u hx⟩))
  | highz t =>
    exact .inr (.inr (.inl ⟨rfl, t, execHighz_near t s u hx⟩))
  | mbist t failing =>
    exact .inr (.inr (.inl ⟨rfl, t, execMbist_near t failing s u hx⟩))
  | modbist t map =>
    exact .inr (.inr (.inl ⟨rfl, t, execModbist_near t map s u hx⟩))
  | bistResult t =>
    exact .inl ⟨t, execBistResult_kept t s u hx⟩
  | bypass t code =>
    exact .inl ⟨t, execBypass_kept t code s u hx⟩
  | testLogicReset t =>
    exact .inl ⟨t, execTestLogicReset_kept t s u hx⟩
  | tapUnlock t h magic =>
    exact .inl ⟨t, execTapUnlock_kept t h magic s u hx⟩
  | unlockWindowExpiry t =>
    exact .inl ⟨t, execUnlockWindowExpiry_kept t s u hx⟩
  | bistReport t h =>
    exact .inl ⟨t, execBistReport_kept t h s u hx⟩
  | tjHoursTick t temp sensor =>
    exact .inl ⟨t, execTjHoursTick_kept t temp sensor s u hx⟩
  | registerWrite t h id val =>
    exact .inr (.inl ⟨rfl, t, execRegisterWrite_kept t h id val s u hx⟩)
  | writeParam t h items =>
    exact .inr (.inl ⟨rfl, t, execWriteParam_kept t h items s u hx⟩)
  | writeRange t h first vals =>
    exact .inr (.inl ⟨rfl, t, execWriteRange_kept t h first vals s u hx⟩)
  | readParam t h ids =>
    exact .inl ⟨t, execReadParam_kept t h ids s u hx⟩
  | readRange t h first count =>
    exact .inl ⟨t, execReadRange_kept t h first count s u hx⟩
  | imgOpen t h gen len =>
    exact .inl ⟨t, execImgOpen_kept t h gen len s u hx⟩
  | imgWrite t h off data =>
    exact .inl ⟨t, execImgWrite_kept t h off data s u hx⟩
  | imgVerify t h =>
    exact .inl ⟨t, execImgVerify_kept t h s u hx⟩
  | imgVerifyComplete t =>
    exact .inl ⟨t, execImgVerifyComplete_kept t s u hx⟩
  | imgAbort t h =>
    exact .inl ⟨t, execImgAbort_kept t h s u hx⟩
  | imgCommit t h store =>
    exact .inl ⟨t, execImgCommit_kept t h store s u hx⟩
  | commitBoundary t =>
    rcases execCommitBoundary_kept t s u hx with h | h
    · exact .inl ⟨t, h⟩
    · exact .inr (.inr (.inr (.inr (.inr (.inr ⟨t, rfl, h⟩)))))
  | imageStoreComplete t ok =>
    exact .inl ⟨t, execImageStoreComplete_kept t ok s u hx⟩
  | hubIdWaitExpiry t =>
    exact .inl ⟨t, execHubIdWaitExpiry_kept t s u hx⟩
  | powerupCalibrationEnd t results =>
    exact .inl ⟨t, execPowerupCalibrationEnd_kept t results s u hx⟩
  | idClaimWaitEnd t =>
    exact .inl ⟨t, execIdClaimWaitEnd_kept t s u hx⟩
  | stInitComplete t st d =>
    exact .inl ⟨t, execStInitComplete_kept t st d s u hx⟩

end Sys2Proof.Machine
end

