-- ==== Sys2Proof/Laws/State.lean ====
section
/-! SUPPORT. What each update of the state changes: one field, and every other field is as before; and what is read back. -/

set_option Elab.async false

namespace Sys2Proof.Machine

@[simp] theorem State.setClock_rest (t : Nat) (s : State) :
    (s.setClock t).rein = s.rein ∧ (s.setClock t).acts = s.acts ∧ (s.setClock t).gaitSets = s.gaitSets ∧
    (s.setClock t).gaitLate = s.gaitLate ∧ (s.setClock t).cfg = s.cfg ∧ (s.setClock t).status = s.status ∧
    (s.setClock t).counts = s.counts ∧ (s.setClock t).evq = s.evq ∧ (s.setClock t).cmds = s.cmds ∧ (s.setClock t).pdOn = s.pdOn ∧
    (s.setClock t).pdGood = s.pdGood ∧ (s.setClock t).switches = s.switches ∧ (s.setClock t).closed = s.closed ∧
    (s.setClock t).chans = s.chans ∧ (s.setClock t).cells = s.cells ∧ (s.setClock t).srcs = s.srcs ∧
    (s.setClock t).gaits = s.gaits ∧ (s.setClock t).trig = s.trig ∧ (s.setClock t).hold = s.hold ∧
    (s.setClock t).stores = s.stores ∧ (s.setClock t).arc = s.arc ∧ (s.setClock t).lanes = s.lanes ∧
    (s.setClock t).links = s.links ∧ (s.setClock t).net = s.net ∧ (s.setClock t).faults = s.faults ∧ (s.setClock t).core = s.core ∧
    (s.setClock t).pair = s.pair ∧ (s.setClock t).safety = s.safety ∧ (s.setClock t).cal = s.cal ∧ (s.setClock t).opt = s.opt ∧
    (s.setClock t).image = s.image ∧ (s.setClock t).boot = s.boot ∧ (s.setClock t).ident = s.ident ∧ (s.setClock t).tap = s.tap ∧
    (s.setClock t).free = s.free ∧ (s.setClock t).pending = s.pending := by
  and_intros <;> rfl

@[simp] theorem State.setChan_rest (s : State) (n : Nat) (c : Chan) :
    (s.setChan n c).time = s.time ∧ (s.setChan n c).rein = s.rein ∧ (s.setChan n c).acts = s.acts ∧
    (s.setChan n c).gaitSets = s.gaitSets ∧ (s.setChan n c).gaitLate = s.gaitLate ∧ (s.setChan n c).cfg = s.cfg ∧
    (s.setChan n c).status = s.status ∧ (s.setChan n c).counts = s.counts ∧ (s.setChan n c).evq = s.evq ∧
    (s.setChan n c).cmds = s.cmds ∧ (s.setChan n c).pdOn = s.pdOn ∧ (s.setChan n c).pdGood = s.pdGood ∧
    (s.setChan n c).switches = s.switches ∧ (s.setChan n c).closed = s.closed ∧ (s.setChan n c).cells = s.cells ∧
    (s.setChan n c).srcs = s.srcs ∧ (s.setChan n c).gaits = s.gaits ∧ (s.setChan n c).trig = s.trig ∧
    (s.setChan n c).hold = s.hold ∧ (s.setChan n c).stores = s.stores ∧ (s.setChan n c).arc = s.arc ∧
    (s.setChan n c).lanes = s.lanes ∧ (s.setChan n c).links = s.links ∧ (s.setChan n c).net = s.net ∧
    (s.setChan n c).faults = s.faults ∧ (s.setChan n c).core = s.core ∧ (s.setChan n c).pair = s.pair ∧
    (s.setChan n c).safety = s.safety ∧ (s.setChan n c).cal = s.cal ∧ (s.setChan n c).opt = s.opt ∧
    (s.setChan n c).image = s.image ∧ (s.setChan n c).boot = s.boot ∧ (s.setChan n c).ident = s.ident ∧
    (s.setChan n c).tap = s.tap ∧ (s.setChan n c).free = s.free ∧ (s.setChan n c).pending = s.pending := by
  and_intros <;> rfl

@[simp] theorem State.modChan_rest (s : State) (n : Nat) (f : Chan → Chan) :
    (s.modChan n f).time = s.time ∧ (s.modChan n f).rein = s.rein ∧ (s.modChan n f).acts = s.acts ∧
    (s.modChan n f).gaitSets = s.gaitSets ∧ (s.modChan n f).gaitLate = s.gaitLate ∧ (s.modChan n f).cfg = s.cfg ∧
    (s.modChan n f).status = s.status ∧ (s.modChan n f).counts = s.counts ∧ (s.modChan n f).evq = s.evq ∧
    (s.modChan n f).cmds = s.cmds ∧ (s.modChan n f).pdOn = s.pdOn ∧ (s.modChan n f).pdGood = s.pdGood ∧
    (s.modChan n f).switches = s.switches ∧ (s.modChan n f).closed = s.closed ∧ (s.modChan n f).cells = s.cells ∧
    (s.modChan n f).srcs = s.srcs ∧ (s.modChan n f).gaits = s.gaits ∧ (s.modChan n f).trig = s.trig ∧
    (s.modChan n f).hold = s.hold ∧ (s.modChan n f).stores = s.stores ∧ (s.modChan n f).arc = s.arc ∧
    (s.modChan n f).lanes = s.lanes ∧ (s.modChan n f).links = s.links ∧ (s.modChan n f).net = s.net ∧
    (s.modChan n f).faults = s.faults ∧ (s.modChan n f).core = s.core ∧ (s.modChan n f).pair = s.pair ∧
    (s.modChan n f).safety = s.safety ∧ (s.modChan n f).cal = s.cal ∧ (s.modChan n f).opt = s.opt ∧
    (s.modChan n f).image = s.image ∧ (s.modChan n f).boot = s.boot ∧ (s.modChan n f).ident = s.ident ∧
    (s.modChan n f).tap = s.tap ∧ (s.modChan n f).free = s.free ∧ (s.modChan n f).pending = s.pending := by
  and_intros <;> rfl

@[simp] theorem State.modCell_rest (s : State) (n : Nat) (f : Cell → Cell) :
    (s.modCell n f).time = s.time ∧ (s.modCell n f).rein = s.rein ∧ (s.modCell n f).acts = s.acts ∧
    (s.modCell n f).gaitSets = s.gaitSets ∧ (s.modCell n f).gaitLate = s.gaitLate ∧ (s.modCell n f).cfg = s.cfg ∧
    (s.modCell n f).status = s.status ∧ (s.modCell n f).counts = s.counts ∧ (s.modCell n f).evq = s.evq ∧
    (s.modCell n f).cmds = s.cmds ∧ (s.modCell n f).pdOn = s.pdOn ∧ (s.modCell n f).pdGood = s.pdGood ∧
    (s.modCell n f).switches = s.switches ∧ (s.modCell n f).closed = s.closed ∧ (s.modCell n f).chans = s.chans ∧
    (s.modCell n f).srcs = s.srcs ∧ (s.modCell n f).gaits = s.gaits ∧ (s.modCell n f).trig = s.trig ∧
    (s.modCell n f).hold = s.hold ∧ (s.modCell n f).stores = s.stores ∧ (s.modCell n f).arc = s.arc ∧
    (s.modCell n f).lanes = s.lanes ∧ (s.modCell n f).links = s.links ∧ (s.modCell n f).net = s.net ∧
    (s.modCell n f).faults = s.faults ∧ (s.modCell n f).core = s.core ∧ (s.modCell n f).pair = s.pair ∧
    (s.modCell n f).safety = s.safety ∧ (s.modCell n f).cal = s.cal ∧ (s.modCell n f).opt = s.opt ∧
    (s.modCell n f).image = s.image ∧ (s.modCell n f).boot = s.boot ∧ (s.modCell n f).ident = s.ident ∧
    (s.modCell n f).tap = s.tap ∧ (s.modCell n f).free = s.free ∧ (s.modCell n f).pending = s.pending := by
  and_intros <;> rfl

@[simp] theorem State.modSrc_rest (s : State) (n : Nat) (f : Src → Src) :
    (s.modSrc n f).time = s.time ∧ (s.modSrc n f).rein = s.rein ∧ (s.modSrc n f).acts = s.acts ∧
    (s.modSrc n f).gaitSets = s.gaitSets ∧ (s.modSrc n f).gaitLate = s.gaitLate ∧ (s.modSrc n f).cfg = s.cfg ∧
    (s.modSrc n f).status = s.status ∧ (s.modSrc n f).counts = s.counts ∧ (s.modSrc n f).evq = s.evq ∧
    (s.modSrc n f).cmds = s.cmds ∧ (s.modSrc n f).pdOn = s.pdOn ∧ (s.modSrc n f).pdGood = s.pdGood ∧
    (s.modSrc n f).switches = s.switches ∧ (s.modSrc n f).closed = s.closed ∧ (s.modSrc n f).chans = s.chans ∧
    (s.modSrc n f).cells = s.cells ∧ (s.modSrc n f).gaits = s.gaits ∧ (s.modSrc n f).trig = s.trig ∧
    (s.modSrc n f).hold = s.hold ∧ (s.modSrc n f).stores = s.stores ∧ (s.modSrc n f).arc = s.arc ∧
    (s.modSrc n f).lanes = s.lanes ∧ (s.modSrc n f).links = s.links ∧ (s.modSrc n f).net = s.net ∧
    (s.modSrc n f).faults = s.faults ∧ (s.modSrc n f).core = s.core ∧ (s.modSrc n f).pair = s.pair ∧
    (s.modSrc n f).safety = s.safety ∧ (s.modSrc n f).cal = s.cal ∧ (s.modSrc n f).opt = s.opt ∧
    (s.modSrc n f).image = s.image ∧ (s.modSrc n f).boot = s.boot ∧ (s.modSrc n f).ident = s.ident ∧
    (s.modSrc n f).tap = s.tap ∧ (s.modSrc n f).free = s.free ∧ (s.modSrc n f).pending = s.pending := by
  and_intros <;> rfl

@[simp] theorem State.modGait_rest (s : State) (n : Nat) (f : GaitSt → GaitSt) :
    (s.modGait n f).time = s.time ∧ (s.modGait n f).rein = s.rein ∧ (s.modGait n f).acts = s.acts ∧
    (s.modGait n f).gaitSets = s.gaitSets ∧ (s.modGait n f).gaitLate = s.gaitLate ∧ (s.modGait n f).cfg = s.cfg ∧
    (s.modGait n f).status = s.status ∧ (s.modGait n f).counts = s.counts ∧ (s.modGait n f).evq = s.evq ∧
    (s.modGait n f).cmds = s.cmds ∧ (s.modGait n f).pdOn = s.pdOn ∧ (s.modGait n f).pdGood = s.pdGood ∧
    (s.modGait n f).switches = s.switches ∧ (s.modGait n f).closed = s.closed ∧ (s.modGait n f).chans = s.chans ∧
    (s.modGait n f).cells = s.cells ∧ (s.modGait n f).srcs = s.srcs ∧ (s.modGait n f).trig = s.trig ∧
    (s.modGait n f).hold = s.hold ∧ (s.modGait n f).stores = s.stores ∧ (s.modGait n f).arc = s.arc ∧
    (s.modGait n f).lanes = s.lanes ∧ (s.modGait n f).links = s.links ∧ (s.modGait n f).net = s.net ∧
    (s.modGait n f).faults = s.faults ∧ (s.modGait n f).core = s.core ∧ (s.modGait n f).pair = s.pair ∧
    (s.modGait n f).safety = s.safety ∧ (s.modGait n f).cal = s.cal ∧ (s.modGait n f).opt = s.opt ∧
    (s.modGait n f).image = s.image ∧ (s.modGait n f).boot = s.boot ∧ (s.modGait n f).ident = s.ident ∧
    (s.modGait n f).tap = s.tap ∧ (s.modGait n f).free = s.free ∧ (s.modGait n f).pending = s.pending := by
  and_intros <;> rfl

@[simp] theorem State.modStore_rest (s : State) (n : Nat) (f : St → St) :
    (s.modStore n f).time = s.time ∧ (s.modStore n f).rein = s.rein ∧ (s.modStore n f).acts = s.acts ∧
    (s.modStore n f).gaitSets = s.gaitSets ∧ (s.modStore n f).gaitLate = s.gaitLate ∧ (s.modStore n f).cfg = s.cfg ∧
    (s.modStore n f).status = s.status ∧ (s.modStore n f).counts = s.counts ∧ (s.modStore n f).evq = s.evq ∧
    (s.modStore n f).cmds = s.cmds ∧ (s.modStore n f).pdOn = s.pdOn ∧ (s.modStore n f).pdGood = s.pdGood ∧
    (s.modStore n f).switches = s.switches ∧ (s.modStore n f).closed = s.closed ∧ (s.modStore n f).chans = s.chans ∧
    (s.modStore n f).cells = s.cells ∧ (s.modStore n f).srcs = s.srcs ∧ (s.modStore n f).gaits = s.gaits ∧
    (s.modStore n f).trig = s.trig ∧ (s.modStore n f).hold = s.hold ∧ (s.modStore n f).arc = s.arc ∧
    (s.modStore n f).lanes = s.lanes ∧ (s.modStore n f).links = s.links ∧ (s.modStore n f).net = s.net ∧
    (s.modStore n f).faults = s.faults ∧ (s.modStore n f).core = s.core ∧ (s.modStore n f).pair = s.pair ∧
    (s.modStore n f).safety = s.safety ∧ (s.modStore n f).cal = s.cal ∧ (s.modStore n f).opt = s.opt ∧
    (s.modStore n f).image = s.image ∧ (s.modStore n f).boot = s.boot ∧ (s.modStore n f).ident = s.ident ∧
    (s.modStore n f).tap = s.tap ∧ (s.modStore n f).free = s.free ∧ (s.modStore n f).pending = s.pending := by
  and_intros <;> rfl

@[simp] theorem State.modLane_rest (s : State) (n : Nat) (f : Lane → Lane) :
    (s.modLane n f).time = s.time ∧ (s.modLane n f).rein = s.rein ∧ (s.modLane n f).acts = s.acts ∧
    (s.modLane n f).gaitSets = s.gaitSets ∧ (s.modLane n f).gaitLate = s.gaitLate ∧ (s.modLane n f).cfg = s.cfg ∧
    (s.modLane n f).status = s.status ∧ (s.modLane n f).counts = s.counts ∧ (s.modLane n f).evq = s.evq ∧
    (s.modLane n f).cmds = s.cmds ∧ (s.modLane n f).pdOn = s.pdOn ∧ (s.modLane n f).pdGood = s.pdGood ∧
    (s.modLane n f).switches = s.switches ∧ (s.modLane n f).closed = s.closed ∧ (s.modLane n f).chans = s.chans ∧
    (s.modLane n f).cells = s.cells ∧ (s.modLane n f).srcs = s.srcs ∧ (s.modLane n f).gaits = s.gaits ∧
    (s.modLane n f).trig = s.trig ∧ (s.modLane n f).hold = s.hold ∧ (s.modLane n f).stores = s.stores ∧
    (s.modLane n f).arc = s.arc ∧ (s.modLane n f).links = s.links ∧ (s.modLane n f).net = s.net ∧
    (s.modLane n f).faults = s.faults ∧ (s.modLane n f).core = s.core ∧ (s.modLane n f).pair = s.pair ∧
    (s.modLane n f).safety = s.safety ∧ (s.modLane n f).cal = s.cal ∧ (s.modLane n f).opt = s.opt ∧
    (s.modLane n f).image = s.image ∧ (s.modLane n f).boot = s.boot ∧ (s.modLane n f).ident = s.ident ∧
    (s.modLane n f).tap = s.tap ∧ (s.modLane n f).free = s.free ∧ (s.modLane n f).pending = s.pending := by
  and_intros <;> rfl

@[simp] theorem State.modLink_rest (s : State) (n : Nat) (f : Link → Link) :
    (s.modLink n f).time = s.time ∧ (s.modLink n f).rein = s.rein ∧ (s.modLink n f).acts = s.acts ∧
    (s.modLink n f).gaitSets = s.gaitSets ∧ (s.modLink n f).gaitLate = s.gaitLate ∧ (s.modLink n f).cfg = s.cfg ∧
    (s.modLink n f).status = s.status ∧ (s.modLink n f).counts = s.counts ∧ (s.modLink n f).evq = s.evq ∧
    (s.modLink n f).cmds = s.cmds ∧ (s.modLink n f).pdOn = s.pdOn ∧ (s.modLink n f).pdGood = s.pdGood ∧
    (s.modLink n f).switches = s.switches ∧ (s.modLink n f).closed = s.closed ∧ (s.modLink n f).chans = s.chans ∧
    (s.modLink n f).cells = s.cells ∧ (s.modLink n f).srcs = s.srcs ∧ (s.modLink n f).gaits = s.gaits ∧
    (s.modLink n f).trig = s.trig ∧ (s.modLink n f).hold = s.hold ∧ (s.modLink n f).stores = s.stores ∧
    (s.modLink n f).arc = s.arc ∧ (s.modLink n f).lanes = s.lanes ∧ (s.modLink n f).net = s.net ∧
    (s.modLink n f).faults = s.faults ∧ (s.modLink n f).core = s.core ∧ (s.modLink n f).pair = s.pair ∧
    (s.modLink n f).safety = s.safety ∧ (s.modLink n f).cal = s.cal ∧ (s.modLink n f).opt = s.opt ∧
    (s.modLink n f).image = s.image ∧ (s.modLink n f).boot = s.boot ∧ (s.modLink n f).ident = s.ident ∧
    (s.modLink n f).tap = s.tap ∧ (s.modLink n f).free = s.free ∧ (s.modLink n f).pending = s.pending := by
  and_intros <;> rfl

@[simp] theorem State.modFsrc_rest (s : State) (n : Nat) (f : FSrc → FSrc) :
    (s.modFsrc n f).time = s.time ∧ (s.modFsrc n f).rein = s.rein ∧ (s.modFsrc n f).acts = s.acts ∧
    (s.modFsrc n f).gaitSets = s.gaitSets ∧ (s.modFsrc n f).gaitLate = s.gaitLate ∧ (s.modFsrc n f).cfg = s.cfg ∧
    (s.modFsrc n f).status = s.status ∧ (s.modFsrc n f).counts = s.counts ∧ (s.modFsrc n f).evq = s.evq ∧
    (s.modFsrc n f).cmds = s.cmds ∧ (s.modFsrc n f).pdOn = s.pdOn ∧ (s.modFsrc n f).pdGood = s.pdGood ∧
    (s.modFsrc n f).switches = s.switches ∧ (s.modFsrc n f).closed = s.closed ∧ (s.modFsrc n f).chans = s.chans ∧
    (s.modFsrc n f).cells = s.cells ∧ (s.modFsrc n f).srcs = s.srcs ∧ (s.modFsrc n f).gaits = s.gaits ∧
    (s.modFsrc n f).trig = s.trig ∧ (s.modFsrc n f).hold = s.hold ∧ (s.modFsrc n f).stores = s.stores ∧
    (s.modFsrc n f).arc = s.arc ∧ (s.modFsrc n f).lanes = s.lanes ∧ (s.modFsrc n f).links = s.links ∧
    (s.modFsrc n f).net = s.net ∧ (s.modFsrc n f).core = s.core ∧ (s.modFsrc n f).pair = s.pair ∧
    (s.modFsrc n f).safety = s.safety ∧ (s.modFsrc n f).cal = s.cal ∧ (s.modFsrc n f).opt = s.opt ∧
    (s.modFsrc n f).image = s.image ∧ (s.modFsrc n f).boot = s.boot ∧ (s.modFsrc n f).ident = s.ident ∧
    (s.modFsrc n f).tap = s.tap ∧ (s.modFsrc n f).free = s.free ∧ (s.modFsrc n f).pending = s.pending := by
  and_intros <;> rfl

@[simp] theorem State.modAct_rest (s : State) (n : Nat) (f : Act → Act) :
    (s.modAct n f).time = s.time ∧ (s.modAct n f).rein = s.rein ∧ (s.modAct n f).gaitSets = s.gaitSets ∧
    (s.modAct n f).gaitLate = s.gaitLate ∧ (s.modAct n f).cfg = s.cfg ∧ (s.modAct n f).status = s.status ∧
    (s.modAct n f).counts = s.counts ∧ (s.modAct n f).evq = s.evq ∧ (s.modAct n f).cmds = s.cmds ∧
    (s.modAct n f).pdOn = s.pdOn ∧ (s.modAct n f).pdGood = s.pdGood ∧ (s.modAct n f).switches = s.switches ∧
    (s.modAct n f).closed = s.closed ∧ (s.modAct n f).chans = s.chans ∧ (s.modAct n f).cells = s.cells ∧
    (s.modAct n f).srcs = s.srcs ∧ (s.modAct n f).gaits = s.gaits ∧ (s.modAct n f).trig = s.trig ∧
    (s.modAct n f).hold = s.hold ∧ (s.modAct n f).stores = s.stores ∧ (s.modAct n f).arc = s.arc ∧
    (s.modAct n f).lanes = s.lanes ∧ (s.modAct n f).links = s.links ∧ (s.modAct n f).net = s.net ∧
    (s.modAct n f).faults = s.faults ∧ (s.modAct n f).core = s.core ∧ (s.modAct n f).pair = s.pair ∧
    (s.modAct n f).safety = s.safety ∧ (s.modAct n f).cal = s.cal ∧ (s.modAct n f).opt = s.opt ∧
    (s.modAct n f).image = s.image ∧ (s.modAct n f).boot = s.boot ∧ (s.modAct n f).ident = s.ident ∧
    (s.modAct n f).tap = s.tap ∧ (s.modAct n f).free = s.free ∧ (s.modAct n f).pending = s.pending := by
  and_intros <;> rfl

@[simp] theorem State.modLine_rest (s : State) (n : Nat) (f : ReinLine → ReinLine) :
    (s.modLine n f).time = s.time ∧ (s.modLine n f).acts = s.acts ∧ (s.modLine n f).gaitSets = s.gaitSets ∧
    (s.modLine n f).gaitLate = s.gaitLate ∧ (s.modLine n f).cfg = s.cfg ∧ (s.modLine n f).status = s.status ∧
    (s.modLine n f).counts = s.counts ∧ (s.modLine n f).evq = s.evq ∧ (s.modLine n f).cmds = s.cmds ∧
    (s.modLine n f).pdOn = s.pdOn ∧ (s.modLine n f).pdGood = s.pdGood ∧ (s.modLine n f).switches = s.switches ∧
    (s.modLine n f).closed = s.closed ∧ (s.modLine n f).chans = s.chans ∧ (s.modLine n f).cells = s.cells ∧
    (s.modLine n f).srcs = s.srcs ∧ (s.modLine n f).gaits = s.gaits ∧ (s.modLine n f).trig = s.trig ∧
    (s.modLine n f).hold = s.hold ∧ (s.modLine n f).stores = s.stores ∧ (s.modLine n f).arc = s.arc ∧
    (s.modLine n f).lanes = s.lanes ∧ (s.modLine n f).links = s.links ∧ (s.modLine n f).net = s.net ∧
    (s.modLine n f).faults = s.faults ∧ (s.modLine n f).core = s.core ∧ (s.modLine n f).pair = s.pair ∧
    (s.modLine n f).safety = s.safety ∧ (s.modLine n f).cal = s.cal ∧ (s.modLine n f).opt = s.opt ∧
    (s.modLine n f).image = s.image ∧ (s.modLine n f).boot = s.boot ∧ (s.modLine n f).ident = s.ident ∧
    (s.modLine n f).tap = s.tap ∧ (s.modLine n f).free = s.free ∧ (s.modLine n f).pending = s.pending := by
  and_intros <;> rfl

@[simp] theorem State.modSlot_rest (s : State) (n : Nat) (f : Slot → Slot) :
    (s.modSlot n f).time = s.time ∧ (s.modSlot n f).rein = s.rein ∧ (s.modSlot n f).acts = s.acts ∧
    (s.modSlot n f).gaitSets = s.gaitSets ∧ (s.modSlot n f).gaitLate = s.gaitLate ∧ (s.modSlot n f).cfg = s.cfg ∧
    (s.modSlot n f).status = s.status ∧ (s.modSlot n f).counts = s.counts ∧ (s.modSlot n f).evq = s.evq ∧
    (s.modSlot n f).cmds = s.cmds ∧ (s.modSlot n f).pdOn = s.pdOn ∧ (s.modSlot n f).pdGood = s.pdGood ∧
    (s.modSlot n f).switches = s.switches ∧ (s.modSlot n f).closed = s.closed ∧ (s.modSlot n f).chans = s.chans ∧
    (s.modSlot n f).cells = s.cells ∧ (s.modSlot n f).srcs = s.srcs ∧ (s.modSlot n f).gaits = s.gaits ∧
    (s.modSlot n f).hold = s.hold ∧ (s.modSlot n f).stores = s.stores ∧ (s.modSlot n f).arc = s.arc ∧
    (s.modSlot n f).lanes = s.lanes ∧ (s.modSlot n f).links = s.links ∧ (s.modSlot n f).net = s.net ∧
    (s.modSlot n f).faults = s.faults ∧ (s.modSlot n f).core = s.core ∧ (s.modSlot n f).pair = s.pair ∧
    (s.modSlot n f).safety = s.safety ∧ (s.modSlot n f).cal = s.cal ∧ (s.modSlot n f).opt = s.opt ∧
    (s.modSlot n f).image = s.image ∧ (s.modSlot n f).boot = s.boot ∧ (s.modSlot n f).ident = s.ident ∧
    (s.modSlot n f).tap = s.tap ∧ (s.modSlot n f).free = s.free ∧ (s.modSlot n f).pending = s.pending := by
  and_intros <;> rfl

@[simp] theorem State.modOs_rest (s : State) (n : Nat) (f : Os → Os) :
    (s.modOs n f).time = s.time ∧ (s.modOs n f).rein = s.rein ∧ (s.modOs n f).acts = s.acts ∧
    (s.modOs n f).gaitSets = s.gaitSets ∧ (s.modOs n f).gaitLate = s.gaitLate ∧ (s.modOs n f).cfg = s.cfg ∧
    (s.modOs n f).status = s.status ∧ (s.modOs n f).counts = s.counts ∧ (s.modOs n f).evq = s.evq ∧
    (s.modOs n f).cmds = s.cmds ∧ (s.modOs n f).pdOn = s.pdOn ∧ (s.modOs n f).pdGood = s.pdGood ∧
    (s.modOs n f).switches = s.switches ∧ (s.modOs n f).closed = s.closed ∧ (s.modOs n f).chans = s.chans ∧
    (s.modOs n f).cells = s.cells ∧ (s.modOs n f).srcs = s.srcs ∧ (s.modOs n f).gaits = s.gaits ∧
    (s.modOs n f).trig = s.trig ∧ (s.modOs n f).hold = s.hold ∧ (s.modOs n f).stores = s.stores ∧
    (s.modOs n f).arc = s.arc ∧ (s.modOs n f).lanes = s.lanes ∧ (s.modOs n f).links = s.links ∧
    (s.modOs n f).net = s.net ∧ (s.modOs n f).faults = s.faults ∧ (s.modOs n f).core = s.core ∧
    (s.modOs n f).pair = s.pair ∧ (s.modOs n f).safety = s.safety ∧ (s.modOs n f).cal = s.cal ∧
    (s.modOs n f).image = s.image ∧ (s.modOs n f).boot = s.boot ∧ (s.modOs n f).ident = s.ident ∧
    (s.modOs n f).tap = s.tap ∧ (s.modOs n f).free = s.free ∧ (s.modOs n f).pending = s.pending := by
  and_intros <;> rfl

@[simp] theorem State.setCfg_rest (s : State) (id v : Nat) :
    (s.setCfg id v).time = s.time ∧ (s.setCfg id v).rein = s.rein ∧ (s.setCfg id v).acts = s.acts ∧
    (s.setCfg id v).gaitSets = s.gaitSets ∧ (s.setCfg id v).gaitLate = s.gaitLate ∧
    (s.setCfg id v).status = s.status ∧ (s.setCfg id v).counts = s.counts ∧ (s.setCfg id v).evq = s.evq ∧
    (s.setCfg id v).cmds = s.cmds ∧ (s.setCfg id v).pdOn = s.pdOn ∧ (s.setCfg id v).pdGood = s.pdGood ∧
    (s.setCfg id v).switches = s.switches ∧ (s.setCfg id v).closed = s.closed ∧ (s.setCfg id v).chans = s.chans ∧
    (s.setCfg id v).cells = s.cells ∧ (s.setCfg id v).srcs = s.srcs ∧ (s.setCfg id v).gaits = s.gaits ∧
    (s.setCfg id v).trig = s.trig ∧ (s.setCfg id v).hold = s.hold ∧ (s.setCfg id v).stores = s.stores ∧
    (s.setCfg id v).arc = s.arc ∧ (s.setCfg id v).lanes = s.lanes ∧ (s.setCfg id v).links = s.links ∧
    (s.setCfg id v).net = s.net ∧ (s.setCfg id v).faults = s.faults ∧ (s.setCfg id v).core = s.core ∧
    (s.setCfg id v).pair = s.pair ∧ (s.setCfg id v).safety = s.safety ∧ (s.setCfg id v).cal = s.cal ∧
    (s.setCfg id v).opt = s.opt ∧ (s.setCfg id v).image = s.image ∧ (s.setCfg id v).boot = s.boot ∧
    (s.setCfg id v).ident = s.ident ∧ (s.setCfg id v).tap = s.tap ∧ (s.setCfg id v).free = s.free ∧
    (s.setCfg id v).pending = s.pending := by
  and_intros <;> rfl

@[simp] theorem State.setStat_rest (s : State) (id v : Nat) :
    (s.setStat id v).time = s.time ∧ (s.setStat id v).rein = s.rein ∧ (s.setStat id v).acts = s.acts ∧
    (s.setStat id v).gaitSets = s.gaitSets ∧ (s.setStat id v).gaitLate = s.gaitLate ∧ (s.setStat id v).cfg = s.cfg ∧
    (s.setStat id v).counts = s.counts ∧ (s.setStat id v).evq = s.evq ∧ (s.setStat id v).cmds = s.cmds ∧
    (s.setStat id v).pdOn = s.pdOn ∧ (s.setStat id v).pdGood = s.pdGood ∧ (s.setStat id v).switches = s.switches ∧
    (s.setStat id v).closed = s.closed ∧ (s.setStat id v).chans = s.chans ∧ (s.setStat id v).cells = s.cells ∧
    (s.setStat id v).srcs = s.srcs ∧ (s.setStat id v).gaits = s.gaits ∧ (s.setStat id v).trig = s.trig ∧
    (s.setStat id v).hold = s.hold ∧ (s.setStat id v).stores = s.stores ∧ (s.setStat id v).arc = s.arc ∧
    (s.setStat id v).lanes = s.lanes ∧ (s.setStat id v).links = s.links ∧ (s.setStat id v).net = s.net ∧
    (s.setStat id v).faults = s.faults ∧ (s.setStat id v).core = s.core ∧ (s.setStat id v).pair = s.pair ∧
    (s.setStat id v).safety = s.safety ∧ (s.setStat id v).cal = s.cal ∧ (s.setStat id v).opt = s.opt ∧
    (s.setStat id v).image = s.image ∧ (s.setStat id v).boot = s.boot ∧ (s.setStat id v).ident = s.ident ∧
    (s.setStat id v).tap = s.tap ∧ (s.setStat id v).free = s.free ∧ (s.setStat id v).pending = s.pending := by
  and_intros <;> rfl

@[simp] theorem State.setCount_rest (s : State) (id lo v : Nat) :
    (s.setCount id lo v).time = s.time ∧ (s.setCount id lo v).rein = s.rein ∧ (s.setCount id lo v).acts = s.acts ∧
    (s.setCount id lo v).gaitSets = s.gaitSets ∧ (s.setCount id lo v).gaitLate = s.gaitLate ∧
    (s.setCount id lo v).cfg = s.cfg ∧ (s.setCount id lo v).status = s.status ∧ (s.setCount id lo v).evq = s.evq ∧
    (s.setCount id lo v).cmds = s.cmds ∧ (s.setCount id lo v).pdOn = s.pdOn ∧
    (s.setCount id lo v).pdGood = s.pdGood ∧ (s.setCount id lo v).switches = s.switches ∧
    (s.setCount id lo v).closed = s.closed ∧ (s.setCount id lo v).chans = s.chans ∧
    (s.setCount id lo v).cells = s.cells ∧ (s.setCount id lo v).srcs = s.srcs ∧
    (s.setCount id lo v).gaits = s.gaits ∧ (s.setCount id lo v).trig = s.trig ∧ (s.setCount id lo v).hold = s.hold ∧
    (s.setCount id lo v).stores = s.stores ∧ (s.setCount id lo v).arc = s.arc ∧
    (s.setCount id lo v).lanes = s.lanes ∧ (s.setCount id lo v).links = s.links ∧ (s.setCount id lo v).net = s.net ∧
    (s.setCount id lo v).faults = s.faults ∧ (s.setCount id lo v).core = s.core ∧
    (s.setCount id lo v).pair = s.pair ∧ (s.setCount id lo v).safety = s.safety ∧ (s.setCount id lo v).cal = s.cal ∧
    (s.setCount id lo v).opt = s.opt ∧ (s.setCount id lo v).image = s.image ∧ (s.setCount id lo v).boot = s.boot ∧
    (s.setCount id lo v).ident = s.ident ∧ (s.setCount id lo v).tap = s.tap ∧ (s.setCount id lo v).free = s.free ∧
    (s.setCount id lo v).pending = s.pending := by
  and_intros <;> rfl

@[simp] theorem State.updWm_rest (s : State) :
    (s.updWm).time = s.time ∧ (s.updWm).rein = s.rein ∧ (s.updWm).acts = s.acts ∧ (s.updWm).gaitSets = s.gaitSets ∧
    (s.updWm).gaitLate = s.gaitLate ∧ (s.updWm).cfg = s.cfg ∧ (s.updWm).status = s.status ∧
    (s.updWm).counts = s.counts ∧ (s.updWm).cmds = s.cmds ∧ (s.updWm).pdOn = s.pdOn ∧ (s.updWm).pdGood = s.pdGood ∧
    (s.updWm).switches = s.switches ∧ (s.updWm).closed = s.closed ∧ (s.updWm).chans = s.chans ∧
    (s.updWm).cells = s.cells ∧ (s.updWm).srcs = s.srcs ∧ (s.updWm).gaits = s.gaits ∧ (s.updWm).trig = s.trig ∧
    (s.updWm).hold = s.hold ∧ (s.updWm).stores = s.stores ∧ (s.updWm).arc = s.arc ∧ (s.updWm).lanes = s.lanes ∧
    (s.updWm).links = s.links ∧ (s.updWm).net = s.net ∧ (s.updWm).faults = s.faults ∧ (s.updWm).core = s.core ∧
    (s.updWm).pair = s.pair ∧ (s.updWm).safety = s.safety ∧ (s.updWm).cal = s.cal ∧ (s.updWm).opt = s.opt ∧
    (s.updWm).image = s.image ∧ (s.updWm).boot = s.boot ∧ (s.updWm).ident = s.ident ∧ (s.updWm).tap = s.tap ∧
    (s.updWm).free = s.free ∧ (s.updWm).pending = s.pending := by
  and_intros <;> rfl

@[simp] theorem State.shift_rest (s : State) (b : List Byte) :
    (s.shift b).time = s.time ∧ (s.shift b).rein = s.rein ∧ (s.shift b).acts = s.acts ∧
    (s.shift b).gaitSets = s.gaitSets ∧ (s.shift b).gaitLate = s.gaitLate ∧ (s.shift b).cfg = s.cfg ∧
    (s.shift b).status = s.status ∧ (s.shift b).counts = s.counts ∧ (s.shift b).evq = s.evq ∧
    (s.shift b).pdOn = s.pdOn ∧ (s.shift b).pdGood = s.pdGood ∧ (s.shift b).switches = s.switches ∧
    (s.shift b).closed = s.closed ∧ (s.shift b).chans = s.chans ∧ (s.shift b).cells = s.cells ∧
    (s.shift b).srcs = s.srcs ∧ (s.shift b).gaits = s.gaits ∧ (s.shift b).trig = s.trig ∧
    (s.shift b).hold = s.hold ∧ (s.shift b).stores = s.stores ∧ (s.shift b).arc = s.arc ∧
    (s.shift b).lanes = s.lanes ∧ (s.shift b).links = s.links ∧ (s.shift b).net = s.net ∧
    (s.shift b).faults = s.faults ∧ (s.shift b).core = s.core ∧ (s.shift b).pair = s.pair ∧
    (s.shift b).safety = s.safety ∧ (s.shift b).cal = s.cal ∧ (s.shift b).opt = s.opt ∧
    (s.shift b).image = s.image ∧ (s.shift b).boot = s.boot ∧ (s.shift b).ident = s.ident ∧
    (s.shift b).tap = s.tap ∧ (s.shift b).free = s.free ∧ (s.shift b).pending = s.pending := by
  and_intros <;> rfl

@[simp] theorem State.setLast_rest (s : State) (n : Nat) :
    (s.setLast n).time = s.time ∧ (s.setLast n).rein = s.rein ∧ (s.setLast n).acts = s.acts ∧
    (s.setLast n).gaitSets = s.gaitSets ∧ (s.setLast n).gaitLate = s.gaitLate ∧ (s.setLast n).cfg = s.cfg ∧
    (s.setLast n).status = s.status ∧ (s.setLast n).counts = s.counts ∧ (s.setLast n).evq = s.evq ∧
    (s.setLast n).pdOn = s.pdOn ∧ (s.setLast n).pdGood = s.pdGood ∧ (s.setLast n).switches = s.switches ∧
    (s.setLast n).closed = s.closed ∧ (s.setLast n).chans = s.chans ∧ (s.setLast n).cells = s.cells ∧
    (s.setLast n).srcs = s.srcs ∧ (s.setLast n).gaits = s.gaits ∧ (s.setLast n).trig = s.trig ∧
    (s.setLast n).hold = s.hold ∧ (s.setLast n).stores = s.stores ∧ (s.setLast n).arc = s.arc ∧
    (s.setLast n).lanes = s.lanes ∧ (s.setLast n).links = s.links ∧ (s.setLast n).net = s.net ∧
    (s.setLast n).faults = s.faults ∧ (s.setLast n).core = s.core ∧ (s.setLast n).pair = s.pair ∧
    (s.setLast n).safety = s.safety ∧ (s.setLast n).cal = s.cal ∧ (s.setLast n).opt = s.opt ∧
    (s.setLast n).image = s.image ∧ (s.setLast n).boot = s.boot ∧ (s.setLast n).ident = s.ident ∧
    (s.setLast n).tap = s.tap ∧ (s.setLast n).free = s.free ∧ (s.setLast n).pending = s.pending := by
  and_intros <;> rfl

@[simp] theorem State.modTime_rest (s : State) (f : Time → Time) :
    (s.modTime f).rein = s.rein ∧ (s.modTime f).acts = s.acts ∧ (s.modTime f).gaitSets = s.gaitSets ∧
    (s.modTime f).gaitLate = s.gaitLate ∧ (s.modTime f).cfg = s.cfg ∧ (s.modTime f).status = s.status ∧
    (s.modTime f).counts = s.counts ∧ (s.modTime f).evq = s.evq ∧ (s.modTime f).cmds = s.cmds ∧
    (s.modTime f).pdOn = s.pdOn ∧ (s.modTime f).pdGood = s.pdGood ∧ (s.modTime f).switches = s.switches ∧
    (s.modTime f).closed = s.closed ∧ (s.modTime f).chans = s.chans ∧ (s.modTime f).cells = s.cells ∧
    (s.modTime f).srcs = s.srcs ∧ (s.modTime f).gaits = s.gaits ∧ (s.modTime f).trig = s.trig ∧
    (s.modTime f).hold = s.hold ∧ (s.modTime f).stores = s.stores ∧ (s.modTime f).arc = s.arc ∧
    (s.modTime f).lanes = s.lanes ∧ (s.modTime f).links = s.links ∧ (s.modTime f).net = s.net ∧
    (s.modTime f).faults = s.faults ∧ (s.modTime f).core = s.core ∧ (s.modTime f).pair = s.pair ∧
    (s.modTime f).safety = s.safety ∧ (s.modTime f).cal = s.cal ∧ (s.modTime f).opt = s.opt ∧
    (s.modTime f).image = s.image ∧ (s.modTime f).boot = s.boot ∧ (s.modTime f).ident = s.ident ∧
    (s.modTime f).tap = s.tap ∧ (s.modTime f).free = s.free ∧ (s.modTime f).pending = s.pending := by
  and_intros <;> rfl

@[simp] theorem State.modImage_rest (s : State) (f : Image → Image) :
    (s.modImage f).time = s.time ∧ (s.modImage f).rein = s.rein ∧ (s.modImage f).acts = s.acts ∧
    (s.modImage f).gaitSets = s.gaitSets ∧ (s.modImage f).gaitLate = s.gaitLate ∧ (s.modImage f).cfg = s.cfg ∧
    (s.modImage f).status = s.status ∧ (s.modImage f).counts = s.counts ∧ (s.modImage f).evq = s.evq ∧
    (s.modImage f).cmds = s.cmds ∧ (s.modImage f).pdOn = s.pdOn ∧ (s.modImage f).pdGood = s.pdGood ∧
    (s.modImage f).switches = s.switches ∧ (s.modImage f).closed = s.closed ∧ (s.modImage f).chans = s.chans ∧
    (s.modImage f).cells = s.cells ∧ (s.modImage f).srcs = s.srcs ∧ (s.modImage f).gaits = s.gaits ∧
    (s.modImage f).trig = s.trig ∧ (s.modImage f).hold = s.hold ∧ (s.modImage f).stores = s.stores ∧
    (s.modImage f).arc = s.arc ∧ (s.modImage f).lanes = s.lanes ∧ (s.modImage f).links = s.links ∧
    (s.modImage f).net = s.net ∧ (s.modImage f).faults = s.faults ∧ (s.modImage f).core = s.core ∧
    (s.modImage f).pair = s.pair ∧ (s.modImage f).safety = s.safety ∧ (s.modImage f).cal = s.cal ∧
    (s.modImage f).opt = s.opt ∧ (s.modImage f).boot = s.boot ∧ (s.modImage f).ident = s.ident ∧
    (s.modImage f).tap = s.tap ∧ (s.modImage f).free = s.free ∧ (s.modImage f).pending = s.pending := by
  and_intros <;> rfl

@[simp] theorem State.modBoot_rest (s : State) (f : Boot → Boot) :
    (s.modBoot f).time = s.time ∧ (s.modBoot f).rein = s.rein ∧ (s.modBoot f).acts = s.acts ∧
    (s.modBoot f).gaitSets = s.gaitSets ∧ (s.modBoot f).gaitLate = s.gaitLate ∧ (s.modBoot f).cfg = s.cfg ∧
    (s.modBoot f).status = s.status ∧ (s.modBoot f).counts = s.counts ∧ (s.modBoot f).evq = s.evq ∧
    (s.modBoot f).cmds = s.cmds ∧ (s.modBoot f).pdOn = s.pdOn ∧ (s.modBoot f).pdGood = s.pdGood ∧
    (s.modBoot f).switches = s.switches ∧ (s.modBoot f).closed = s.closed ∧ (s.modBoot f).chans = s.chans ∧
    (s.modBoot f).cells = s.cells ∧ (s.modBoot f).srcs = s.srcs ∧ (s.modBoot f).gaits = s.gaits ∧
    (s.modBoot f).trig = s.trig ∧ (s.modBoot f).hold = s.hold ∧ (s.modBoot f).stores = s.stores ∧
    (s.modBoot f).arc = s.arc ∧ (s.modBoot f).lanes = s.lanes ∧ (s.modBoot f).links = s.links ∧
    (s.modBoot f).net = s.net ∧ (s.modBoot f).faults = s.faults ∧ (s.modBoot f).core = s.core ∧
    (s.modBoot f).pair = s.pair ∧ (s.modBoot f).safety = s.safety ∧ (s.modBoot f).cal = s.cal ∧
    (s.modBoot f).opt = s.opt ∧ (s.modBoot f).image = s.image ∧ (s.modBoot f).ident = s.ident ∧
    (s.modBoot f).tap = s.tap ∧ (s.modBoot f).free = s.free ∧ (s.modBoot f).pending = s.pending := by
  and_intros <;> rfl

@[simp] theorem State.modTap_rest (s : State) (f : Tap → Tap) :
    (s.modTap f).time = s.time ∧ (s.modTap f).rein = s.rein ∧ (s.modTap f).acts = s.acts ∧
    (s.modTap f).gaitSets = s.gaitSets ∧ (s.modTap f).gaitLate = s.gaitLate ∧ (s.modTap f).cfg = s.cfg ∧
    (s.modTap f).status = s.status ∧ (s.modTap f).counts = s.counts ∧ (s.modTap f).evq = s.evq ∧
    (s.modTap f).cmds = s.cmds ∧ (s.modTap f).pdOn = s.pdOn ∧ (s.modTap f).pdGood = s.pdGood ∧
    (s.modTap f).switches = s.switches ∧ (s.modTap f).closed = s.closed ∧ (s.modTap f).chans = s.chans ∧
    (s.modTap f).cells = s.cells ∧ (s.modTap f).srcs = s.srcs ∧ (s.modTap f).gaits = s.gaits ∧
    (s.modTap f).trig = s.trig ∧ (s.modTap f).hold = s.hold ∧ (s.modTap f).stores = s.stores ∧
    (s.modTap f).arc = s.arc ∧ (s.modTap f).lanes = s.lanes ∧ (s.modTap f).links = s.links ∧
    (s.modTap f).net = s.net ∧ (s.modTap f).faults = s.faults ∧ (s.modTap f).core = s.core ∧
    (s.modTap f).pair = s.pair ∧ (s.modTap f).safety = s.safety ∧ (s.modTap f).cal = s.cal ∧
    (s.modTap f).opt = s.opt ∧ (s.modTap f).image = s.image ∧ (s.modTap f).boot = s.boot ∧
    (s.modTap f).ident = s.ident ∧ (s.modTap f).free = s.free ∧ (s.modTap f).pending = s.pending := by
  and_intros <;> rfl

@[simp] theorem State.modCore_rest (s : State) (f : Core → Core) :
    (s.modCore f).time = s.time ∧ (s.modCore f).rein = s.rein ∧ (s.modCore f).acts = s.acts ∧
    (s.modCore f).gaitSets = s.gaitSets ∧ (s.modCore f).gaitLate = s.gaitLate ∧ (s.modCore f).cfg = s.cfg ∧
    (s.modCore f).status = s.status ∧ (s.modCore f).counts = s.counts ∧ (s.modCore f).evq = s.evq ∧
    (s.modCore f).cmds = s.cmds ∧ (s.modCore f).pdOn = s.pdOn ∧ (s.modCore f).pdGood = s.pdGood ∧
    (s.modCore f).switches = s.switches ∧ (s.modCore f).closed = s.closed ∧ (s.modCore f).chans = s.chans ∧
    (s.modCore f).cells = s.cells ∧ (s.modCore f).srcs = s.srcs ∧ (s.modCore f).gaits = s.gaits ∧
    (s.modCore f).trig = s.trig ∧ (s.modCore f).hold = s.hold ∧ (s.modCore f).stores = s.stores ∧
    (s.modCore f).arc = s.arc ∧ (s.modCore f).lanes = s.lanes ∧ (s.modCore f).links = s.links ∧
    (s.modCore f).net = s.net ∧ (s.modCore f).faults = s.faults ∧ (s.modCore f).pair = s.pair ∧
    (s.modCore f).safety = s.safety ∧ (s.modCore f).cal = s.cal ∧ (s.modCore f).opt = s.opt ∧
    (s.modCore f).image = s.image ∧ (s.modCore f).boot = s.boot ∧ (s.modCore f).ident = s.ident ∧
    (s.modCore f).tap = s.tap ∧ (s.modCore f).free = s.free ∧ (s.modCore f).pending = s.pending := by
  and_intros <;> rfl

@[simp] theorem State.modHub2_rest (s : State) (f : Pair → Pair) :
    (s.modHub2 f).time = s.time ∧ (s.modHub2 f).rein = s.rein ∧ (s.modHub2 f).acts = s.acts ∧
    (s.modHub2 f).gaitSets = s.gaitSets ∧ (s.modHub2 f).gaitLate = s.gaitLate ∧ (s.modHub2 f).cfg = s.cfg ∧
    (s.modHub2 f).status = s.status ∧ (s.modHub2 f).counts = s.counts ∧ (s.modHub2 f).evq = s.evq ∧
    (s.modHub2 f).cmds = s.cmds ∧ (s.modHub2 f).pdOn = s.pdOn ∧ (s.modHub2 f).pdGood = s.pdGood ∧
    (s.modHub2 f).switches = s.switches ∧ (s.modHub2 f).closed = s.closed ∧ (s.modHub2 f).chans = s.chans ∧
    (s.modHub2 f).cells = s.cells ∧ (s.modHub2 f).srcs = s.srcs ∧ (s.modHub2 f).gaits = s.gaits ∧
    (s.modHub2 f).trig = s.trig ∧ (s.modHub2 f).hold = s.hold ∧ (s.modHub2 f).stores = s.stores ∧
    (s.modHub2 f).arc = s.arc ∧ (s.modHub2 f).lanes = s.lanes ∧ (s.modHub2 f).links = s.links ∧
    (s.modHub2 f).net = s.net ∧ (s.modHub2 f).faults = s.faults ∧ (s.modHub2 f).core = s.core ∧
    (s.modHub2 f).safety = s.safety ∧ (s.modHub2 f).cal = s.cal ∧ (s.modHub2 f).opt = s.opt ∧
    (s.modHub2 f).image = s.image ∧ (s.modHub2 f).boot = s.boot ∧ (s.modHub2 f).ident = s.ident ∧
    (s.modHub2 f).tap = s.tap ∧ (s.modHub2 f).free = s.free ∧ (s.modHub2 f).pending = s.pending := by
  and_intros <;> rfl

@[simp] theorem State.modSi_rest (s : State) (n : Nat) (f : Si → Si) :
    (s.modSi n f).time = s.time ∧ (s.modSi n f).rein = s.rein ∧ (s.modSi n f).acts = s.acts ∧
    (s.modSi n f).gaitSets = s.gaitSets ∧ (s.modSi n f).gaitLate = s.gaitLate ∧ (s.modSi n f).cfg = s.cfg ∧
    (s.modSi n f).status = s.status ∧ (s.modSi n f).counts = s.counts ∧ (s.modSi n f).evq = s.evq ∧
    (s.modSi n f).cmds = s.cmds ∧ (s.modSi n f).pdOn = s.pdOn ∧ (s.modSi n f).pdGood = s.pdGood ∧
    (s.modSi n f).switches = s.switches ∧ (s.modSi n f).closed = s.closed ∧ (s.modSi n f).chans = s.chans ∧
    (s.modSi n f).cells = s.cells ∧ (s.modSi n f).srcs = s.srcs ∧ (s.modSi n f).gaits = s.gaits ∧
    (s.modSi n f).trig = s.trig ∧ (s.modSi n f).hold = s.hold ∧ (s.modSi n f).stores = s.stores ∧
    (s.modSi n f).arc = s.arc ∧ (s.modSi n f).lanes = s.lanes ∧ (s.modSi n f).links = s.links ∧
    (s.modSi n f).net = s.net ∧ (s.modSi n f).faults = s.faults ∧ (s.modSi n f).core = s.core ∧
    (s.modSi n f).pair = s.pair ∧ (s.modSi n f).cal = s.cal ∧ (s.modSi n f).opt = s.opt ∧
    (s.modSi n f).image = s.image ∧ (s.modSi n f).boot = s.boot ∧ (s.modSi n f).ident = s.ident ∧
    (s.modSi n f).tap = s.tap ∧ (s.modSi n f).free = s.free ∧ (s.modSi n f).pending = s.pending := by
  and_intros <;> rfl

@[simp] theorem State.modNsl_rest (s : State) (n : Nat) (f : Nsl → Nsl) :
    (s.modNsl n f).time = s.time ∧ (s.modNsl n f).rein = s.rein ∧ (s.modNsl n f).acts = s.acts ∧
    (s.modNsl n f).gaitSets = s.gaitSets ∧ (s.modNsl n f).gaitLate = s.gaitLate ∧ (s.modNsl n f).cfg = s.cfg ∧
    (s.modNsl n f).status = s.status ∧ (s.modNsl n f).counts = s.counts ∧ (s.modNsl n f).evq = s.evq ∧
    (s.modNsl n f).cmds = s.cmds ∧ (s.modNsl n f).pdOn = s.pdOn ∧ (s.modNsl n f).pdGood = s.pdGood ∧
    (s.modNsl n f).switches = s.switches ∧ (s.modNsl n f).closed = s.closed ∧ (s.modNsl n f).chans = s.chans ∧
    (s.modNsl n f).cells = s.cells ∧ (s.modNsl n f).srcs = s.srcs ∧ (s.modNsl n f).gaits = s.gaits ∧
    (s.modNsl n f).trig = s.trig ∧ (s.modNsl n f).hold = s.hold ∧ (s.modNsl n f).stores = s.stores ∧
    (s.modNsl n f).arc = s.arc ∧ (s.modNsl n f).lanes = s.lanes ∧ (s.modNsl n f).links = s.links ∧
    (s.modNsl n f).net = s.net ∧ (s.modNsl n f).faults = s.faults ∧ (s.modNsl n f).core = s.core ∧
    (s.modNsl n f).pair = s.pair ∧ (s.modNsl n f).cal = s.cal ∧ (s.modNsl n f).opt = s.opt ∧
    (s.modNsl n f).image = s.image ∧ (s.modNsl n f).boot = s.boot ∧ (s.modNsl n f).ident = s.ident ∧
    (s.modNsl n f).tap = s.tap ∧ (s.modNsl n f).free = s.free ∧ (s.modNsl n f).pending = s.pending := by
  and_intros <;> rfl

@[simp] theorem State.modSo_rest (s : State) (n : Nat) (f : So → So) :
    (s.modSo n f).time = s.time ∧ (s.modSo n f).rein = s.rein ∧ (s.modSo n f).acts = s.acts ∧
    (s.modSo n f).gaitSets = s.gaitSets ∧ (s.modSo n f).gaitLate = s.gaitLate ∧ (s.modSo n f).cfg = s.cfg ∧
    (s.modSo n f).status = s.status ∧ (s.modSo n f).counts = s.counts ∧ (s.modSo n f).evq = s.evq ∧
    (s.modSo n f).cmds = s.cmds ∧ (s.modSo n f).pdOn = s.pdOn ∧ (s.modSo n f).pdGood = s.pdGood ∧
    (s.modSo n f).switches = s.switches ∧ (s.modSo n f).closed = s.closed ∧ (s.modSo n f).chans = s.chans ∧
    (s.modSo n f).cells = s.cells ∧ (s.modSo n f).srcs = s.srcs ∧ (s.modSo n f).gaits = s.gaits ∧
    (s.modSo n f).trig = s.trig ∧ (s.modSo n f).hold = s.hold ∧ (s.modSo n f).stores = s.stores ∧
    (s.modSo n f).arc = s.arc ∧ (s.modSo n f).lanes = s.lanes ∧ (s.modSo n f).links = s.links ∧
    (s.modSo n f).net = s.net ∧ (s.modSo n f).faults = s.faults ∧ (s.modSo n f).core = s.core ∧
    (s.modSo n f).pair = s.pair ∧ (s.modSo n f).cal = s.cal ∧ (s.modSo n f).opt = s.opt ∧
    (s.modSo n f).image = s.image ∧ (s.modSo n f).boot = s.boot ∧ (s.modSo n f).ident = s.ident ∧
    (s.modSo n f).tap = s.tap ∧ (s.modSo n f).free = s.free ∧ (s.modSo n f).pending = s.pending := by
  unfold State.modSo State.setSo
  split <;> and_intros <;> rfl

theorem State.chan_modChan (s : State) (n : Nat) (f : Chan → Chan) (h : twf {} s.chans = true) :
    (s.modChan n f).chan n = f (s.chan n) := tget_tmod_same _ _ n f h

theorem State.chan_modChan_other (s : State) (n m : Nat) (f : Chan → Chan) (h : m ≠ n) : (s.modChan n f).chan m = s.chan m :=
  tget_tmod_other _ _ n m f h

theorem State.cell_modCell (s : State) (n : Nat) (f : Cell → Cell) (h : twf {} s.cells = true) :
    (s.modCell n f).cell n = f (s.cell n) := tget_tmod_same _ _ n f h

theorem State.cell_modCell_other (s : State) (n m : Nat) (f : Cell → Cell) (h : m ≠ n) : (s.modCell n f).cell m = s.cell m :=
  tget_tmod_other _ _ n m f h

theorem State.src_modSrc (s : State) (n : Nat) (f : Src → Src) (h : twf {} s.srcs = true) :
    (s.modSrc n f).src n = f (s.src n) := tget_tmod_same _ _ n f h

theorem State.src_modSrc_other (s : State) (n m : Nat) (f : Src → Src) (h : m ≠ n) : (s.modSrc n f).src m = s.src m :=
  tget_tmod_other _ _ n m f h

theorem State.gait_modGait (s : State) (n : Nat) (f : GaitSt → GaitSt) (h : twf {} s.gaits = true) :
    (s.modGait n f).gait n = f (s.gait n) := tget_tmod_same _ _ n f h

theorem State.gait_modGait_other (s : State) (n m : Nat) (f : GaitSt → GaitSt) (h : m ≠ n) : (s.modGait n f).gait m = s.gait m :=
  tget_tmod_other _ _ n m f h

theorem State.store_modStore (s : State) (n : Nat) (f : St → St) (h : twf {} s.stores = true) :
    (s.modStore n f).store n = f (s.store n) := tget_tmod_same _ _ n f h

theorem State.store_modStore_other (s : State) (n m : Nat) (f : St → St) (h : m ≠ n) : (s.modStore n f).store m = s.store m :=
  tget_tmod_other _ _ n m f h

theorem State.lane_modLane (s : State) (n : Nat) (f : Lane → Lane) (h : twf {} s.lanes = true) :
    (s.modLane n f).lane n = f (s.lane n) := tget_tmod_same _ _ n f h

theorem State.lane_modLane_other (s : State) (n m : Nat) (f : Lane → Lane) (h : m ≠ n) : (s.modLane n f).lane m = s.lane m :=
  tget_tmod_other _ _ n m f h

theorem State.link_modLink (s : State) (n : Nat) (f : Link → Link) (h : twf {} s.links = true) :
    (s.modLink n f).link n = f (s.link n) := tget_tmod_same _ _ n f h

theorem State.link_modLink_other (s : State) (n m : Nat) (f : Link → Link) (h : m ≠ n) : (s.modLink n f).link m = s.link m :=
  tget_tmod_other _ _ n m f h

theorem State.fsrc_modFsrc (s : State) (n : Nat) (f : FSrc → FSrc) (h : twf {} s.faults.srcs = true) :
    (s.modFsrc n f).fsrc n = f (s.fsrc n) := tget_tmod_same _ _ n f h

theorem State.fsrc_modFsrc_other (s : State) (n m : Nat) (f : FSrc → FSrc) (h : m ≠ n) : (s.modFsrc n f).fsrc m = s.fsrc m :=
  tget_tmod_other _ _ n m f h

theorem State.act_modAct (s : State) (n : Nat) (f : Act → Act) (h : twf {} s.acts = true) :
    (s.modAct n f).act n = f (s.act n) := tget_tmod_same _ _ n f h

theorem State.act_modAct_other (s : State) (n m : Nat) (f : Act → Act) (h : m ≠ n) : (s.modAct n f).act m = s.act m :=
  tget_tmod_other _ _ n m f h

theorem State.line_modLine (s : State) (n : Nat) (f : ReinLine → ReinLine) (h : twf {} s.rein = true) :
    (s.modLine n f).line n = f (s.line n) := tget_tmod_same _ _ n f h

theorem State.line_modLine_other (s : State) (n m : Nat) (f : ReinLine → ReinLine) (h : m ≠ n) : (s.modLine n f).line m = s.line m :=
  tget_tmod_other _ _ n m f h

theorem State.slot_modSlot (s : State) (n : Nat) (f : Slot → Slot) (h : twf {} s.trig.slots = true) :
    (s.modSlot n f).slot n = f (s.slot n) := tget_tmod_same _ _ n f h

theorem State.slot_modSlot_other (s : State) (n m : Nat) (f : Slot → Slot) (h : m ≠ n) : (s.modSlot n f).slot m = s.slot m :=
  tget_tmod_other _ _ n m f h

theorem State.os_modOs (s : State) (n : Nat) (f : Os → Os) (h : twf {} s.opt.srcs = true) :
    (s.modOs n f).os n = (f (tget {} s.opt.srcs n)).at s.now := congrArg (Os.at · s.now) (tget_tmod_same _ _ n f h)

theorem State.os_modOs_other (s : State) (n m : Nat) (f : Os → Os) (h : m ≠ n) : (s.modOs n f).os m = s.os m :=
  congrArg (Os.at · s.now) (tget_tmod_other _ _ n m f h)

end Sys2Proof.Machine
end

