-- ==== Sys2Proof/WellFormed.lean ====
section
/-! DEFINITION. When a command is one that can reach the hub: its instant fits 64 bits, its header and fields fit their
places, and an event names units the hub has. -/

namespace Sys2Proof

/-- A number of n bits. -/
def fits (n x : Nat) : Bool := decide (x < 2 ^ n)

/-- A number of one of k units. -/
def unit (k n : Nat) : Bool := decide (n < k)

/-- A WCP header (R343): one of seven ports of entry, and fields of their widths. -/
def hdrOk (h : Hdr) : Bool :=
  unit 7 h.port && fits 10 h.source && fits 16 h.tag && fits 16 h.stream && fits 3 h.prio && fits 8 h.ver

/-- A channel, or 0x1FF for open and trailer blocks (R227). -/
def blockChannel (ch : Nat) : Bool := unit 384 ch || ch == 0x1FF

/-- The unit that a crossing of a kind is numbered by (R23). -/
def crossingOk (x : Crossing) (u : Nat) : Bool :=
  match x with
  | .cellHold => unit 48 u
  | .cellTrigger => unit 48 u
  | .cfgCell => unit 48 u
  | .holdLane => unit 6 u
  | .holdStorage => unit 2 u
  | .laneCore => unit 6 u
  | .hostCore => unit 2 u
  | .cellSafety => unit 48 u

/-- An object of calibration (R280). -/
def calObjOk (o : CalObj) : Bool :=
  match o with
  | .conv c k => unit 48 c && unit 9 k
  | .source n => unit 192 n
  | .amp c q => unit 48 c && unit 2 q

/-- A supply rail (R602). -/
def railOk (r : Rail) : Bool :=
  match r with
  | .avdd q => unit 4 q
  | .vddaon => true
  | .vioaon => true
  | .vddc => true
  | .vddl => true
  | .vddla => true
  | .vio18 => true

/-- A HELLO (R474). -/
def helloOk (m : Hello) : Bool :=
  fits 64 m.eui && fits 10 m.id && fits 2 m.target && fits 8 m.kind && fits 3 m.port && fits 16 m.lead && fits 8 m.prio
    && fits 8 m.cls && fits 8 m.island && fits 8 m.hops && fits 16 m.c2 && fits 16 m.c3 && m.countdown.all (fits 3)

/-- A Borku frame (R468). -/
def frameOk (f : Frame) : Bool :=
  fits 8 f.typ && fits 3 f.cls && fits 10 f.dest && fits 10 f.src && fits 16 f.seq && fits 10 f.hops
    && decide (f.payload.length ≤ 4096)

/-- A network trigger message (R221). -/
def netTrigOk (m : NetTrig) : Bool :=
  fits 16 m.ncode && fits 10 m.hub && fits 16 m.epoch && fits 2 m.state && fits 8 m.island && fits 32 m.number
    && fits 32 m.pre && fits 64 m.trig && fits 64 m.decided

/-- A TIME frame's payload (R489). -/
def timeMsgOk (m : TimeMsg) : Bool :=
  fits 8 m.exch && fits 2 m.state && fits 8 m.island && fits 10 m.lead && fits 80 m.t1 && fits 80 m.t2 && fits 80 m.t3
    && fits 80 m.t4 && fits 32 m.bound && fits 32 m.d

/-- A PTP message (R258). -/
def ptpMsgOk (m : PtpMsg) : Bool :=
  fits 4 m.kind && fits 16 m.seq && fits 96 m.origin && fits 96 m.rx && fits 8 m.cls && fits 8 m.prio1 && fits 64 m.ident
    && fits 8 m.prio2 && fits 8 m.accuracy && fits 16 m.variance && fits 16 m.steps && fits 80 m.sender && fits 8 m.domain

/-- An LSA (R478). -/
def lsaOk (m : Lsa) : Bool :=
  fits 64 m.eui && fits 10 m.id && fits 16 m.boot && fits 32 m.seq
    && decide (m.nbrs.length ≤ 6) && m.nbrs.all (fun n => fits 10 n.1 && fits 3 n.2.1 && fits 2 n.2.2)

/-- A heartbeat (R490). -/
def heartbeatOk (m : Heartbeat) : Bool :=
  fits 10 m.src && fits 16 m.seq && fits 2 m.state && fits 8 m.island && fits 64 m.ntime

/-- Whether a command is well formed. -/
def WellFormed (i : Instr) : Bool :=
  match i with
  | .write t stated _ => fits 64 t && fits 64 stated
  | .readReply t clocked _ => fits 64 t && fits 64 clocked
  | .readEvents t clocked _ => fits 64 t && fits 64 clocked
  | .status t => fits 64 t
  | .badTransactionCode t code => fits 64 t && fits 8 code
  | .commandStart t => fits 64 t
  | .nop t h => fits 64 t && hdrOk h
  | .identify t h => fits 64 t && hdrOk h
  | .fence t h scope => fits 64 t && hdrOk h && fits 32 scope
  | .fenceCfgMet t h => fits 64 t && hdrOk h
  | .fenceOutMet t h => fits 64 t && hdrOk h
  | .pdCtl t h domain action lanes => fits 64 t && hdrOk h && fits 32 domain && fits 32 action && fits 32 lanes
  | .readParam t h _ => fits 64 t && hdrOk h
  | .writeParam t h _ => fits 64 t && hdrOk h
  | .readRange t h _ count => fits 64 t && hdrOk h && fits 32 count
  | .writeRange t h _ _ => fits 64 t && hdrOk h
  | .registerWrite t h _ _ => fits 64 t && hdrOk h
  | .cellWriteEffect t cell => fits 64 t && unit 48 cell
  | .crosspointClose t cell => fits 64 t && unit 48 cell
  | .crossingPatienceExpiry t x u => fits 64 t && crossingOk x u
  | .vwRead t h src => fits 64 t && hdrOk h && fits 32 src
  | .vwResistanceEnd t src _ => fits 64 t && unit 192 src
  | .vwPluckStart t src => fits 64 t && unit 192 src
  | .vwListenStart t src => fits 64 t && unit 192 src
  | .vwCaptureEnd t src => fits 64 t && unit 192 src
  | .recordManual t h profile _ => fits 64 t && hdrOk h && fits 32 profile
  | .recordClose t h slot => fits 64 t && hdrOk h && fits 32 slot
  | .schedule t h _ target args => fits 64 t && hdrOk h && fits 64 target && args.length == 4
  | .cancel t h entry => fits 64 t && hdrOk h && fits 32 entry
  | .timeRead t h => fits 64 t && hdrOk h
  | .calRequest t h kind target => fits 64 t && hdrOk h && fits 32 kind && fits 32 target
  | .selfTest t h test target => fits 64 t && hdrOk h && fits 32 test && fits 32 target
  | .osApply t h mask => fits 64 t && hdrOk h && fits 32 mask
  | .calReq t h kind target => fits 64 t && hdrOk h && fits 32 kind && fits 32 target
  | .testReq t h test target => fits 64 t && hdrOk h && fits 32 test && fits 32 target
  | .baseline t h _ => fits 64 t && hdrOk h
  | .tapExcursionStart t cell tap => fits 64 t && unit 48 cell && unit 12 tap
  | .tapExcursionEnd t cell tap => fits 64 t && unit 48 cell && unit 12 tap
  | .sourceMonitorEvaluation t src _ => fits 64 t && unit 192 src
  | .driftEvaluation t src _ => fits 64 t && unit 192 src
  | .blankingEnd t src => fits 64 t && unit 192 src
  | .qaThresholdCrossing t cell qa _ => fits 64 t && unit 48 cell && unit 2 qa
  | .qaPeriodicReset t cell qa _ => fits 64 t && unit 48 cell && unit 2 qa
  | .qaDeferredReset t cell qa _ => fits 64 t && unit 48 cell && unit 2 qa
  | .rangeRecoveryEnd t ch => fits 64 t && unit 384 ch
  | .converterPathValid t cell => fits 64 t && unit 48 cell
  | .seamlessSeam t cell => fits 64 t && unit 48 cell
  | .seamlessHandbackSeam t cell => fits 64 t && unit 48 cell
  | .spAssign t h cell _ => fits 64 t && hdrOk h && unit 48 cell
  | .warmSeam t cell _ => fits 64 t && unit 48 cell
  | .autoRangeLower t ch => fits 64 t && unit 384 ch
  | .autoRangeRaise t ch => fits 64 t && unit 384 ch
  | .modulatorFailure t cell modulator => fits 64 t && unit 48 cell && unit 9 modulator
  | .coldSwitchResume t ch => fits 64 t && unit 384 ch
  | .outputSample t ch _ => fits 64 t && unit 384 ch
  | .coarseValue t ch _ => fits 64 t && unit 384 ch
  | .swap t h gait => fits 64 t && hdrOk h && unit 8 gait
  | .swapEffect t gait => fits 64 t && unit 8 gait
  | .gaitChange t ch => fits 64 t && unit 384 ch
  | .redCloseAcc t h ch => fits 64 t && hdrOk h && unit 384 ch
  | .redCloseMm t h ch => fits 64 t && hdrOk h && unit 384 ch
  | .redLatchLive t h ch => fits 64 t && hdrOk h && unit 384 ch
  | .redLatchLast t h ch => fits 64 t && hdrOk h && unit 384 ch
  | .intervalClose t ch => fits 64 t && unit 384 ch
  | .measCmd t h ch => fits 64 t && hdrOk h && unit 384 ch
  | .spanEnd t ch _ => fits 64 t && unit 384 ch
  | .measResult t ch _ => fits 64 t && unit 384 ch
  | .gapEntryCont t ch => fits 64 t && unit 384 ch
  | .lastSampleRead t h ch => fits 64 t && hdrOk h && unit 384 ch
  | .lastCoarseRead t h ch => fits 64 t && hdrOk h && unit 384 ch
  | .slotResult t slot => fits 64 t && unit 512 slot
  | .triggerEvent t trig => fits 64 t && fits 64 trig
  | .manual t h profile _ => fits 64 t && hdrOk h && unit 16 profile
  | .rctl t h slot => fits 64 t && hdrOk h && unit 16 slot
  | .recordEnd t slot => fits 64 t && unit 16 slot
  | .networkTriggerReceive t port seq hops m => fits 64 t && unit 6 port && fits 64 seq && fits 64 hops && netTrigOk m
  | .blockFlush t ch slot => fits 64 t && blockChannel ch && slot.all (unit 16)
  | .refclkLost t cause => fits 64 t && fits 64 cause
  | .refclkReturn t => fits 64 t
  | .syncSend t port => fits 64 t && unit 6 port
  | .syncReceive t port m => fits 64 t && unit 6 port && timeMsgOk m
  | .delayReqReceive t port m => fits 64 t && unit 6 port && timeMsgOk m
  | .delayRespReceive t port m _ => fits 64 t && unit 6 port && timeMsgOk m
  | .ptpMessageReceive t port m _ => fits 64 t && unit 2 port && ptpMsgOk m
  | .parentLoss t => fits 64 t
  | .parentReplaceTimeout t => fits 64 t
  | .leadWaitExpiry t => fits 64 t
  | .holdLimitPassed t => fits 64 t
  | .slewComplete t => fits 64 t
  | .actAccept t h entry => fits 64 t && hdrOk h && unit 64 entry
  | .actCancel t h entry => fits 64 t && hdrOk h && unit 64 entry
  | .actionArmCheck t => fits 64 t
  | .actionFire t entry => fits 64 t && unit 64 entry
  | .heldActionDrop t entry => fits 64 t && unit 64 entry
  | .ntimeLatRead t h => fits 64 t && hdrOk h
  | .utc t h _ => fits 64 t && hdrOk h
  | .reinEdge t line _ => fits 64 t && unit 4 line
  | .reinSyncDrive t => fits 64 t
  | .reinPulseEnd t line => fits 64 t && unit 4 line
  | .reinClkMissing t => fits 64 t
  | .reinSyncMissing t => fits 64 t
  | .reinReadbackFault t line => fits 64 t && unit 4 line
  | .reinLineStuckHigh t line => fits 64 t && unit 4 line
  | .powerupCalibrationEnd t results => fits 64 t && results.all (fun c => calObjOk c.obj)
  | .backgroundCalibration t cell => fits 64 t && unit 48 cell
  | .calibrationResult t c => fits 64 t && calObjOk c.obj
  | .trimApply t cell conv => fits 64 t && unit 48 cell && unit 9 conv
  | .triangulationRun t => fits 64 t
  | .triangulationResult t _ => fits 64 t
  | .triangulationTrimUpdate t quadrant => fits 64 t && unit 4 quadrant
  | .driftLogRetry t _ => fits 64 t
  | .calAgeTick t => fits 64 t
  | .selfTestEnd t test target _ data => fits 64 t && fits 64 test && fits 64 target && fits 64 data
  | .opticalUpdate t _ => fits 64 t
  | .osCtlApply t h os => fits 64 t && hdrOk h && unit 16 os
  | .osCtlClear t h os _ => fits 64 t && hdrOk h && unit 16 os
  | .osOpenDetect t os => fits 64 t && unit 16 os
  | .osOpenClear t os => fits 64 t && unit 16 os
  | .neighbourShortTest t pair _ => fits 64 t && unit 15 pair
  | .extTemp t h _ => fits 64 t && hdrOk h
  | .extTempStale t => fits 64 t
  | .imgOpen t h gen len => fits 64 t && hdrOk h && fits 32 gen && fits 32 len
  | .imgWrite t h off _ => fits 64 t && hdrOk h && fits 32 off
  | .imgVerify t h => fits 64 t && hdrOk h
  | .imgVerifyComplete t => fits 64 t
  | .imgCommit t h _ => fits 64 t && hdrOk h
  | .imgAbort t h => fits 64 t && hdrOk h
  | .commitBoundary t => fits 64 t
  | .imageStoreComplete t _ => fits 64 t
  | .hubIdWaitExpiry t => fits 64 t
  | .qctlClearUnderrun t h => fits 64 t && hdrOk h
  | .qctlClearNotices t h => fits 64 t && hdrOk h
  | .qctlClearLost t h => fits 64 t && hdrOk h
  | .qctlClearReplyUnderrun t h => fits 64 t && hdrOk h
  | .spill t => fits 64 t
  | .spillReadback t => fits 64 t
  | .portFrameSend t port _ => fits 64 t && unit 6 port
  | .blockSent t port => fits 64 t && unit 6 port
  | .storagePortFail t st => fits 64 t && unit 2 st
  | .stCtlDetach t h st => fits 64 t && hdrOk h && unit 2 st
  | .stCtlAttach t h st => fits 64 t && hdrOk h && unit 2 st
  | .resilverComplete t st => fits 64 t && unit 2 st
  | .lifeCheck t st lifeA lifeB eol => fits 64 t && unit 2 st && fits 64 lifeA && fits 64 lifeB && fits 64 eol
  | .archiveBlockWrite t ch _ => fits 64 t && blockChannel ch
  | .eventRead t h count _ => fits 64 t && hdrOk h && fits 32 count
  | .arcExport t h _ => fits 64 t && hdrOk h
  | .arcCompress t h _ => fits 64 t && hdrOk h
  | .arcRead t h off len => fits 64 t && hdrOk h && fits 32 off && fits 32 len
  | .jobCancel t h => fits 64 t && hdrOk h
  | .jobComplete t _ => fits 64 t
  | .laneSwitchClose t lane => fits 64 t && unit 6 lane
  | .pllLock t lane => fits 64 t && unit 6 lane
  | .pllLockTimeout t lane => fits 64 t && unit 6 lane
  | .pllLoss t lane => fits 64 t && unit 6 lane
  | .failedRetry t lane _ => fits 64 t && unit 6 lane
  | .helloSend t port => fits 64 t && unit 6 port
  | .helloReceive t port m => fits 64 t && unit 6 port && helloOk m
  | .countdownSwitch t port => fits 64 t && unit 6 port
  | .adaptLock t port => fits 64 t && unit 6 port
  | .adaptFailure t port => fits 64 t && unit 6 port
  | .trainingFrameReceive t port _ _ _ => fits 64 t && unit 6 port
  | .dataStart t port => fits 64 t && unit 6 port
  | .markerReceive t port _ => fits 64 t && unit 6 port
  | .lockLoss t port => fits 64 t && unit 6 port
  | .lockRegainTimeout t port => fits 64 t && unit 6 port
  | .ethLinkUp t port _ => fits 64 t && unit 6 port
  | .laneTest t h port _ => fits 64 t && hdrOk h && unit 6 port
  | .errInjSingle t h port => fits 64 t && hdrOk h && unit 6 port
  | .laneCtlRetrain t h port => fits 64 t && hdrOk h && unit 6 port
  | .laneCtlClear t h port => fits 64 t && hdrOk h && unit 6 port
  | .fecLimitCheck t port corr unc sym => fits 64 t && unit 6 port && fits 64 corr && fits 64 unc && fits 64 sym
  | .creditReceive t port c2 c3 => fits 64 t && unit 6 port && fits 64 c2 && fits 64 c3
  | .creditSend t port => fits 64 t && unit 6 port
  | .wcpFrameReceive t port f => fits 64 t && unit 6 port && frameOk f
  | .streamFrameReceive t port f => fits 64 t && unit 6 port && frameOk f
  | .ethFrameReceive t port etherType f => fits 64 t && unit 6 port && fits 16 etherType && frameOk f
  | .lsaReceive t port m => fits 64 t && unit 6 port && lsaOk m
  | .lsaRefresh t => fits 64 t
  | .lsaUnreachableHold t eui => fits 64 t && fits 64 eui
  | .idHoldExpiry t eui => fits 64 t && fits 64 eui
  | .idClaimWaitEnd t => fits 64 t
  | .partnerGone t port => fits 64 t && unit 6 port
  | .routeRecompute t => fits 64 t
  | .queuedFrameExpiry t dest => fits 64 t && fits 64 dest
  | .proxyExpiry t tag => fits 64 t && fits 64 tag
  | .streamAttach t h _ => fits 64 t && hdrOk h
  | .topologyRead t h id => fits 64 t && hdrOk h && fits 32 id
  | .idRelease t h id => fits 64 t && hdrOk h && fits 32 id
  | .faultPairActive t src _ => fits 64 t && unit 128 src
  | .faultPairInactive t src => fits 64 t && unit 128 src
  | .wireFault t pair => fits 64 t && unit 115 pair
  | .aliveToggle t => fits 64 t
  | .watchdogMiss t => fits 64 t
  | .restartWindowExpiry t => fits 64 t
  | .faultNRelease t => fits 64 t
  | .locketCopy t => fits 64 t
  | .locketRead t h _ => fits 64 t && hdrOk h
  | .faultClear t h _ _ _ => fits 64 t && hdrOk h
  | .unfence t h kind num => fits 64 t && hdrOk h && fits 32 kind && fits 32 num
  | .unfenceComplete t kind num => fits 64 t && fits 64 kind && fits 64 num
  | .fenceUnit t h kind num => fits 64 t && hdrOk h && fits 32 kind && fits 32 num
  | .claspMinority t core => fits 64 t && unit 3 core
  | .coreResyncComplete t _ => fits 64 t
  | .claspDoubleDisagreement t => fits 64 t
  | .restartServed t unitsSwapped => fits 64 t && fits 64 unitsSwapped
  | .scrub t mismatch => fits 64 t && mismatch.all (unit 3)
  | .heartbeatSend t => fits 64 t
  | .heartbeatReceive t port m => fits 64 t && unit 6 port && heartbeatOk m
  | .partnerLoss t => fits 64 t
  | .pairCtlYield t h => fits 64 t && hdrOk h
  | .yieldTimeout t => fits 64 t
  | .yieldRetry t => fits 64 t
  | .pairMemberValue t pair _ _ => fits 64 t && unit 32 pair
  | .pairDiscrepancy t pair => fits 64 t && unit 32 pair
  | .siChange t si _ _ => fits 64 t && unit 4 si
  | .siFilterExpiry t si => fits 64 t && unit 4 si
  | .siDiscrepancy t si => fits 64 t && unit 4 si
  | .nslCycle t h _ => fits 64 t && hdrOk h
  | .confirmSignet t h _ => fits 64 t && hdrOk h
  | .safetyReset t h _ => fits 64 t && hdrOk h
  | .nslOpen t h _ => fits 64 t && hdrOk h
  | .nslTimeout t conn => fits 64 t && unit 16 conn
  | .soReadback t so _ _ => fits 64 t && unit 2 so
  | .rbTExpiry t so => fits 64 t && unit 2 so
  | .tpWidthEnd t so => fits 64 t && unit 2 so
  | .powerUp t _ => fits 64 t
  | .firmwareStart t => fits 64 t
  | .domainGood t pd badPairs => fits 64 t && unit 16 pd && badPairs.all (unit 115)
  | .railWaitExpiry t pd => fits 64 t && unit 16 pd
  | .railTrip t rail _ => fits 64 t && railOk rail
  | .resetNAssert t => fits 64 t
  | .resetNRelease t _ => fits 64 t
  | .resetNTimeout t _ => fits 64 t
  | .resetNStuckClear t => fits 64 t
  | .codeSwap t kind num _ => fits 64 t && fits 64 kind && fits 64 num
  | .updStatus t h => fits 64 t && hdrOk h
  | .updOpen t h slot len => fits 64 t && hdrOk h && fits 32 slot && fits 32 len
  | .slotEraseComplete t => fits 64 t
  | .updWrite t h off _ => fits 64 t && hdrOk h && fits 32 off
  | .updVerify t h slot => fits 64 t && hdrOk h && fits 32 slot
  | .updVerifyComplete t slot _ _ => fits 64 t && unit 2 slot
  | .updConfirm t h _ => fits 64 t && hdrOk h
  | .updBoot t h slot code => fits 64 t && hdrOk h && fits 32 slot && fits 32 code
  | .tapUnlock t h _ => fits 64 t && hdrOk h
  | .unlockWindowExpiry t => fits 64 t
  | .bistReport t h => fits 64 t && hdrOk h
  | .extest t _ => fits 64 t
  | .samplePreload t _ => fits 64 t
  | .idcode t => fits 64 t
  | .probe t => fits 64 t
  | .extestPulse t => fits 64 t
  | .extestTrain t => fits 64 t
  | .clamp t => fits 64 t
  | .highz t => fits 64 t
  | .mbist t failing => fits 64 t && fits 64 failing
  | .modbist t _ => fits 64 t
  | .bistResult t => fits 64 t
  | .bypass t _ => fits 64 t
  | .testLogicReset t => fits 64 t
  | .tjHoursTick t _ sensor => fits 64 t && fits 64 sensor
  | .stInitComplete t st _ => fits 64 t && unit 2 st
  | .storageWriteComplete t index => fits 64 t && fits 64 index
  | .checkerLock t port => fits 64 t && unit 6 port
  | .checkerLockLoss t port => fits 64 t && unit 6 port
  | .checkerCountSaturate t port _ => fits 64 t && unit 6 port
  | .railGood t rail => fits 64 t && railOk rail
  | .ptpMessageSend t port kind => fits 64 t && unit 2 port && fits 64 kind

end Sys2Proof
end

