-- ==== Sys2Proof/Tests/Slice0.lean ====
section
/-! SUPPORT. The model's own tests: what a command does on small states worked out by hand from the spec, the checks of
WellFormed, and states that meet the hypotheses of every statement. -/

set_option Elab.async false

namespace Sys2Proof.Tests

open Sys2Proof Sys2Proof.Machine

/-- The header of a host command that asks for a reply. -/
def hdr0 : Hdr := ⟨6, 1023, 1, 0, 0, true, 2⟩

/-- A hub with every domain powered, its core running slot A, and a configuration committed. -/
def live : State := { State.reset with
  pdOn := 0xFFFF, pdGood := 0xFFFF, switches := 0x3F, boot := { phase := .ready, running := 0 }, image := { running := true } }

/-- The same hub in HELD. -/
def held : State := { live with image := {} }

/-- The same hub with port 0 up on a Borku link. -/
def linked : State := { live with lanes := [(0, { st := .up, gen := 3, lock := true })] }

/-- The same hub with storage port 0 ready. -/
def stored : State := { live with stores := [(0, { st := 2, cap := 0x8000000 })] }

/-- The instant of the tests, on every grid. -/
def tt : Nat := 1000000000000000

/-- A configured item. -/
def item (b i k v : Nat) (s : State) : State := { s with cfg := tput s.cfg (pid b i k) (BitVec.ofNat 32 v) }

/-- The bytes of a NOP for this hub. -/
def nopBytes : List Byte :=
  let b : List Byte := [0x02, 0x80, 0x01, 0x00, 0, 1, 0, 0, 0xFF, 0xFF, 0x03, 0xFF, 0, 0, 0, 0]
  b ++ be 4 (crc32c b)

/-- A record without members. -/
def rec0 : Record :=
  { profile := 0, origin := 1, epoch := 0, num := 0, trig := 0, taken := 0, endAt := none, phase := 0, closedBy := 0,
    retrig := 0, groups := 0, primary := 0, causes := 0, late := false, bcast := false, oHub := 0, oEpoch := 0, oNum := 0,
    ncode := 0, decided := 0, members := [], results := [], want := 0, tStamp := none }

/-- An empty block of channel 0. -/
def blk0 : Blk := ⟨0, 0, 0, false, 0, 0, 0, 0, 0, 0, 0, [], 0, 0, none, 0, 0, false, 0, 0, false, 0, false⟩

/-- A frame of another hub for this one. -/
def frame0 : Frame := ⟨0x10, 0, false, 5, 6, 0, 0, [], true⟩

/-- The bytes of an NSL_CYCLE packet with a body of 24 bytes. -/
def safetyBytes : List Byte :=
  let b : List Byte := [0x02, 0xA0, 0x0B, 0x00, 0, 1, 0, 24, 0xFF, 0xFF, 0x03, 0xFF, 0, 0, 0, 0] ++ zeros 24
  b ++ be 4 (crc32c b)

theorem serves_of {s : State} (h : s.coreUp = true ∧ s.boot.phase ≠ .recovery) : s.serves := h

/-! WellFormed: each check refuses an ill-formed term. -/

theorem test_wellFormed_header :
    WellFormed (.nop 0 hdr0) = true ∧ WellFormed (.nop (2 ^ 64) hdr0) = false ∧
    WellFormed (.nop 0 ⟨7, 1023, 1, 0, 0, true, 2⟩) = false ∧ WellFormed (.nop 0 ⟨6, 1024, 1, 0, 0, true, 2⟩) = false ∧
    WellFormed (.nop 0 ⟨6, 1023, 65536, 0, 0, true, 2⟩) = false ∧ WellFormed (.nop 0 ⟨6, 1023, 1, 65536, 0, true, 2⟩) = false ∧
    WellFormed (.nop 0 ⟨6, 1023, 1, 0, 8, true, 2⟩) = false ∧ WellFormed (.nop 0 ⟨6, 1023, 1, 0, 0, true, 256⟩) = false := by
  decide

theorem test_wellFormed_units :
    WellFormed (.crosspointClose 0 48) = false ∧ WellFormed (.crossingPatienceExpiry 0 .hostCore 2) = false ∧
    WellFormed (.crossingPatienceExpiry 0 .holdLane 6) = false ∧ blockChannel 0x1FF = true ∧ blockChannel 384 = false ∧
    calObjOk (.conv 0 9) = false ∧ calObjOk (.source 192) = false ∧ calObjOk (.amp 0 2) = false ∧ railOk (.avdd 4) = false ∧
    WellFormed (.schedule 0 hdr0 0 0 [0, 0, 0]) = false ∧ WellFormed (.fence 0 hdr0 (2 ^ 32)) = false := by
  decide

theorem test_wellFormed_messages :
    frameOk { frame0 with hops := 1024 } = false ∧ helloOk ⟨0, 0, 0, false, 4, none, 0, false, false, 0, 0, 0, 0, 0, 0, 0, 0, 0⟩ = false ∧
    netTrigOk ⟨65536, 0, 0, 0, 0, 0, 0, 0, 0⟩ = false ∧ timeMsgOk ⟨256, 0, 0, 0, 0, 0, 0, 0, 0, 0⟩ = false ∧
    ptpMsgOk { kind := 16, seq := 0, origin := 0, rx := 0, cls := 0, prio1 := 0, ident := 0 } = false ∧ lsaOk ⟨0, 1024, 0, 0, false, 0, []⟩ = false ∧
    heartbeatOk ⟨1024, 0, false, 0, 0, 0⟩ = false := by
  decide

/-! The table gives no row any bits. -/

theorem test_no_word_is_a_command (nbits w : Nat) : decodeTableWord nbits w = none ∧
    ∀ s : State, s.withFetchWord nbits w = s := ⟨rfl, fun _ => rfl⟩

/-! The spec's check values and worked examples. -/

/-- The nine ASCII bytes of a check value. -/
def nine : List Byte := [0x31, 0x32, 0x33, 0x34, 0x35, 0x36, 0x37, 0x38, 0x39]

/-- R346, R377 and the CRC of the safety layer. -/
theorem test_check_values : crc32c nine = 0xE3069283 ∧ crc32 nine = 0xCBF43926 ∧ crcNsl nine = 0x3010BF7F := by
  decide +kernel

/-- The reply of the worked example of chapter 10: flags keep PRIO 3 and clear ACKREQ, source and destination swap. -/
theorem test_reply_bytes :
    (({ live with net := { id := some 5 } }).replyBytesOf ⟨⟨6, 1023, 0x17, 0, 3, true, 2⟩, 0x0201, 0, 0, [], false, 0⟩).take 20 =
      [0x02, 0x03, 0x82, 0x01, 0x00, 0x17, 0x00, 0x04, 0x03, 0xFF, 0x00, 0x05, 0, 0, 0, 0, 0, 0, 0, 0] := by
  decide +kernel

/-- The WRITE_PARAM of the same example, but for its trailer. -/
def exampleWrite : List Byte :=
  let b : List Byte := [0x02, 0x43, 0x02, 0x01, 0x00, 0x17, 0x00, 0x14, 0x00, 0x05, 0x03, 0xFF, 0, 0, 0, 0,
    0, 2, 0, 0, 0x10, 0x01, 0x11, 0x04, 0, 0, 0, 2, 0x11, 0x08, 0x80, 0x40, 0, 0x32, 0x70, 3]
  b ++ be 4 (crc32c b)

/-- The packet waits with its header read as the example says. -/
theorem test_write_packet : ∃ v : State, exec (.write tt 40 exampleWrite) { live with net := { id := some 5 } } = .next v ∧
    v.cmds.waiting.map (fun p => (p.h.tag, p.h.prio, p.h.ackreq, p.opcode, p.dest, p.h.source)) =
      [(0x17, 3, true, 0x0201, 5, 1023)] ∧ v.cmds.last = 0 :=
  ⟨_, rfl, by decide +kernel⟩

/-- The two items of the example. -/
def exampleItems : List (Word × Word) := [(0x10011104, 2), (0x11088040, 0x00327003)]

/-- Both items are taken, and the reply of 24 bytes waits. -/
theorem test_write_param :
    ∃ v : State, exec (.writeParam tt ⟨6, 1023, 0x17, 0, 3, true, 2⟩ exampleItems) live = .next v ∧
      v.cfgAt 0x10011104 = 2 ∧ v.cfgAt 0x11088040 = 0x00327003 ∧ v.cmds.replies.map Reply.size = [24] :=
  ⟨_, rfl, by decide +kernel⟩

/-- The event entry of the worked example of chapter 12. -/
theorem test_event_entry :
    evWords 1 [(80, 9), (0, 3), (1, 3), (40, 8), (0xFFFFFF, 24)] none = [0x0105004A3FFFFFC0] := by decide +kernel

/-- D = 50 with LIN129 (chapter 4): G_dec 1361, L 157, GDELAY 4561. -/
theorem test_group_delay : gBase 50 = 1361 ∧ lOf 50 (129, false, 0) = 157 ∧ gdelayOf 50 (129, false, 0) = 4561 := by
  decide +kernel

/-- +7.000 mV and −7.000 mV at G128 (chapter 3), and +7.000 mV with SETTLE and SENSOR in S24L. -/
theorem test_sample_words :
    fmtWord 0 true (inLsb 7 469762048) 0 = 0x1C000000 ∧ fmtWord 0 true (inLsb 7 (-469762048)) 0 = 0xE4000000 ∧
    fmtWord 2 true (inLsb 7 469762048) 0 = 0x9C000000 ∧ fmtWord 2 true (inLsb 7 (-469762048)) 0 = 0x64000000 ∧
    fmtWord 1 true (inLsb 7 469762048) 0x41 = 0x1C000041 := by decide +kernel

/-- The low words of the worked example of R269. -/
theorem test_low_word_difference :
    sdiff 32 0x59681F00 0xFFFFF000 = 1500000000 ∧ sdiff 32 (0xFFFFF000 + 0xB2D05E00) 0xFFFFF000 = -1294967296 := by
  decide

/-- Sources 67 and 56 in one instant (chapter 15): the Locket holds 56, with OVERFLOW and a later-count of 1, and
quadrant 2 is fenced. -/
theorem test_locket_order : ∃ v w : State, exec (.faultPairActive tt 67 1) live = .next v ∧
    exec (.faultPairActive tt 56 1) v = .next w ∧ w.faults.locket.src = 56 ∧ w.faults.locket.overflow = true ∧
    w.faults.locket.later = 1 ∧ w.unitFenced 3 2 = true ∧ w.faults.faultN = false :=
  ⟨_, _, rfl, rfl, by decide +kernel⟩

/-- UNFENCE of quadrant 2 while source 56 is active is DENIED (chapter 15). -/
theorem test_unfence_denied : ∃ v : State,
    exec (.unfence tt hdr0 3 2) { live with faults :=
      { srcs := [(56, { active := true, latched := true, severe := true })], quads := [(2, [.src 56])] } } = .next v ∧
    v.cmds.replies.map (fun r => r.status) = [stDenied] := ⟨_, rfl, by decide +kernel⟩

/-- FAULT_CLEAR with byte 7 = 0x01 and byte 8 = 0x08 names sources 56 and 67 (chapter 15). -/
theorem test_mask_sources : maskSrcs 0x0000000000000008_0100000000000000 = [56, 67] := by decide +kernel

/-- A WRITE of 19 bytes is a frame error, LAST 2. -/
theorem test_short_write : ∃ v : State, exec (.write tt 19 (zeros 19)) live = .next v ∧ v.cmds.last = 2 :=
  ⟨_, rfl, by decide +kernel⟩

/-- RUNTIME wraps its instant to 64 bits and never goes back. -/
theorem test_tick : (State.tick 7 live).now = 7 ∧ (State.tick 3 (State.tick 7 live)).now = 7 := by decide +kernel


/-- A moving sum of 4 terms taken twice is the triangle of 7 terms (the CIC5 of R631 and the sinc4 of R147 are built so). -/
theorem test_moving_sums : movingSum 4 (movingSum 4 [1]) = [1, 2, 3, 4, 3, 2, 1] := by decide +kernel

/-- The carrier of chapter 4's lock-in example: FREQ 0x00100000 is 1.000 kHz, so a quarter of its turn is 250 µs. -/
theorem test_carrier : phaseAt 0 0 0x100000 250000 = 2 ^ 30 ∧ phaseAt 0 0 0x100000 1000000 = 0 ∧
    unitSquare (2 ^ 31) = -1 := by decide +kernel


/-- The code in byte 0 and the length in bytes 2 and 3 of a transaction's header choose its row (R334, R335). -/
theorem test_host_transactions :
    hostRow tt ([1, 0, 0, 20] ++ nopBytes) [] = some (.write tt 20 nopBytes) ∧
    hostRow tt ([2, 0, 0, 0] ++ zeros 24) [.corrected] = some (.readReply tt 24 [.corrected]) ∧
    hostRow tt ([3, 0, 0, 0] ++ zeros 16) [.ok] = some (.readEvents tt 16 [.ok]) ∧ hostRow tt [4, 0, 0, 0] [] = some (.status tt) ∧
    hostRow tt [5, 0, 1, 4] [] = some (.badTransactionCode tt 5) ∧ hostRow tt [1, 0, 0] [] = none := by decide +kernel

/-- The example packet of chapter 10 is the WRITE_PARAM row with its two items. -/
theorem test_packet_row : packetRow ⟨⟨6, 1023, 0x17, 0, 3, true, 2⟩, 0x0201, false, 5, 0, (exampleWrite.drop 16).take 20⟩
    (.writeParam tt ⟨6, 1023, 0x17, 0, 3, true, 2⟩ [(0x10011104, 2), (0x11088040, 0x00327003)]) :=
  ⟨rfl, rfl, by decide +kernel⟩
/-! States that meet the hypotheses of the statements on the whole block. -/

/-- A hub with STATUS in front of an empty rest. -/
def asked : State := { live with pending := [.status tt] }

theorem met_StepRunsFrontCommand :
    (∃ (c : Instr) (r : List Instr) (s : State), s.pending = c :: r) ∧ ∃ s : State, s.pending = [] :=
  ⟨⟨.status tt, [], asked, rfl⟩, State.reset, rfl⟩

theorem met_CommandsKeepInvariant : ∃ s u : State, s.Inv ∧ step s = .next u :=
  ⟨asked, _, ⟨by decide, by decide, by decide⟩, rfl⟩

theorem met_RunningHubNeverReturnsToHeld :
    ∃ (c : Instr) (s u : State), startsAnew c = false ∧ s.running = true ∧ exec c s = .next u :=
  ⟨.status tt, live, _, rfl, rfl, rfl⟩

/-- A connection that may control, with CONFIRM_SIGNET of the signet 0. -/
def control : State := item 0x06 0 0x278 0x90009 (item 0x06 0 0x279 0xABCD (item 0x06 0 0x27A 500
  { live with safety := { conns := [(15, { st := 1 })] } }))

/-- The frame of a command on that connection: its number, and the word after it. -/
def controlFrame (command arg : Nat) : List Byte :=
  nslFrame 3 1 0xABCD 500 ([BitVec.ofNat 8 command, 3, 0, 0] ++ be 4 arg)

theorem met_SignetIsConfirmedOnlyHere :
    ∃ (c : Instr) (s u : State), exec c s = .next u ∧ s.safety.confirmed = false ∧ u.safety.confirmed = true :=
  ⟨.confirmSignet tt ⟨0, 9, 1, 0, 0, true, 2⟩ (controlFrame 1 0), control,
    (control.tick tt).nslPacket 0x0B01 ⟨0, 9, 1, 0, 0, true, 2⟩ (controlFrame 1 0), rfl, rfl, by decide +kernel⟩

theorem met_RuntimeNeverGoesBack : ∃ (c : Instr) (s u : State),
    (∀ t b, c ≠ .railTrip t .vddaon b ∧ c ≠ .railTrip t .vioaon b) ∧ exec c s = .next u :=
  ⟨.status tt, live, _, fun _ _ => ⟨nofun, nofun⟩, rfl⟩

theorem met_CommandsLeaveTheQueue :
    ∃ (c : Instr) (r : List Instr) (s u : State), s.pending = c :: r ∧ step s = .next u :=
  ⟨.status tt, [], asked, _, rfl, rfl⟩

theorem met_OnlyPowerCommandsSwitchDomains :
    ∃ (c : Instr) (s u : State), switchesDomains c = false ∧ exec c s = .next u := ⟨.status tt, live, _, rfl, rfl⟩

theorem met_OnlyWritesChangeTheConfiguration :
    ∃ (c : Instr) (s u : State), writesConfig c = false ∧ exec c s = .next u := ⟨.status tt, live, _, rfl, rfl⟩

theorem met_ReadsLeaveTheHub : ∃ (c : Instr) (t : Nat), ∃ h, c = .nop t h ∨ c = .identify t h :=
  ⟨.nop tt hdr0, tt, hdr0, .inl rfl⟩

/-- The first absent number of each kind. -/
theorem met_AbsentUnitsFault :
    exec (.crosspointClose 0 48) live = .fault (.noSuchUnit .cell 48) ∧
    exec (.blankingEnd 0 192) live = .fault (.noSuchUnit .source 192) ∧
    exec (.rangeRecoveryEnd 0 384) live = .fault (.noSuchUnit .channel 384) ∧
    exec (.swapEffect 0 8) live = .fault (.noSuchUnit .gait 8) ∧
    exec (.slotResult 0 512) live = .fault (.noSuchUnit .slot 512) ∧
    exec (.recordEnd 0 16) live = .fault (.noSuchUnit .record 16) ∧
    exec (.syncSend 0 6) live = .fault (.noSuchUnit .port 6) ∧
    exec (.reinPulseEnd 0 4) live = .fault (.noSuchUnit .reinLine 4) ∧
    exec (.triangulationTrimUpdate 0 4) live = .fault (.noSuchUnit .quadrant 4) ∧
    exec (.osOpenClear 0 16) live = .fault (.noSuchUnit .optical 16) ∧
    exec (.resilverComplete 0 2) live = .fault (.noSuchUnit .storage 2) ∧
    exec (.nslTimeout 0 16) live = .fault (.noSuchUnit .connection 16) ∧
    exec (.actionFire 0 64) live = .fault (.noSuchUnit .action 64) :=
  ⟨rfl, rfl, rfl, rfl, rfl, rfl, rfl, rfl, rfl, rfl, rfl, rfl, rfl⟩

theorem met_NoCommandRunsWithoutTheCore : ∃ (t : Nat) (s : State), (s.tick t).coreUp = false :=
  ⟨tt, State.reset, by decide +kernel⟩

theorem met_RecoveryAnswersBadOpcode :
    ∃ (t : Nat) (s : State), (s.tick t).coreUp = true ∧ (s.tick t).boot.phase = .recovery :=
  ⟨tt, { live with boot := { phase := .recovery } }, by decide +kernel⟩

theorem met_EmptyQueueRead : ∃ s : State, s.evCount = 0 ∧ s.evq.reading = [] ∧ s.evq.q = [] :=
  ⟨live, by decide +kernel⟩

/-- SET 5 and CLR 3, at the levels where the clauses meet, with the signals on and off. -/
theorem met_WatermarkHysteresis :
    (∃ (cfg level : Nat) (w : Watermark), w.live = false ∧ fld cfg 0 12 ≤ level) ∧
    (∃ (cfg level : Nat) (w : Watermark), w.live = false ∧ level < fld cfg 0 12) ∧
    (∃ (cfg level : Nat) (w : Watermark), w.live = true ∧ level ≤ fld cfg 16 12) ∧
    (∃ (cfg level : Nat) (w : Watermark), w.live = true ∧ fld cfg 16 12 < level) ∧
    (∃ s : State, s.pd 15 = true) ∧ ∃ s : State, s.pd 15 = false :=
  ⟨⟨0x30005, 5, {}, by decide⟩, ⟨0x30005, 4, {}, by decide⟩, ⟨0x30005, 3, { live := true }, by decide⟩,
    ⟨0x30005, 4, { live := true }, by decide⟩, ⟨live, by decide +kernel⟩, State.reset, by decide +kernel⟩

/-- A waiting NOP. -/
def nopPkt : Pkt := ⟨hdr0, 0x0100, false, 1023, 0, []⟩

theorem met_NextCommandByPriority : ∃ (l : List Pkt) (p : Pkt), pickPkt l = some p := ⟨[nopPkt], nopPkt, rfl⟩

/-- A waiting FENCE of the host's, and the fence that it is once it is opened. -/
def fencePkt : Pkt := { nopPkt with opcode := 0x0102, arrival := 1, params := [8] }

/-- See fencePkt. -/
def fence1 : Fence := ⟨hdr0, false, true, .out, 1, 0⟩

theorem met_OrdWaitsForEarlier :
    (∃ (t : Nat) (s u : State) (p : Pkt), u = s.tick t ∧ pickPkt (u.cmds.waiting.filter u.ready) = some p ∧ p.ord = true) ∧
    (∃ (t : Nat) (s u : State) (p : Pkt), u = s.tick t ∧
      pickPkt (u.cmds.waiting.filter u.ready) = some p ∧ fence1 ∈ u.cmds.fences ∧ fence1.h.source = p.h.source ∧
      fence1.arrival < p.arrival) ∧
    (∃ (t : Nat) (s u : State) (p q : Pkt), u = s.tick t ∧ pickPkt (u.cmds.waiting.filter u.ready) = some p ∧
      q ∈ u.cmds.waiting ++ u.cmds.started ∧ q.holds = true ∧ q.h.source = p.h.source ∧ q.arrival < p.arrival) ∧
    (∃ (t : Nat) (s u : State) (p : Pkt), u = s.tick t ∧ p.ord = false ∧
      (∀ f ∈ u.cmds.fences, f.h.source ≠ p.h.source) ∧
      ∀ q ∈ u.cmds.waiting ++ u.cmds.started, q.holds = true → q.h.source ≠ p.h.source) ∧
    ∃ (t : Nat) (s u : State) (h : Hdr), u = s.tick t ∧ u.serves ∧ u.waits h = true :=
  ⟨⟨tt, { live with cmds := { waiting := [{ nopPkt with ord := true }] } }, _, { nopPkt with ord := true }, rfl,
      by decide +kernel⟩,
    ⟨tt, { live with cmds := { waiting := [{ nopPkt with arrival := 2 }], fences := [fence1] } },
      _, { nopPkt with arrival := 2 }, rfl, by decide +kernel⟩,
    ⟨tt, { live with cmds := { waiting := [{ nopPkt with arrival := 2 }], started := [fencePkt], fences := [fence1] } },
      _, { nopPkt with arrival := 2 }, fencePkt, rfl, by decide +kernel⟩,
    ⟨tt, live, _, nopPkt, rfl, by decide +kernel⟩,
    tt, { live with cmds := { waiting := [nopPkt] } }, _, hdr0, rfl, serves_of (by decide +kernel), by decide +kernel⟩

theorem met_RepliesFollowAckreq :
    (∃ (h : Hdr) (st : Nat) (data : List Byte), h.ackreq = true ∨ data ≠ [] ∨ (st ≠ stOk ∧ st ≠ stAccepted)) ∧
    ∃ (h : Hdr) (st : Nat) (data : List Byte), h.ackreq = false ∧ data = [] ∧ (st = stOk ∨ st = stAccepted) :=
  ⟨⟨hdr0, stOk, [], .inl rfl⟩, ⟨6, 1023, 1, 0, 0, false, 2⟩, stAccepted, [], rfl, rfl, .inr rfl⟩

/-- The last item of an instance, and the first count that leaves it. -/
theorem met_RangeCommands :
    (∃ (first : Word) (n i : Nat), rangeOk first.toNat n = true ∧ i < n) ∧
    (∃ (first : Word) (n : Nat) (s u : State), u = s.tick tt ∧ u.serves ∧ u.waits hdr0 = false ∧ 0xFFF < pidItem first.toNat + n - 1) ∧
    (∃ (first : Word) (vals : List Word) (s u : State), u = s.tick tt ∧ u.serves ∧ u.waits hdr0 = false ∧
      0xFFF < pidItem first.toNat + vals.length - 1) ∧
    (∃ (first : Word) (n : Nat) (s u : State), u = s.tick tt ∧ u.serves ∧ u.waits hdr0 = false ∧ 1 ≤ n ∧ n ≤ 1018 ∧
      rangeOk first.toNat n = true) ∧
    (∃ (first : Word) (vals : List Word) (s u : State), u = s.tick tt ∧ u.serves ∧ u.waits hdr0 = false ∧ 1 ≤ vals.length ∧
      vals.length ≤ 1017 ∧ rangeOk first.toNat vals.length = true) :=
  ⟨⟨0x11000FFF, 1, 0, by decide +kernel⟩, ⟨0x11000FFF, 2, live, _, rfl, serves_of (by decide +kernel), by decide +kernel⟩,
    ⟨0x11000FFF, [0, 0], live, _, rfl, serves_of (by decide +kernel), by decide +kernel⟩,
    ⟨0x11000C06, 1018, live, _, rfl, serves_of (by decide +kernel), by decide +kernel⟩,
    ⟨0x11000FFF, [0], live, _, rfl, serves_of (by decide +kernel), by decide +kernel⟩⟩

theorem met_RejectedSetsApplyNothing :
    (∃ (s u : State) (items : List (Word × Word)) (l : List (Nat × Nat)) (st i : Nat), u = s.tick tt ∧
      l = items.map (fun x => (x.1.toNat, x.2.toNat)) ∧ u.serves ∧ u.waits hdr0 = false ∧ 1 ≤ items.length ∧ items.length ≤ 509 ∧
      u.setFailure l = some (st, i) ∧ pidBlock (l.getD i (0, 0)).1 ≠ 0x02) ∧
    (∃ id : Word, descOf id.toNat = none ∧ deferredItem id.toNat = false) ∧
    (∃ (id : Word) (d : Desc) (s u : State), u = s.tick tt ∧ descOf id.toNat = some d ∧ u.serves ∧ u.waits hdr0 = false ∧ d.acc = .ro ∧
      (heldBlock (pidBlock id.toNat) = false ∨ u.running = true)) ∧
    (∃ (id : Word) (d : Desc), descOf id.toNat = some d ∧ d.acc = .wo) :=
  ⟨⟨live, _, [(0x11000040, 0x00327000), (0x11000040, 0)], _, stParamRange, 1, rfl, rfl, serves_of (by decide +kernel),
      by decide +kernel⟩,
    ⟨0xFF000000, by decide +kernel⟩,
    ⟨0x11000024, { acc := .ro, dflt := 0, mask := 0, rng := [] }, live, _, rfl, by decide +kernel,
      serves_of (by decide +kernel), by decide +kernel⟩,
    ⟨0x16000004, { acc := .wo, dflt := 0, mask := 65535, rng := [] }, by decide +kernel⟩⟩

theorem met_HeldHubRefuses :
    (∃ s u : State, u = s.tick tt ∧ u.serves ∧ u.waits hdr0 = false ∧ u.running = false ∧
      (∃ id : Word, (descOf id.toNat).isSome = true ∧ pidBlock id.toNat = 6) ∧
      (∃ id : Word, (descOf id.toNat).isSome = true ∧ pidBlock id.toNat = 7) ∧
      (∃ id : Word, (descOf id.toNat).isSome = true ∧ pidBlock id.toNat = 0x10) ∧
      (∃ id : Word, (descOf id.toNat).isSome = true ∧ pidBlock id.toNat = 0x17)) ∧
    (∃ (s u : State) (n : Nat), u = s.tick tt ∧ u.serves ∧ u.waits hdr0 = false ∧ u.running = false ∧ 2 ≤ (u.act n).kind ∧ (u.act n).kind ≤ 6) :=
  ⟨⟨held, _, rfl, serves_of (by decide +kernel), by decide +kernel, by decide +kernel, ⟨0x06000000, by decide +kernel⟩,
      ⟨0x07000000, by decide +kernel⟩, ⟨0x10000120, by decide +kernel⟩, ⟨0x17000000, by decide +kernel⟩⟩,
    ⟨{ held with acts := [(63, { typ := 6 })] }, _, 63, rfl, serves_of (by decide +kernel), by decide +kernel⟩⟩

theorem met_ImagePiecesReadBack :
    (∃ (ws : List Word) (first k : Nat), k < first ∨ first + ws.length ≤ k) ∧ ∃ (ws : List Word) (i : Nat), i < ws.length :=
  ⟨⟨[1], 5, 6, by decide⟩, [1], 0, by decide⟩

/-- The last count before the maximum, a count that does not reach it, and one already there. -/
theorem met_CountersSaturate :
    (∃ (s : State) (id lo w n : Nat), twf 0 s.counts = true ∧ lo < 32 ∧ 1 ≤ w ∧ id ≠ pid 0x08 0 6 ∧
      s.count id lo < 2 ^ w - 1 ∧ 2 ^ w - 1 ≤ s.count id lo + n) ∧
    (∃ (s : State) (id lo w n : Nat), twf 0 s.counts = true ∧ lo < 32 ∧ 1 ≤ w ∧ id ≠ pid 0x08 0 6 ∧
      ¬(s.count id lo < 2 ^ w - 1 ∧ 2 ^ w - 1 ≤ s.count id lo + n)) ∧
    (∃ (s : State) (id : Nat), s.sat id 16 16 = true) ∧ ∃ (s : State) (id : Nat), s.sat id 0 31 = true :=
  ⟨⟨{ live with counts := [(37, 0x7FFE)] }, 1, 5, 15, 1, by decide +kernel⟩, ⟨live, 1, 5, 15, 1, by decide +kernel⟩,
    ⟨{ live with counts := [(48, 0xFFFF)] }, 1, by decide +kernel⟩, { live with counts := [(32, 0x7FFFFFFF)] }, 1,
    by decide +kernel⟩

/-- A full queue of one lower event, and one of an equal event. -/
theorem met_EventAdmission :
    (∃ (e : Ev) (q : List Ev) (used : Nat), q.Pairwise (fun x y => y.prio ≤ x.prio) ∧ used ≤ 4096 ∧
      used + e.words.length ≤ 4096) ∧
    (∃ (e : Ev) (q : List Ev) (used : Nat), q.Pairwise (fun x y => y.prio ≤ x.prio) ∧ used ≤ 4096 ∧
      4096 < used + e.words.length ∧
      used + e.words.length ≤ 4096 + ((q.filter (fun x => x.prio < e.prio)).map (fun x => x.words.length)).sum) ∧
    (∃ (e : Ev) (q : List Ev) (used : Nat), q.Pairwise (fun x y => y.prio ≤ x.prio) ∧ used ≤ 4096 ∧
      4096 + ((q.filter (fun x => x.prio < e.prio)).map (fun x => x.words.length)).sum < used + e.words.length) :=
  ⟨⟨⟨1, 2, [0]⟩, [⟨1, 1, [0]⟩], 4095, by decide⟩, ⟨⟨1, 2, [0]⟩, [⟨1, 1, [0]⟩], 4096, by decide⟩,
    ⟨⟨1, 2, [0]⟩, [⟨1, 2, [0]⟩], 4096, by decide⟩⟩

/-- WRITE of too short a packet, of one that finds its crossing closed, and of one that is taken. -/
theorem met_HostWriteOutcomes :
    (∃ (t stated : Nat) (b : List Byte) (s u : State), u = s.tick t ∧ u.pd 15 = true ∧
      (b.length ≠ stated ∨ stated < 20 ∨ 4096 < stated)) ∧
    (∃ (t stated : Nat) (b : List Byte) (s u : State), u = s.tick t ∧ u.pd 15 = true ∧ b.length = stated ∧ 20 ≤ stated ∧
      stated ≤ 4096 ∧ (u.rxReady = false ∨ (u.coreUp = false ∧ pktSafety b = false) ∨ (.hostCore, 0) ∈ u.closed)) ∧
    (∃ (t stated : Nat) (b : List Byte) (s u : State), u = s.tick t ∧ u.pd 15 = true ∧ b.length = stated ∧ 20 ≤ stated ∧
      stated ≤ 4096 ∧ u.rxReady = true ∧ (u.coreUp = true ∨ pktSafety b = true) ∧ (.hostCore, 0) ∉ u.closed ∧
      crcGood b = true ∧ u.packetStatus 6 b = stOk ∧ pktSafety b = false ∧ u.roomFor (hdrOf 6 b) = true) ∧
    (∃ (t stated : Nat) (b : List Byte) (s u : State), u = s.tick t ∧ u.pd 15 = true ∧ b.length = stated ∧ 20 ≤ stated ∧
      stated ≤ 4096 ∧ u.rxReady = true ∧ (u.coreUp = true ∨ pktSafety b = true) ∧ (.hostCore, 0) ∉ u.closed ∧
      crcGood b = true ∧ u.packetStatus 6 b = stOk ∧ pktSafety b = true) ∧
    (∃ (t stated : Nat) (b : List Byte) (s u : State), u = s.tick t ∧ u.pd 15 = true ∧ b.length = stated ∧ 20 ≤ stated ∧
      stated ≤ 4096 ∧ u.rxReady = true ∧ (u.coreUp = true ∨ pktSafety b = true) ∧ (.hostCore, 0) ∉ u.closed ∧
      crcGood b = false) :=
  ⟨⟨tt, 19, zeros 19, live, _, rfl, by decide +kernel⟩,
    ⟨tt, 20, nopBytes, { live with closed := [(.hostCore, 0)] }, _, rfl, by decide +kernel⟩,
    ⟨tt, 20, nopBytes, live, _, rfl, by decide +kernel⟩,
    ⟨tt, 44, safetyBytes, live, _, rfl, by decide +kernel⟩,
    ⟨tt, 20, zeros 16 ++ [1, 2, 3, 4], live, _, rfl, by decide +kernel⟩⟩

/-- A reply of 24 bytes, clocked to its last byte, one byte short of it, and none. -/
theorem met_ReadReplyRemovesWhole :
    (∃ (t n : Nat) (ecc : List Ecc) (s u : State) (r : Reply) (rest : List Reply), u = s.tick t ∧ u.pd 15 = true ∧
      ecc.contains .bad = false ∧ u.cmds.replies = r :: rest ∧ (u.replyBytesOf r).length ≤ n) ∧
    (∃ (t n : Nat) (ecc : List Ecc) (s u : State) (r : Reply) (rest : List Reply), u = s.tick t ∧ u.pd 15 = true ∧
      ecc.contains .bad = false ∧ u.cmds.replies = r :: rest ∧ n < (u.replyBytesOf r).length) ∧
    (∃ (t : Nat) (ecc : List Ecc) (s u : State), u = s.tick t ∧ u.pd 15 = true ∧ u.cmds.replies = []) :=
  ⟨⟨tt, 24, [.corrected], { live with cmds := { replies := [⟨hdr0, 0x0100, 0, 0, [], false, 0⟩] } }, _,
      ⟨hdr0, 0x0100, 0, 0, [], false, 0⟩, [], rfl, by decide +kernel⟩,
    ⟨tt, 23, [], { live with cmds := { replies := [⟨hdr0, 0x0100, 0, 0, [], false, 0⟩] } }, _,
      ⟨hdr0, 0x0100, 0, 0, [], false, 0⟩, [], rfl, by decide +kernel⟩,
    ⟨tt, [], live, _, rfl, by decide +kernel⟩⟩

theorem met_InactivePairKeepsLatch : ∃ (t src : Nat) (s u : State), u = s.tick t ∧ src < 115 ∧ src ≠ 99 ∧
    twf {} (u.wireMends src).faults.srcs = true ∧ u.pairIgnored src = false ∧ (u.fsrc src).latched = true ∧
    ((u.wireMends src).fsrc src).active = true :=
  ⟨tt, 114, { live with faults := { srcs := [(114, { active := true, latched := true })], wires := [114] } }, _, rfl,
    by decide +kernel⟩

/-- Source 58 is of the safety class, 60 is active, 61 may be cleared. -/
theorem met_FaultClearClearsWhatItMay : ∃ (t : Nat) (mask : BitVec 128) (s u : State), u = s.tick t ∧ u.serves ∧ u.waits hdr0 = false ∧
    twf {} u.faults.srcs = true ∧
    (∃ n, n ∈ maskSrcs mask ∧ (u.fsrc n).active = false ∧ safetyClass n = false ∧ (u.fsrc n).latched = true) ∧
    (∃ n, n ∈ maskSrcs mask ∧ (u.fsrc n).active = true) ∧ ∃ n, n ∈ maskSrcs mask ∧ safetyClass n = true :=
  ⟨tt, 0x3400000000000000, { live with faults := { srcs :=
      [(58, { latched := true }), (60, { active := true, latched := true }), (61, { latched := true })] } }, _, rfl,
    serves_of (by decide +kernel), by decide +kernel, by decide +kernel, ⟨61, by decide +kernel⟩, ⟨60, by decide +kernel⟩,
    58, by decide +kernel⟩

theorem met_SafetyCommandsNeedControl :
    (∃ (s : State) (op c : Nat) (b : List Byte), (op = 0x0B01 ∨ op = 0x0B02) ∧ fbe b 1 1 = 3 ∧
      bit (s.nslCfg c) 19 = false ∧ twf {} s.safety.conns = true) ∧
    (∃ (s : State) (c arg : Nat), bit (s.nslCfg c) 19 = true ∧ s.running = true ∧ arg = s.safety.signet.toNat) ∧
    (∃ (s : State) (c arg : Nat), bit (s.nslCfg c) 19 = true ∧ s.running = false) ∧
    (∃ (s : State) (c arg : Nat), bit (s.nslCfg c) 19 = true ∧ arg ≠ s.safety.signet.toNat) :=
  ⟨⟨live, 0x0B02, 15, controlFrame 2 0, by decide +kernel⟩, ⟨control, 15, 0, by decide +kernel⟩,
    ⟨{ control with image := {} }, 15, 0, by decide +kernel⟩, control, 15, 1, by decide +kernel⟩

/-- A hub with slot B as given. -/
def slotted (w : FwSlot) : State := { live with boot := { phase := .ready, running := 0, slotB := w } }

theorem met_UpdateRefusals :
    (∃ (u : State) (slot : Nat), u = State.tick tt live ∧ u.coreUp = true ∧ u.waits hdr0 = false ∧ slot < 2 ∧ slot = u.boot.running) ∧
    (∃ (s u : State) (slot k : Nat), u = s.tick tt ∧ u.coreUp = true ∧ u.waits hdr0 = false ∧ slot < 2 ∧ k < 64 ∧ (u.act k).busy = true ∧
      (u.act k).kind = 8 ∧ (u.act k).arg 0 = slot) ∧
    (∃ (s u : State) (h : Hdr) (slot : Nat), u = s.tick tt ∧ u.coreUp = true ∧ u.waits hdr0 = false ∧ slot < 2 ∧ (u.fw (1 - slot)).st = .opened ∧
      (u.fw (1 - slot)).owner ≠ some (ownerOf h)) ∧
    (∃ (s u : State) (h : Hdr) (slot len : Nat), u = s.tick tt ∧ u.coreUp = true ∧ u.waits hdr0 = false ∧ slot < 2 ∧
      u.updOpenStatus h slot 0 = stOk ∧ 8 * 1024 * 1024 < len) ∧
    (∃ (s u : State) (h : Hdr), u = s.tick tt ∧ u.coreUp = true ∧ u.waits hdr0 = false ∧
      ∀ n, n < 2 → ¬((u.fw n).st = .opened ∧ (u.fw n).owner = some (ownerOf h))) ∧
    (∃ (s u : State) (h : Hdr) (off n : Nat) (bytes : List Byte), u = s.tick tt ∧ u.coreUp = true ∧ u.waits hdr0 = false ∧
      u.openSlot h = some n ∧ (u.fw n).len < off + bytes.length) ∧
    (∃ (s u : State) (slot : Nat), u = s.tick tt ∧ u.coreUp = true ∧ u.waits hdr0 = false ∧ slot < 2 ∧ (u.fw slot).st ≠ .written ∧
      (u.fw slot).st ≠ .verified) ∧
    (∃ s u : State, u = s.tick tt ∧ u.coreUp = true ∧ u.waits hdr0 = false ∧ u.boot.phase ≠ .recovery ∧ (u.fw u.boot.running).st ≠ .trial) ∧
    (∃ (s u : State) (slot code : Nat), u = s.tick tt ∧ u.coreUp = true ∧ u.waits hdr0 = false ∧ u.boot.phase = .recovery ∧ slot < 2 ∧
      code % 16 ≠ 0) ∧
    (∃ (s u : State) (slot c : Nat) (keyOk sigOk : Bool), u = s.tick tt ∧ u.coreUp = true ∧ u.waits hdr0 = false ∧ slot < 2 ∧
      u.hasWork (fun w => w == .slotVerify slot) = true ∧ slotCode (u.fw slot).image u.boot.fuses keyOk sigOk = c ∧
      c ≠ 0) ∧
    (∃ (s u v : State) (h : Hdr) (off n : Nat) (bytes : List Byte), u = s.tick tt ∧
      v = u.modFw n (fun w => { w with bytes := putBytes bytes off w.bytes }) ∧ u.coreUp = true ∧ u.waits hdr0 = false ∧
      u.openSlot h = some n ∧ off % 4 = 0 ∧ off + bytes.length ≤ (u.fw n).len ∧ (v.fw n).bytes.length = (v.fw n).len) :=
  ⟨⟨_, 0, rfl, by decide +kernel⟩,
    ⟨{ live with acts := [(63, { typ := 8, args := [1, 0, 0, 0], st := .armed })] }, _, 1, 63, rfl, by decide +kernel⟩,
    ⟨slotted { st := .opened, owner := some (0, 5) }, _, hdr0, 0, rfl, by decide +kernel⟩,
    ⟨live, _, hdr0, 1, 8388609, rfl, by decide +kernel⟩,
    ⟨live, _, hdr0, rfl, by decide +kernel, by decide +kernel, by decide +kernel⟩,
    ⟨slotted { st := .opened, len := 8, owner := some (1, 1023) }, _, hdr0, 8, 1, [1], rfl, by decide +kernel⟩,
    ⟨live, _, 1, rfl, by decide +kernel⟩, ⟨live, _, rfl, by decide +kernel⟩,
    ⟨{ live with boot := { phase := .recovery } }, _, 1, 1, rfl, by decide +kernel⟩,
    ⟨{ slotted { st := .written } with cmds := { deferred := [⟨hdr0, 0x0C03, .slotVerify 1⟩] } }, _, 1, 1, true, true, rfl,
      by decide +kernel⟩,
    ⟨slotted { st := .opened, len := 4, owner := some (1, 1023) }, _, _, hdr0, 0, 1, [1, 2, 3, 4], rfl, rfl,
      by decide +kernel⟩⟩

theorem met_PacketTrailer : ∃ b : List Byte, 4 ≤ b.length ∧ crcGood b = true := ⟨nopBytes, by decide +kernel⟩

/-- A tie, a value at the edge of 24 bits, one beyond it, and a sample. -/
theorem met_SampleWords : (rneQ (1 / 2) = 0 ∧ rneQ (3 / 2) = 2) ∧ (fmtRound 24 8388607).2 = false ∧
    (fmtRound 24 8388608).2 = true ∧ ∃ (p : Pend) (v : Rat), p.cause = 0 ∧ p.v = some v :=
  ⟨by decide +kernel, by decide +kernel, by decide +kernel, { seq := 0, t := 0, fl := 0, gain := 0, v := some 5 }, 5, rfl,
    rfl⟩

/-! The hypotheses of the completion statements, one theorem for each statement. -/

/-- The conditions of every clause of HostPortCommandsComplete are met somewhere. -/
theorem met_HostPortCommandsComplete :
    (∃ (t : Nat) (s u : State) (stated : Nat) (bytes : List Byte), u = s.tick t ∧ u.pd 15 = true ∧
      bytes.length = stated ∧ 20 ≤ stated ∧ stated ≤ 4096 ∧ u.rxReady = true ∧ u.coreUp = true ∧
      u.closed.contains (.hostCore, 0) = false ∧ crcGood bytes = true) ∧
    (∃ (t : Nat) (s u : State) (clocked : Nat) (ecc : List Ecc) (r : Reply) (rest : List Reply) (y : State),
      u = s.tick t ∧ y = u.holdRead ecc ∧ u.pd 15 = true ∧ ecc.contains .bad = false ∧ u.cmds.replies = r :: rest ∧
      (y.replyBytesOf r).length ≤ clocked) ∧
    (∃ (t : Nat) (s u : State) (clocked : Nat) (ecc : List Ecc), u = s.tick t ∧ u.pd 15 = true) ∧
    (∃ (t : Nat) (s u : State), u = s.tick t ∧ u.pd 15 = true) ∧
    (∃ (t : Nat) (s u : State) (code : Nat), u = s.tick t ∧ u.pd 15 = true ∧ (code = 0 ∨ 4 < code)) :=
  ⟨⟨tt, live, _, 20, nopBytes, rfl, by decide +kernel⟩,
    ⟨tt, { live with cmds := { replies := [⟨hdr0, 0x0100, 0, 0, [], false, 0⟩] } }, _, 24, [.corrected],
      ⟨hdr0, 0x0100, 0, 0, [], false, 0⟩, [], _, rfl, rfl, by decide +kernel⟩,
    ⟨tt, live, _, 0, [], rfl, by decide +kernel⟩,
    ⟨tt, live, _, rfl, by decide +kernel⟩,
    ⟨tt, live, _, 0, rfl, by decide +kernel⟩⟩

/-- The conditions of every clause of SystemCommandsComplete are met somewhere. -/
theorem met_SystemCommandsComplete :
    (∃ (t : Nat) (s u : State) (p : Pkt), u = s.tick t ∧ u.coreUp = true ∧ u.core.st = .running ∧
      pickPkt (u.cmds.waiting.filter u.ready) = some p) ∧
    (∃ (t : Nat) (s u : State) (h : Hdr), u = s.tick t ∧ u.serves ∧ u.waits h = false) ∧
    (∃ (t : Nat) (s u : State) (h : Hdr), u = s.tick t ∧ u.serves ∧ u.waits h = false ∧ u.boot.running < 2) ∧
    (∃ (t : Nat) (s u : State) (h : Hdr) (scope : Nat), u = s.tick t ∧ u.serves ∧ u.waits h = false ∧
      fld scope 0 4 ≠ 0) ∧
    (∃ (t : Nat) (s u : State) (h : Hdr) (f : Fence) (y : State), u = s.tick t ∧ y = u.fenceOutStep f ∧
      u.coreUp = true ∧ u.cmds.fences.find? (fun f => f.h == h && f.step == .cfg) = some f ∧ u.cfgMet f = true) ∧
    (∃ (t : Nat) (s u : State) (h : Hdr) (f : Fence), u = s.tick t ∧ u.coreUp = true ∧
      u.cmds.fences.find? (fun f => f.h == h && f.step == .out) = some f ∧ u.outMet f = true) ∧
    (∃ (t : Nat) (s u : State) (h : Hdr) (domain action : Nat), u = s.tick t ∧ u.serves ∧ u.waits h = false ∧
      u.pdCtlStatus domain action 0 = stOk) :=
  ⟨⟨tt, { live with cmds := { waiting := [⟨hdr0, 0x0100, false, 1023, 0, []⟩] } }, _,
      ⟨hdr0, 0x0100, false, 1023, 0, []⟩, rfl, by decide +kernel⟩,
    ⟨tt, live, _, hdr0, rfl, serves_of (by decide +kernel), by decide +kernel⟩,
    ⟨tt, live, _, hdr0, rfl, serves_of (by decide +kernel), by decide +kernel⟩,
    ⟨tt, live, _, hdr0, 3, rfl, serves_of (by decide +kernel), by decide +kernel⟩,
    ⟨tt, { live with cmds := { fences := [⟨hdr0, true, true, .cfg, 0, 0⟩] } }, _, hdr0,
      ⟨hdr0, true, true, .cfg, 0, 0⟩, _, rfl, rfl, by decide +kernel⟩,
    ⟨tt, { live with cmds := { fences := [⟨hdr0, true, true, .out, 0, 0⟩] } }, _, hdr0,
      ⟨hdr0, true, true, .out, 0, 0⟩, rfl, by decide +kernel⟩,
    ⟨tt, live, _, hdr0, 15, 0, rfl, serves_of (by decide +kernel), by decide +kernel⟩⟩

/-- The conditions of every clause of RoutingAndSourceCommandsComplete are met somewhere. -/
theorem met_RoutingAndSourceCommandsComplete :
    (∃ (t : Nat) (s u : State) (cell : Nat) (ws : List (Nat × Nat × Nat)), u = s.tick t ∧ ws = u.dueWrites cell ∧
      cell < 48 ∧ u.cellRuns cell = true ∧ onGrid (u.cell cell).origin basePeriod u.now = true) ∧
    (∃ (t : Nat) (s u : State) (cell : Nat) (e : Nat), u = s.tick t ∧ cell < 48 ∧ (u.cell cell).closing = some e ∧
      e ≤ u.now) ∧
    (∃ (t : Nat) (s u : State) (x : Crossing) (unit : Nat), u = s.tick t ∧ unit < unitCount (crossingUnit x)) ∧
    (∃ (t : Nat) (s u : State) (cell tap : Nat), u = s.tick t ∧ cell < 48 ∧ tap < 12 ∧ u.cellRuns cell = true ∧
      bit (u.cell cell).excursions.toNat tap = false) ∧
    (∃ (t : Nat) (s u : State) (cell tap : Nat), u = s.tick t ∧ cell < 48 ∧ tap < 12) ∧
    (∃ (t : Nat) (s u : State) (src : Nat) (m : Monitor), u = s.tick t ∧ src < 192 ∧ u.evaluates src = true ∧
      (u.src src).evalAt ≤ u.now) ∧
    (∃ (t : Nat) (s u : State) (src : Nat) (m : Monitor) (z y : State), u = s.tick t ∧
      z = whenB (u.evaluates src && decide ((u.src src).evalAt ≤ u.now))
          (fun x => ((x.modSrc src (Src.measured m x.now)).monitorStep src m).setSrcStatus src) u ∧
      y = z.modSrc src (fun c => { c with rSum := 0, rN := 0, driftAt := z.now + 1000000000 }) ∧ src < 192 ∧
      z.evaluates src = true ∧ (z.src src).rN ≠ 0 ∧ (z.src src).driftAt ≤ z.now ∧
      fld (z.effAt (pid 0x17 src 0x014)) 0 20 ≠ 0 ∧ z.effAt (pid 0x17 src 0x010) ≠ 0 ∧ y.effF 0x17 src 0 0 3 ≠ 0) ∧
    (∃ (t : Nat) (s u : State) (src : Nat) (e : Nat), u = s.tick t ∧ src < 192 ∧ (u.src src).blankUntil = some e ∧
      e ≤ u.now) :=
  ⟨⟨tt, live, _, 47, _, rfl, rfl, by decide +kernel⟩,
    ⟨tt, { live with cells := [(47, { closing := some 5 })] }, _, 47, 5, rfl, by decide +kernel⟩,
    ⟨tt, live, _, .hostCore, 0, rfl, by decide +kernel⟩,
    ⟨tt, live, _, 47, 11, rfl, by decide +kernel⟩,
    ⟨tt, live, _, 47, 11, rfl, by decide +kernel⟩,
    ⟨tt, live, _, 191, ⟨1000, 1000, 1000, 0⟩, rfl, by decide +kernel⟩,
    ⟨tt, item 0x17 191 0 1 (item 0x17 191 0x010 350000 { live with srcs := [(191, { rSum := 350000, rN := 1 })] }), _,
      191, ⟨0, 0, 0, 0⟩, _, _, rfl, rfl, rfl, by decide +kernel⟩,
    ⟨tt, { live with srcs := [(191, { blankUntil := some 5 })] }, _, 191, 5, rfl, by decide +kernel⟩⟩

/-- The conditions of every clause of AmplifierAndRangeCommandsComplete are met somewhere. -/
theorem met_AmplifierAndRangeCommandsComplete :
    (∃ (t : Nat) (s u : State) (cell qa : Nat) (lv : QaLevels), u = s.tick t ∧ cell < 48 ∧ qa < 2 ∧
      ((u.effF 0x10 cell (0x130 + qa) 4 2 ≠ 1 ∧ u.qaBeyond cell qa (u.effF 0x10 cell (0x130 + qa) 8 7) lv = true) ∨
          ((u.qa cell qa).due = true ∧ u.qaBeyond cell qa 95 lv = true)) ∧
      u.cellRuns cell = true ∧ u.qaWaits cell qa lv = false) ∧
    (∃ (t : Nat) (s u : State) (cell qa : Nat) (lv : QaLevels), u = s.tick t ∧ cell < 48 ∧ qa < 2 ∧
      u.effF 0x10 cell (0x130 + qa) 4 2 ≠ 0 ∧ onGrid (u.cell cell).origin basePeriod u.now = true ∧
      (u.qa cell qa).last + u.effF 0x10 cell (0x130 + qa) 16 12 * 1000000000 ≤ u.now ∧ u.cellRuns cell = true ∧
      u.qaWaits cell qa lv = false) ∧
    (∃ (t : Nat) (s u : State) (cell qa : Nat) (lv : QaLevels), u = s.tick t ∧ cell < 48 ∧ qa < 2 ∧
      (u.qa cell qa).due = true ∧ onGrid (u.cell cell).origin basePeriod u.now = true ∧ u.cellRuns cell = true ∧
      u.qaWaits cell qa lv = false) ∧
    (∃ (t : Nat) (s u : State) (ch : Nat) (e : Nat), u = s.tick t ∧ ch < 384 ∧ (u.chan ch).recEnd = some e ∧
      e ≤ u.now) ∧
    (∃ (t : Nat) (s u : State) (cell : Nat) (p : Bool) (ch c : Nat) (v : Bool), u = s.tick t ∧ cell < 48 ∧
      u.cellRuns cell = true ∧ (u.cell cell).seam = .takeover p ch c v ∧ c + 64 * basePeriod ≤ u.now ∧
      u.chanRuns ch = true) ∧
    (∃ (t : Nat) (s u : State) (cell : Nat) (ch g b : Nat), u = s.tick t ∧ cell < 48 ∧
      (u.cell cell).seam = .seamless 1 ch g b ∧ u.seamAt ch b 256 = true) ∧
    (∃ (t : Nat) (s u : State) (cell : Nat) (ch g b : Nat), u = s.tick t ∧ cell < 48 ∧
      (u.cell cell).seam = .seamless 4 ch g b ∧ u.seamAt ch b 4160 = true) ∧
    (∃ (t : Nat) (s u : State) (ch : Nat), u = s.tick t ∧ ch < 384 ∧ u.autoReady ch = true ∧
      u.effF 0x11 ch 0x040 8 3 < (u.chan ch).gain ∧ u.clippedTwice ch = true) ∧
    (∃ (t : Nat) (s u : State) (ch : Nat), u = s.tick t ∧ ch < 384 ∧ u.autoReady ch = true ∧ u.changing ch = false ∧
      (u.chan ch).gain < u.effF 0x11 ch 0x040 12 3 ∧
      (u.chan ch).quietFrom + u.effF 0x11 ch 0x041 0 12 * 1000000000 ≤ (u.chan ch).fedAt) ∧
    (∃ (t : Nat) (s u : State) (cell modulator : Nat), u = s.tick t ∧ cell < 48 ∧ modulator < 9 ∧
      u.cellRuns cell = true ∧ modulator ≠ 8 ∧ u.isRetired cell modulator = false ∧
      (u.chan (8 * cell + modulator)).conv ≠ .none_ ∧
      (u.chan (8 * cell + modulator)).pausedFrom.any (fun e => e ≤ u.now) = false) ∧
    (∃ (t : Nat) (s u : State) (ch : Nat) (e : Nat), u = s.tick t ∧ ch < 384 ∧ (u.chan ch).coldUntil = some e ∧
      e ≤ u.now ∧ u.outAt ch u.now = true) ∧
    (∃ (t : Nat) (s u : State) (h : Hdr) (cell : Nat) (val : Word), u = s.tick t ∧ u.serves ∧ u.waits h = false ∧
      u.itemStatus (pid 0x10 cell 0x120) val.toNat = stOk ∧ u.spAssignStatus cell val.toNat = stOk) ∧
    (∃ (t : Nat) (s u : State) (cell : Nat) (ps : List BasePer) (p : Bool) (ch c : Nat), u = s.tick t ∧ cell < 48 ∧
      (u.cell cell).seam = .takeover p ch c true ∧ u.seamAt ch c 4160 = true) ∧
    (∃ (t : Nat) (s u : State) (cell : Nat) (ps : List BasePer) (p : Bool) (ch c : Nat), u = s.tick t ∧ cell < 48 ∧
      (u.cell cell).seam = .handback p ch c true ∧ u.seamAt ch c 4160 = true) :=
  ⟨⟨tt, live, _, 47, 1, ⟨2 ^ 39, [0], [0], 1⟩, rfl, by decide +kernel⟩,
    ⟨tt, item 0x10 47 0x131 0x10010 live, _, 47, 1, ⟨2 ^ 39, [0], [0], 1⟩, rfl, by decide +kernel⟩,
    ⟨tt, { live with cells := [(47, { qa1 := { due := true } })] }, _, 47, 1, ⟨2 ^ 39, [0], [0], 1⟩, rfl,
      by decide +kernel⟩,
    ⟨tt, { live with chans := [(383, { recEnd := some 5 })] }, _, 383, 5, rfl, by decide +kernel⟩,
    ⟨tt, { live with cells := [(0, { seam := .takeover true 3 5 false })] }, _, 0, true, 3, 5, false, rfl,
      by decide +kernel⟩,
    ⟨tt, { live with cells := [(0, { seam := .seamless 1 3 2 0 })] }, _, 0, 3, 2, 0, rfl, by decide +kernel⟩,
    ⟨tt, { live with cells := [(0, { seam := .seamless 4 3 2 0 })] }, _, 0, 3, 2, 0, rfl, by decide +kernel⟩,
    ⟨tt,
      item 0x11 7 0x040 0x20 (live.modChan 7 (fun c => { c with
            gain := 3, clips := [tt - basePeriod, tt - 2 * basePeriod] })),
      _, 7, rfl, by decide +kernel⟩,
    ⟨tt, item 0x11 7 0x040 0x7020 (live.modChan 7 (fun c => { c with fedAt := tt })), _, 7, rfl, by decide +kernel⟩,
    ⟨tt, live, _, 47, 7, rfl, by decide +kernel⟩,
    ⟨tt, { live with chans := [(383, { coldUntil := some 5 })] }, _, 383, 5, rfl, by decide +kernel⟩,
    ⟨tt, live, _, hdr0, 47, 0x103, rfl, serves_of (by decide +kernel), by decide +kernel⟩,
    ⟨tt, { live with cells := [(0, { seam := .takeover true 3 5 true })] }, _, 0, [], true, 3, 5, rfl,
      by decide +kernel⟩,
    ⟨tt, { live with cells := [(0, { seam := .handback true 3 5 true })] }, _, 0, [], true, 3, 5, rfl,
      by decide +kernel⟩⟩

/-- The conditions of every clause of VibratingWireCommandsComplete are met somewhere. -/
theorem met_VibratingWireCommandsComplete :
    (∃ (t : Nat) (s u : State) (h : Hdr) (src : Nat), u = s.tick t ∧ u.serves ∧ u.waits h = false ∧
      u.vwReadStatus src = stOk) ∧
    (∃ (t : Nat) (s u : State) (src : Nat) (m : Monitor), u = s.tick t ∧ src < 192 ∧ (u.src src).vw = .resistance ∧
      u.vwStepEnds src (u.effF 0x17 src 0x016 0 10 + 10) = true ∧ u.coilCheck src m = 0) ∧
    (∃ (t : Nat) (s u : State) (src : Nat), u = s.tick t ∧ src < 192 ∧ (u.src src).vw = .pluckWait ∧
      u.vwStepEnds src 0 = true) ∧
    (∃ (t : Nat) (s u : State) (src : Nat) (ch : Nat) (y : State), u = s.tick t ∧
      y = ((u.modSrc src (fun c => { c with vw := .listen, vwSince := u.now, mode := 0, iSet := 0 })).openPoints
          (src / 4) u.now).spanBusy ch ∧
      src < 192 ∧ (u.src src).vw = .pluck ∧ u.vwStepEnds src (u.effF 0x17 src 4 0 7) = true ∧ ch = (u.src src).vwCh) ∧
    (∃ (t : Nat) (s u : State) (src : Nat) (p : Span), u = s.tick t ∧ src < 192 ∧ (u.src src).vw = .listen ∧
      (u.chan (u.src src).vwCh).span = some p ∧ p.left = some 0) :=
  ⟨⟨tt, item 0x17 191 0 4 (item 0x11 376 0x020 0x2000 live), _, hdr0, 191, rfl, serves_of (by decide +kernel),
      by decide +kernel⟩,
    ⟨tt, { live with srcs := [(191, { vw := .resistance })] }, _, 191, ⟨1000000, 500000, 500000, 5000000⟩, rfl,
      by decide +kernel⟩,
    ⟨tt, { live with srcs := [(191, { vw := .pluckWait })] }, _, 191, rfl, by decide +kernel⟩,
    ⟨tt, { live with srcs := [(191, { vw := .pluck, vwCh := 376 })] }, _, 191, 376, _, rfl, rfl, by decide +kernel⟩,
    ⟨tt,
      { live with
            srcs := [(191, { vw := .listen, vwCh := 376 })]
            chans := [(376, { span := some ⟨2, 0, [], 0, some 0, 0, false, 0, 0, false, 0, 0, 2⟩ })] },
      _, 191, ⟨2, 0, [], 0, some 0, 0, false, 0, 0, false, 0, 0, 2⟩, rfl, by decide +kernel⟩⟩

/-- The conditions of every clause of SampleAndGaitCommandsComplete are met somewhere. -/
theorem met_SampleAndGaitCommandsComplete :
    (∃ (t : Nat) (s u : State) (ch : Nat) (ps : List BasePer), u = s.tick t ∧ ch < 384 ∧ u.feeds ch = true) ∧
    (∃ (t : Nat) (s u : State) (ch : Nat) (ps : List BasePer) (y : State) (x : Int) (z : State), u = s.tick t ∧
      y = u.feed ch ps ∧ x = (y.chan ch).coarseNow ∧
      z = y.modChan ch (fun c => { c with coarseV := BitVec.ofInt 32 x, coarseFl := y.coarseFl ch }) ∧ ch < 384 ∧
      u.feeds ch = true ∧ onGrid (u.cell (cellOfCh ch)).origin 1000000 u.now = true ∧ y.chanRuns ch = true) ∧
    (∃ (t : Nat) (s u : State) (h : Hdr) (gait : Nat), u = s.tick t ∧ u.serves ∧ u.waits h = false ∧
      u.itemStatus (pid 0x12 gait 0x012) 1 = stOk ∧ u.swapStatus gait = stOk) ∧
    (∃ (t : Nat) (s u : State) (gait : Nat) (b : Nat) (y : State), u = s.tick t ∧
      y = forAll (List.range 384) State.pendingGait u ∧ gait < 8 ∧ (u.gait gait).pendingAt = some b ∧
      u.boundaryWaits = false ∧ b ≤ u.now ∧ u.gaitBoundary gait = true ∧ (u.gait gait).written = false) ∧
    (∃ (t : Nat) (s u : State) (ch : Nat) (g b : Nat), u = s.tick t ∧ ch < 384 ∧ u.boundaryWaits = false ∧
      (u.chan ch).gaitPend = some (g, b) ∧ u.chanRuns ch = true ∧ b ≤ u.now ∧ u.outAt ch u.now = true) ∧
    (∃ (t : Nat) (s u : State) (ch : Nat) (g : Gap) (y : State), u = s.tick t ∧
      y = (u.putGap ch none g true).modChan ch (fun c => { c with
            gap := some (gapRest g u.now (g.t0 + g.count * u.outPeriod ch)) }) ∧
      ch < 384 ∧ (u.chan ch).gap = some g ∧ gapDue g u.now = true ∧ u.pd 2 = true ∧ y.trig.recs = []) ∧
    (∃ (t : Nat) (s u : State) (h : Hdr) (ch : Nat), u = s.tick t ∧ u.serves ∧ u.waits h = false ∧ ch < 384) ∧
    (∃ (t : Nat) (s u : State) (h : Hdr) (ch : Nat), u = s.tick t ∧ u.serves ∧ u.waits h = false ∧ ch < 384) :=
  ⟨⟨tt, { live with chans := [(383, { fedAt := tt - basePeriod, slotAt := tt - basePeriod })] }, _, 383,
      [{ own := List.replicate 256 5 }], rfl, by decide +kernel⟩,
    ⟨tt, { live with chans := [(383, { fedAt := tt, slotAt := tt })] }, _, 383, [], _, _, _, rfl, rfl, rfl, rfl,
      by decide +kernel⟩,
    ⟨tt, item 0x12 7 0x011 0x10010001 live, _, hdr0, 7, rfl, serves_of (by decide +kernel), by decide +kernel⟩,
    ⟨tt, { live with gaits := [(7, { pendingAt := some 5 })] }, _, 7, 5, _, rfl, rfl, by decide +kernel⟩,
    ⟨tt, { live with chans := [(383, { gaitPend := some (2, 5) })] }, _, 383, 2, 5, rfl, by decide +kernel⟩,
    ⟨tt, { live with chans := [(0, { gap := some ⟨1, 0, 1, 0, 0, {}⟩ })] }, _, 0, ⟨1, 0, 1, 0, 0, {}⟩, _, rfl, rfl,
      by decide +kernel⟩,
    ⟨tt, live, _, hdr0, 383, rfl, serves_of (by decide +kernel), by decide +kernel⟩,
    ⟨tt, live, _, hdr0, 383, rfl, serves_of (by decide +kernel), by decide +kernel⟩⟩

/-- The conditions of every clause of ReductionCommandsComplete are met somewhere. -/
theorem met_ReductionCommandsComplete :
    (∃ (t : Nat) (s u : State) (h : Hdr) (ch : Nat), u = s.tick t ∧ u.serves ∧ u.waits h = false ∧
      u.itemStatus (pid 0x11 ch 0x063) 1 = stOk) ∧
    (∃ (t : Nat) (s u : State) (h : Hdr) (ch : Nat), u = s.tick t ∧ u.serves ∧ u.waits h = false ∧
      u.itemStatus (pid 0x11 ch 0x063) 2 = stOk) ∧
    (∃ (t : Nat) (s u : State) (h : Hdr) (ch : Nat), u = s.tick t ∧ u.serves ∧ u.waits h = false ∧
      u.itemStatus (pid 0x11 ch 0x063) 4 = stOk) ∧
    (∃ (t : Nat) (s u : State) (h : Hdr) (ch : Nat), u = s.tick t ∧ u.serves ∧ u.waits h = false ∧
      u.itemStatus (pid 0x11 ch 0x063) 8 = stOk) ∧
    (∃ (t : Nat) (s u : State) (ch : Nat) (y : State), u = s.tick t ∧
      y = u.modChan ch (fun c => { c with gridDue := false }) ∧ ch < 384 ∧ (u.chan ch).gridDue = true ∧
      y.redEn ch 0 = true ∧ y.cfgN 0x11 ch 0x061 ≠ 0 ∧ (u.chan ch).gridSlot % y.cfgN 0x11 ch 0x061 = 0 ∧
      (y.closeAcc ch {}).redEn ch 1 = false) ∧
    (∃ (t : Nat) (s u : State) (h : Hdr) (ch : Nat), u = s.tick t ∧ u.serves ∧ u.waits h = false ∧
      u.itemStatus (pid 0x11 ch 0x084) 1 = stOk ∧ u.measStatus ch = stOk) ∧
    (∃ (t : Nat) (s u : State) (ch : Nat) (p : Span), u = s.tick t ∧ ch < 384 ∧ (u.chan ch).span = some p ∧
      p.left = some 0) ∧
    (∃ (t : Nat) (s u : State) (ch : Nat) (p : Span), u = s.tick t ∧ ch < 384 ∧ (u.chan ch).span = some p ∧
      p.ended = true ∧ p.typ = 3) :=
  ⟨⟨tt, live, _, hdr0, 383, rfl, serves_of (by decide +kernel), by decide +kernel⟩,
    ⟨tt, live, _, hdr0, 383, rfl, serves_of (by decide +kernel), by decide +kernel⟩,
    ⟨tt, live, _, hdr0, 383, rfl, serves_of (by decide +kernel), by decide +kernel⟩,
    ⟨tt, live, _, hdr0, 383, rfl, serves_of (by decide +kernel), by decide +kernel⟩,
    ⟨tt, item 0x11 383 0x060 1 (item 0x11 383 0x061 100 (live.modChan 383 (fun c => { c with gridDue := true }))), _,
      383, _, rfl, rfl, by decide +kernel⟩,
    ⟨tt, live, _, hdr0, 383, rfl, serves_of (by decide +kernel), by decide +kernel⟩,
    ⟨tt, { live with chans := [(383, { span := some ⟨3, 0, [], 0, some 0, 0, false, 0, 0, true, 0, 0, 2⟩ })] }, _,
      383, ⟨3, 0, [], 0, some 0, 0, false, 0, 0, true, 0, 0, 2⟩, rfl, by decide +kernel⟩,
    ⟨tt, { live with chans := [(383, { span := some ⟨3, 0, [], 0, some 0, 0, false, 0, 0, true, 0, 0, 2⟩ })] }, _,
      383, ⟨3, 0, [], 0, some 0, 0, false, 0, 0, true, 0, 0, 2⟩, rfl, by decide +kernel⟩⟩

/-- The conditions of every clause of RecordCommandsComplete are met somewhere. -/
theorem met_RecordCommandsComplete :
    (∃ (t : Nat) (s u : State) (h : Hdr) (profile : Nat) (net : Bool), u = s.tick t ∧ u.serves ∧ u.waits h = false ∧
      u.itemStatus (pid 0x15 0x1FF 4) (profile ||| b2n net <<< 4) = stOk ∧ u.manualStatus profile = stOk) ∧
    (∃ (t : Nat) (s u : State) (h : Hdr) (profile : Nat) (net : Bool) (y : State) (n : Nat), u = s.tick t ∧
      u.doManual profile net = (y, some n) ∧ u.serves ∧ u.waits h = false ∧ u.running = true ∧ profile < 16 ∧
      u.manualStatus profile = stOk ∧ u.localRec profile = none) ∧
    (∃ (t : Nat) (s u : State) (h : Hdr) (slot : Nat), u = s.tick t ∧ u.serves ∧ u.waits h = false ∧
      u.itemStatus (pid 0x15 (0x100 + slot) 5) 1 = stOk ∧ u.rctlStatus slot = stOk) ∧
    (∃ (t : Nat) (s u : State) (h : Hdr) (slot : Nat), u = s.tick t ∧ u.serves ∧ u.waits h = false ∧
      u.running = true ∧ slot < 16 ∧ u.rctlStatus slot = stOk) ∧
    (∃ (t : Nat) (s u : State) (slot : Nat) (x : Nat) (r : List Nat), u = s.tick t ∧ slot < 512 ∧ u.pd 2 = true ∧
      (u.slot slot).results = x :: r) ∧
    (∃ (t : Nat) (s u : State) (trig : Nat) (f : Forming), u = s.tick t ∧ u.pd 2 = true ∧
      u.trig.forming.find? (fun f => f.trig == trig && decide (f.first + 100000 ≤ u.now)) = some f) ∧
    (∃ (t : Nat) (s u : State) (slot : Nat) (r : Record) (y : State), u = s.tick t ∧
      y = u.putLone 0x13 r.profile (.trailer (trailerOf r)) ∧ slot < 16 ∧ tfind u.trig.recs slot = some r ∧
      r.members.all Member.finished = true ∧ r.want ≤ r.results.length ∧ r.taken + 125000 ≤ u.now ∧
      u.admitOther (itemSize 0 false (.trailer (trailerOf r))) = true) ∧
    (∃ (t : Nat) (s u : State) (port seq hops : Nat) (m : NetTrig), u = s.tick t ∧ port < 6 ∧ u.carries port = true ∧
      u.bcastNew m.hub seq = true) ∧
    (∃ (t : Nat) (s u : State) (ch : Nat) (slot : Option Nat) (b : Blk), u = s.tick t ∧ ch < 384 ∧
      u.openOf ch slot = some b ∧ b.opened + u.cfgF 0x11 ch 0x0B0 16 16 * 1000000 ≤ u.now) :=
  ⟨⟨tt, item 0x15 15 0 1 (item 0x15 15 1 100 (item 0x15 15 2 1000 (item 0x15 15 0x010 1 live))), _, hdr0, 15, false,
      rfl, serves_of (by decide +kernel), by decide +kernel⟩,
    ⟨tt, item 0x15 15 0 1 (item 0x15 15 1 100 (item 0x15 15 2 1000 (item 0x15 15 0x010 1 live))), _, hdr0, 15, false,
      _, 0, rfl, Prod.ext rfl (by decide +kernel), serves_of (by decide +kernel), by decide +kernel⟩,
    ⟨tt, { live with trig := { recs := [(15, rec0)] } }, _, hdr0, 15, rfl, serves_of (by decide +kernel),
      by decide +kernel⟩,
    ⟨tt, { live with trig := { recs := [(15, rec0)] } }, _, hdr0, 15, rfl, serves_of (by decide +kernel),
      by decide +kernel⟩,
    ⟨tt, { live with trig := { slots := [(511, { results := [1, 0] })] } }, _, 511, 1, [0], rfl, by decide +kernel⟩,
    ⟨tt, { live with trig := { forming := [⟨0, 0, 1, false⟩] } }, _, 0, ⟨0, 0, 1, false⟩, rfl, by decide +kernel⟩,
    ⟨tt, { live with trig := { recs := [(15, rec0)] } }, _, 15, rec0, _, rfl, rfl, by decide +kernel⟩,
    ⟨tt, linked, _, 0, 0, 0, ⟨0, 1, 0, 0, 0, 0, 0, 0, 0⟩, rfl, by decide +kernel⟩,
    ⟨tt, { live with hold := { openBlks := [blk0] } }, _, 0, none, blk0, rfl, by decide +kernel⟩⟩

/-- The conditions of every clause of TimeMessageCommandsComplete are met somewhere. -/
theorem met_TimeMessageCommandsComplete :
    (∃ (t : Nat) (s u : State) (cause : Nat), u = s.tick t ∧ u.time.refclkOk = true) ∧
    (∃ (t : Nat) (s u : State), u = s.tick t ∧ u.time.refclkOk = false ∧
      ((u.modTime (fun m => { m with refclkOk := true })).newSegment.fsrc 74).active = true) ∧
    (∃ (t : Nat) (s u : State) (port : Nat) (x : Nat), u = s.tick t ∧ port < 6 ∧ u.timeOn port = true ∧
      u.time.state ≠ .unlocked ∧ u.time.parent ≠ port ∧ u.elapsed (u.ptime port).syncAt 62500000 = true ∧
      x = ((u.ptime port).exch + 1) % 256) ∧
    (∃ (t : Nat) (s u : State) (port : Nat) (m : TimeMsg), u = s.tick t ∧ port < 6 ∧ u.timeOn port = true ∧
      m.state ≠ 0 ∧ u.time.parent = port) ∧
    (∃ (t : Nat) (s u : State) (port : Nat) (m : TimeMsg) (d : Int) (y : State), u = s.tick t ∧
      d = meanDelay (u.ptime port).t1 m.t2 m.t3 (u.rxStamp port) ∧
      y = u.modPtime port (fun p => { p with role := 2, t2 := m.t2, t3 := m.t3, t4 := u.rxStamp port, delay := d }) ∧
      port < 6 ∧ u.timeOn port = true ∧ u.time.parent ≠ port ∧ m.exch = (u.ptime port).exch ∧
      u.time.state ≠ .unlocked) ∧
    (∃ (t : Nat) (s u : State) (port : Nat) (m : TimeMsg) (y : Int) (d : Int) (x : State), u = s.tick t ∧
      d = meanDelay m.t1 (u.ptime port).t2 (u.ptime port).t3 m.t4 ∧
      x = u.modPtime port (fun p => { p with role := 3, t1 := m.t1, t4 := m.t4, delay := d }) ∧ port < 6 ∧
      u.timeOn port = true ∧ u.time.parent = port ∧ m.exch = (u.ptime port).exch ∧ m.state ≠ 0) ∧
    (∃ (t : Nat) (s u : State) (port : Nat) (m : PtpMsg) (y : Int), u = s.tick t ∧ port < 6 ∧ u.ptpMine port m = true) ∧
    (∃ (t : Nat) (s u : State) (port : Nat), u = s.tick t ∧ port < 6 ∧ u.ptpOn port = true ∧ u.ptpSlave = some port ∧
      u.p2p port = false) ∧
    (∃ (t : Nat) (s u : State), u = s.tick t ∧ u.time.parent ≠ 7) ∧
    (∃ (t : Nat) (s u : State) (x : Nat), u = s.tick t ∧ u.time.lostAt = some x ∧ u.time.state = .locked ∧
      u.time.isLead = false ∧ x + 250000000 ≤ u.now) ∧
    (∃ (t : Nat) (s u : State), u = s.tick t ∧ u.leadEn = true ∧ u.net.id.isSome = true ∧ u.time.parent = 7 ∧
      u.time.isLead = false ∧ u.time.state ≠ .locked ∧ bestAnn u.announces = none ∧
      u.leadWaitFrom + u.cfgF 0x02 0 1 24 8 * 100000000 ≤ u.now) ∧
    (∃ (t : Nat) (s u : State), u = s.tick t ∧ u.time.state = .holdover ∧ u.time.limitPassed = false ∧
      u.holdLimit < u.bound) ∧
    (∃ (t : Nat) (s u : State) (y : State), u = s.tick t ∧ y = u.slewFold false ∧ u.time.slewFrom.isSome = true ∧
      u.slewTotal = 0 ∧ y.time.state = .locked) :=
  ⟨⟨tt, live, _, 0, rfl, by decide +kernel⟩,
    ⟨tt,
      { live with time := { refclkOk := false }, faults := { srcs := [(74, { active := true, latched := true })] } },
      _, rfl, by decide +kernel⟩,
    ⟨tt, { linked with time := { state := .locked }, cfg := [(pid 0x02 0x010 0, 1)] }, _, 0, 1, rfl,
      by decide +kernel⟩,
    ⟨tt, { linked with time := { state := .locked, parent := 0 }, cfg := [(pid 0x02 0x010 0, 1)] }, _, 0,
      ⟨0, 2, 0, 0, 0, 0, 0, 0, 0, 0⟩, rfl, by decide +kernel⟩,
    ⟨tt, { linked with time := { state := .locked }, cfg := [(pid 0x02 0x010 0, 1)] }, _, 0,
      ⟨0, 2, 0, 0, 0, 0, 0, 0, 0, 0⟩, _, _, rfl, rfl, rfl, by decide +kernel⟩,
    ⟨tt, { linked with time := { state := .locked, parent := 0 }, cfg := [(pid 0x02 0x010 0, 1)] }, _, 0,
      ⟨0, 2, 0, 0, 0, 0, 0, 0, 0, 0⟩, 0, _, _, rfl, rfl, rfl, by decide +kernel⟩,
    ⟨tt, item 0x02 0x010 0 4 (item 0x03 0 0 2 linked), _, 0,
      { kind := 0, seq := 1, origin := 0, rx := 0, cls := 0, prio1 := 0, ident := 0 }, 0, rfl, by decide +kernel⟩,
    ⟨tt,
      (item 0x02 0x010 0 4 (item 0x03 0 0 2 linked)).modPtime 0 (fun p => { p with
            master := some { kind := 11, seq := 0, origin := 0, rx := 0, cls := 0, prio1 := 0, ident := 0 } }),
      _, 0, rfl, by decide +kernel⟩,
    ⟨tt, { live with time := { state := .locked, parent := 0 } }, _, rfl, by decide +kernel⟩,
    ⟨tt, { live with time := { state := .locked, lostAt := some 5 } }, _, 5, rfl, by decide +kernel⟩,
    ⟨tt, item 0x02 0 0 0x100 { live with net := { id := some 5 } }, _, rfl, by decide +kernel⟩,
    ⟨tt, { live with time := { state := .holdover, parent := 0, parentBound := 0xFFFFFFFF } }, _, rfl,
      by decide +kernel⟩,
    ⟨tt, { live with time := { state := .locked, slewFrom := some 5 } }, _, _, rfl, rfl, by decide +kernel⟩⟩

/-- The conditions of every clause of TimeItemAndReinCommandsComplete are met somewhere. -/
theorem met_TimeItemAndReinCommandsComplete :
    (∃ (t : Nat) (s u : State) (h : Hdr), u = s.tick t ∧ u.serves ∧ u.waits h = false) ∧
    (∃ (t : Nat) (s u : State) (h : Hdr) (val : Word), u = s.tick t ∧ u.serves ∧ u.waits h = false ∧
      u.itemStatus (pid 0x02 0 7) val.toNat = stOk ∧ u.utcStatus = stOk) ∧
    (∃ (t : Nat) (s u : State) (h : Hdr), u = s.tick t ∧ u.serves ∧ u.waits h = false) ∧
    (∃ (t : Nat) (s u : State) (line : Nat) (rising : Bool), u = s.tick t ∧ line < 4 ∧ u.reinDir line = 1) ∧
    (∃ (t : Nat) (s u : State) (line : Nat) (rising : Bool), u = s.tick t ∧ line < 4 ∧ u.reinDir line = 0) ∧
    (∃ (t : Nat) (s u : State), u = s.tick t ∧ u.reinDir 1 = 2 ∧ (u.line 1).fault = false ∧ u.time.state ≠ .unlocked ∧
      u.syncDue = true) ∧
    (∃ (t : Nat) (s u : State) (line : Nat) (e : Nat), u = s.tick t ∧ line < 4 ∧ (u.line line).pulseEnd = some e ∧
      e ≤ u.now ∧ (u.line line).level = true) ∧
    (∃ (t : Nat) (s u : State), u = s.tick t ∧ u.time.parent = 6 ∧ (u.line 0).edgeAt + 1000 ≤ u.now) ∧
    (∃ (t : Nat) (s u : State), u = s.tick t ∧ u.time.parent = 6 ∧
      max (u.line 1).riseAt u.time.reinFrom + 1100000000 ≤ u.now) ∧
    (∃ (t : Nat) (s u : State) (line : Nat), u = s.tick t ∧ line < 4 ∧ u.reinDir line = 2 ∧
      (u.line line).fault = false) ∧
    (∃ (t : Nat) (s u : State) (line : Nat), u = s.tick t ∧ line < 4 ∧ 2 ≤ line ∧ (u.line line).level = true ∧
      (u.line line).riseAt + 1000000 < u.now) :=
  ⟨⟨tt, live, _, hdr0, rfl, serves_of (by decide +kernel), by decide +kernel⟩,
    ⟨tt, { live with time := { state := .locked, isLead := true } }, _, hdr0, 5, rfl, serves_of (by decide +kernel),
      by decide +kernel⟩,
    ⟨tt, live, _, hdr0, rfl, serves_of (by decide +kernel), by decide +kernel⟩,
    ⟨tt, item 0x02 0x200 0 1 live, _, 0, true, rfl, by decide +kernel⟩,
    ⟨tt, live, _, 0, false, rfl, by decide +kernel⟩,
    ⟨tt, item 0x02 0x201 0 2 { live with time := { state := .locked } }, _, rfl, by decide +kernel⟩,
    ⟨tt, { live with rein := [(3, { pulseEnd := some 5, level := true })] }, _, 3, 5, rfl, by decide +kernel⟩,
    ⟨tt, { live with time := { state := .locked, parent := 6 } }, _, rfl, by decide +kernel⟩,
    ⟨tt, { live with time := { state := .locked, parent := 6 } }, _, rfl, by decide +kernel⟩,
    ⟨tt, item 0x02 0x203 0 2 live, _, 3, rfl, by decide +kernel⟩,
    ⟨tt, item 0x02 0x203 0 1 { live with rein := [(3, { level := true })] }, _, 3, rfl, by decide +kernel⟩⟩

/-- The conditions of every clause of CalibrationCommandsComplete are met somewhere. -/
theorem met_CalibrationCommandsComplete :
    (∃ (t : Nat) (s u : State) (h : Hdr) (kind target : Nat), u = s.tick t ∧ u.serves ∧ u.waits h = false ∧
      u.running = true ∧ u.calStatus kind target = stOk) ∧
    (∃ (t : Nat) (s u : State) (h : Hdr) (kind target : Nat), u = s.tick t ∧ u.serves ∧ u.waits h = false ∧
      u.itemStatus (pid 0x16 0 4) (kind ||| target <<< 4) = stOk ∧ u.calStatus kind target = stOk) ∧
    (∃ (t : Nat) (s u : State) (h : Hdr) (val : Word), u = s.tick t ∧ u.serves ∧ u.waits h = false ∧
      u.itemStatus (pid 0x16 0 5) val.toNat = stOk) ∧
    (∃ (t : Nat) (s u : State) (cell : Nat) (ch k : Nat) (y : State), u = s.tick t ∧
      ch = 8 * cell + (u.cell cell).bgNext ∧ k = convKey cell (ch % 8) ∧
      y = (u.bgMark k).modCell cell (fun c => { c with bgNext := (c.bgNext + 1) % 8 }) ∧ cell < 48 ∧ u.coreUp = true ∧
      u.bgDue k = true ∧ u.cellFenced cell = false ∧ u.calBusy cell = false ∧ y.natIdle ch = true ∧
      y.cfgB 0x16 (0x400 + ch) 0 1 = false ∧ y.isRetired cell (ch % 8) = false ∧ y.cal.queue.contains (1, ch) = false) ∧
    (∃ (t : Nat) (s u : State) (c : CalOut) (n : Nat), u = s.tick t ∧ c.obj = .source n ∧ n < 192 ∧ u.coreUp = true ∧
      u.cellFenced (n / 4) = false) ∧
    (∃ (t : Nat) (s u : State) (cell conv : Nat) (o g : List Int) (y : State), u = s.tick t ∧
      y = u.modTrims (convKey cell conv) (fun c => { c with ofs := o, gain := g, pending := none }) ∧ cell < 48 ∧
      conv < 9 ∧ onGrid (u.cell cell).origin basePeriod u.now = true ∧ u.inOverlap cell conv = false ∧
      (u.trims (convKey cell conv)).pending = some (o, g) ∧ y.channelOf cell conv = none) ∧
    (∃ (t : Nat) (s u : State) (due : Nat), u = s.tick t ∧ u.coreUp = true ∧ u.cal.running = false ∧
      due = u.cal.triDue.getD ((u.cal.triAt.map (fun x => x + u.cfgF 0x16 0 0 16 8 * 60000000000)).getD 0) ∧
      due ≤ u.now ∧ u.triBusy = []) ∧
    (∃ (t : Nat) (s u : State) (o : TriOut), u = s.tick t ∧ u.coreUp = true ∧ u.cal.running = true ∧
      u.cfgB 0x16 0 0 1 = false ∧ u.closureOf o * 10000000 ≤ 1) ∧
    (∃ (t : Nat) (s u : State) (quadrant : Nat) (d k : Int), u = s.tick t ∧ k = rne (d * 524288) 5000000 ∧
      quadrant < 4 ∧ tfind u.cal.trimDue quadrant = some d ∧ u.trimSecond quadrant = true) ∧
    (∃ (t : Nat) (s u : State) (e : LogEntry), u = s.tick t ∧ u.coreUp = true ∧ u.cal.unwritten = some e ∧
      u.cal.unwrittenAt + 3600000000000 ≤ u.now) ∧
    (∃ (t : Nat) (s u : State), u = s.tick t ∧ u.coreUp = true ∧ u.elapsed u.cal.ageAt 3600000000000 = true) :=
  ⟨⟨tt, live, _, hdr0, 3, 191, rfl, serves_of (by decide +kernel), by decide +kernel⟩,
    ⟨tt, live, _, hdr0, 3, 191, rfl, serves_of (by decide +kernel), by decide +kernel⟩,
    ⟨tt, live, _, hdr0, 1, rfl, serves_of (by decide +kernel), by decide +kernel⟩,
    ⟨tt, item 0x11 376 0x0B0 0x3E80000 live, _, 47, _, _, _, rfl, rfl, rfl, rfl, by decide +kernel⟩,
    ⟨tt, live, _, ⟨.source 191, [0], [0], 0⟩, 191, rfl, by decide +kernel⟩,
    ⟨tt, { live with cal := { convs := [(convKey 47 8, { pending := some ([], []) })] } }, _, 47, 8, [], [], _, rfl,
      rfl, by decide +kernel⟩,
    ⟨tt, live, _, 0, rfl, by decide +kernel⟩,
    ⟨tt, { live with cal := { running := true } }, _, ⟨[], [], 0, [], true⟩, rfl, by decide +kernel⟩,
    ⟨tt, { live with cal := { trimDue := [(3, 5)], trimFrom := tt } }, _, 3, 5, _, rfl, rfl, by decide +kernel⟩,
    ⟨tt, { live with cal := { unwritten := some ⟨0, 0, 0, 0, [], [], [], 0⟩ } }, _, ⟨0, 0, 0, 0, [], [], [], 0⟩, rfl,
      by decide +kernel⟩,
    ⟨tt, live, _, rfl, by decide +kernel⟩⟩

/-- The conditions of every clause of SelfTestAndOpticalCommandsComplete are met somewhere. -/
theorem met_SelfTestAndOpticalCommandsComplete :
    (∃ (t : Nat) (s u : State) (h : Hdr) (test target : Nat), u = s.tick t ∧ u.serves ∧ u.waits h = false ∧
      u.running = true ∧ u.testStatus test target = stOk) ∧
    (∃ (t : Nat) (s u : State) (h : Hdr) (test target : Nat), u = s.tick t ∧ u.serves ∧ u.waits h = false ∧
      u.itemStatus (pid 0x16 0 6) (test ||| target <<< 4) = stOk ∧ u.testStatus test target = stOk) ∧
    (∃ (t : Nat) (s u : State) (test target : Nat) (failed : Bool) (data : Nat), u = s.tick t ∧ u.coreUp = true ∧
      u.hasWork (fun w => w == .test test target) = true ∧ test ≠ 1 ∧ liveTest test = true) ∧
    (∃ (t : Nat) (s u : State) (h : Hdr) (mask : Nat), u = s.tick t ∧ u.serves ∧ u.waits h = false ∧
      u.running = true ∧ u.osMaskStatus mask = stOk) ∧
    (∃ (t : Nat) (s u : State) (h : Hdr) (os : Nat), u = s.tick t ∧ u.serves ∧ u.waits h = false ∧
      u.itemStatus (pid 0x07 os 4) 1 = stOk ∧ u.osCheck os = stOk) ∧
    (∃ (t : Nat) (s u : State) (h : Hdr) (os : Nat) (shorted : Bool), u = s.tick t ∧ u.serves ∧ u.waits h = false ∧
      u.itemStatus (pid 0x07 os 4) 2 = stOk ∧ u.osClearStatus os = stOk) ∧
    (∃ (t : Nat) (s u : State) (tdrv : Int), u = s.tick t ∧ u.pd 12 = true ∧ u.updateDue = true) ∧
    (∃ (t : Nat) (s u : State) (os : Nat), u = s.tick t ∧ os < 16 ∧ u.pd 12 = true ∧ u.osLit os = true ∧
      (u.os os).short = false ∧ (u.os os).openC = false) ∧
    (∃ (t : Nat) (s u : State) (os : Nat), u = s.tick t ∧ os < 16 ∧ (u.os os).openC = true ∧
      (u.os os).openAt + 100000000 ≤ u.now) ∧
    (∃ (t : Nat) (s u : State) (pair : Nat), u = s.tick t ∧ pair < 15 ∧ u.pd 12 = true ∧ u.pairDue pair = true ∧
      (u.os pair).level = 0 ∧ (u.os (pair + 1)).level = 0) ∧
    (∃ (t : Nat) (s u : State) (pair : Nat), u = s.tick t ∧ pair < 15 ∧ u.pd 12 = true ∧ u.pairDue pair = true ∧
      (u.os pair).level = 0 ∧ (u.os (pair + 1)).level = 0 ∧ u.opt.shorted.contains pair = false) ∧
    (∃ (t : Nat) (s u : State) (h : Hdr) (val : Word), u = s.tick t ∧ u.serves ∧ u.waits h = false ∧
      u.itemStatus (pid 0x07 0x010 3) val.toNat = stOk) ∧
    (∃ (t : Nat) (s u : State), u = s.tick t ∧ u.opt.extStale = false ∧ u.opt.extAt + 60000000000 < u.now) :=
  ⟨⟨tt, live, _, hdr0, 2, 0, rfl, serves_of (by decide +kernel), by decide +kernel⟩,
    ⟨tt, live, _, hdr0, 2, 0, rfl, serves_of (by decide +kernel), by decide +kernel⟩,
    ⟨tt, { live with cmds := { deferred := [⟨hdr0, 0x0601, .test 2 0⟩] } }, _, 2, 0, false, 0, rfl, by decide +kernel⟩,
    ⟨tt, live, _, hdr0, 1, rfl, serves_of (by decide +kernel), by decide +kernel⟩,
    ⟨tt, live, _, hdr0, 15, rfl, serves_of (by decide +kernel), by decide +kernel⟩,
    ⟨tt, { live with opt := { srcs := [(15, { short := true })] } }, _, hdr0, 15, false, rfl,
      serves_of (by decide +kernel), by decide +kernel⟩,
    ⟨tt, live, _, 0, rfl, by decide +kernel⟩,
    ⟨tt, { live with opt := { srcs := [(15, { level := 1 })] } }, _, 15, rfl, by decide +kernel⟩,
    ⟨tt, { live with opt := { srcs := [(15, { openC := true, openAt := 5 })] } }, _, 15, rfl, by decide +kernel⟩,
    ⟨tt, held, _, 14, rfl, by decide +kernel⟩,
    ⟨tt, live, _, 0, rfl, by decide +kernel⟩,
    ⟨tt, live, _, hdr0, 0x1000, rfl, serves_of (by decide +kernel), by decide +kernel⟩,
    ⟨tt, live, _, rfl, by decide +kernel⟩⟩

/-- The conditions of every clause of QueueCommandsComplete are met somewhere. -/
theorem met_QueueCommandsComplete :
    (∃ (t : Nat) (s u : State) (h : Hdr), u = s.tick t ∧ u.serves ∧ u.waits h = false ∧ u.itemStatus qctlId 1 = stOk) ∧
    (∃ (t : Nat) (s u : State) (h : Hdr), u = s.tick t ∧ u.serves ∧ u.waits h = false ∧ u.itemStatus qctlId 2 = stOk) ∧
    (∃ (t : Nat) (s u : State) (h : Hdr), u = s.tick t ∧ u.serves ∧ u.waits h = false ∧ u.itemStatus qctlId 4 = stOk) ∧
    (∃ (t : Nat) (s u : State) (h : Hdr), u = s.tick t ∧ u.serves ∧ u.waits h = false ∧ u.itemStatus qctlId 8 = stOk) ∧
    (∃ (t : Nat) (s u : State) (h : Hdr) (count : Nat) (ecc : List Ecc) (y : State) (bytes : List Byte) (n : Nat),
      u = s.tick t ∧ State.takeEntries count u ecc = (y, bytes, n, 0) ∧ u.serves ∧ u.waits h = false ∧ 1 ≤ count ∧
      count ≤ 509) ∧
    (∃ (t : Nat) (s u : State), u = s.tick t ∧ u.pd 2 = true ∧ u.anyReady = true ∧
      u.cfgF 0x08 0 7 0 12 * 4096 ≤ u.fill) ∧
    (∃ (t : Nat) (s u : State) (b : Blk), u = s.tick t ∧ u.hold.blks.find? u.readable = some b ∧
      ((u.hold.blks.filter Blk.staged).map Blk.size).sum + b.size ≤ stagingRegion) :=
  ⟨⟨tt, live, _, hdr0, rfl, serves_of (by decide +kernel), by decide +kernel⟩,
    ⟨tt, live, _, hdr0, rfl, serves_of (by decide +kernel), by decide +kernel⟩,
    ⟨tt, live, _, hdr0, rfl, serves_of (by decide +kernel), by decide +kernel⟩,
    ⟨tt, live, _, hdr0, rfl, serves_of (by decide +kernel), by decide +kernel⟩,
    ⟨tt, live, _, hdr0, 1, [.ok], _, _, 0, rfl,
      Prod.ext rfl (Prod.ext rfl (Prod.ext (by decide +kernel) (by decide +kernel))), serves_of (by decide +kernel),
      by decide +kernel⟩,
    ⟨tt,
      item 0x08 0 7 1 { stored with
            hold := { blks := [⟨1, 0, 0, false, 0, 0, 0, 0, 0, 0, 0, [], 65536, 0, none, 0, 0, false, 0, 0, false, 0,
              false⟩] } },
      _, rfl, by decide +kernel⟩,
    ⟨tt,
      item 0x01 0 0x420 0x8005 { linked with
            links := [(0, { kind := 3 })]
            net := { id := some 5 }
            stores := [(0, { st := 2 })]
            hold := { blks := [{ blk0 with routes := 1, spilled := true }] } },
      _, { blk0 with routes := 1, spilled := true }, rfl, by decide +kernel⟩⟩

/-- The conditions of every clause of StorageCommandsComplete are met somewhere. -/
theorem met_StorageCommandsComplete :
    (∃ (t : Nat) (s u : State) (st : Nat), u = s.tick t ∧ st < 2 ∧ u.pd 14 = true ∧ 1 ≤ (u.store st).st ∧
      (u.store st).st ≤ 3) ∧
    (∃ (t : Nat) (s u : State) (h : Hdr) (st : Nat), u = s.tick t ∧ u.serves ∧ u.waits h = false ∧
      u.itemStatus (pid 0x04 (1 + st) 0) 1 = stOk) ∧
    (∃ (t : Nat) (s u : State) (h : Hdr) (st : Nat), u = s.tick t ∧ u.serves ∧ u.waits h = false ∧
      u.itemStatus (pid 0x04 (1 + st) 0) 2 = stOk) ∧
    (∃ (t : Nat) (s u : State) (st : Nat) (d : StDev) (y : State), u = s.tick t ∧
      y = (u.modStore st (fun x => { x.found d with st := 2, cap := sectorsUsed d.sectors, attach := false })).mount ∧
      st < 2 ∧ u.pd 14 = true ∧ (u.store st).st = 1 ∧ (u.store st).attach = false ∧ d.ok = true ∧
      d.label.isSome = true ∧ d.label = u.labelId) ∧
    (∃ (t : Nat) (s u : State) (st : Nat) (y : State), u = s.tick t ∧
      y = { u with
            hold := { u.hold with blks := u.hold.blks.map (fun (b : Blk) => { b with spillPort := 2 }) }
            arc := { u.arc with written := u.arc.written.map (fun (a : ArcBlk) => { a with alone := false }) } } ∧
      st < 2 ∧ (u.store st).st = 3 ∧ (u.store (1 - st)).cap ≤ u.resilverPoint st) ∧
    (∃ (t : Nat) (s u : State) (st lifeA lifeB eol : Nat), u = s.tick t ∧ st < 2 ∧ u.inLayout st = true ∧
      lifeA < u.cfgF 0x04 0 4 0 4 ∧ lifeB < u.cfgF 0x04 0 4 0 4 ∧ eol < 2 ∧
      u.elapsed (u.store st).lifeAt 3600000000000 = true) ∧
    (∃ (t : Nat) (s u : State) (ch : Nat) (ecc : List Ecc), u = s.tick t ∧ u.pd 2 = true ∧ u.arc.mounted = true ∧
      u.anyReady = true ∧ u.ringSize ≠ 0 ∧ u.arcReady ch = true) ∧
    (∃ (t : Nat) (s u : State) (index : Nat), u = s.tick t ∧ u.arc.mounted = true) ∧
    (∃ (t : Nat) (s u : State) (sel : ArcSel) (bad : List Nat) (n : Nat) (y : State), u = s.tick t ∧
      y = { u with arc := { u.arc with jobSkipped := min 0xFFFF n } } ∧ u.arc.job = some (true, sel) ∧
      n = (u.arc.written.filter (fun (a : ArcBlk) => selArc sel a && bad.contains a.index)).length) ∧
    (∃ (t : Nat) (s u : State) (h : Hdr) (sel : ArcSel), u = s.tick t ∧ u.serves ∧ u.waits h = false ∧
      u.arc.job = none ∧ u.anyReady = true) ∧
    (∃ (t : Nat) (s u : State) (h : Hdr) (sel : ArcSel), u = s.tick t ∧ u.serves ∧ u.waits h = false ∧
      u.arc.job = none ∧ u.anyReady = true) ∧
    (∃ (t : Nat) (s u : State) (h : Hdr) (off len : Nat), u = s.tick t ∧ u.serves ∧ u.waits h = false ∧ 1 ≤ len ∧
      len ≤ 4072 ∧ off + len ≤ u.arc.exported.length) ∧
    (∃ (t : Nat) (s u : State) (h : Hdr), u = s.tick t ∧ u.serves ∧ u.waits h = false ∧ u.arc.job.isSome = true) :=
  ⟨⟨tt, stored, _, 0, rfl, by decide +kernel⟩,
    ⟨tt, live, _, hdr0, 1, rfl, serves_of (by decide +kernel), by decide +kernel⟩,
    ⟨tt, live, _, hdr0, 1, rfl, serves_of (by decide +kernel), by decide +kernel⟩,
    ⟨tt, { live with stores := [(1, { st := 1 })], net := { id := some 5 } }, _, 1, ⟨true, 0, some 5, none, none⟩, _,
      rfl, rfl, by decide +kernel⟩,
    ⟨tt, { live with stores := [(0, { st := 2, cap := 1000 }), (1, { st := 3, resFrom := 5 })] }, _, 1, _, rfl, rfl,
      by decide +kernel⟩,
    ⟨tt, stored, _, 0, 1, 1, 0, rfl, by decide +kernel⟩,
    ⟨tt, { stored with arc := { mounted := true, openBlks := [(0, [blk0])], openSince := [(0, 5)] } }, _, 0, [], rfl,
      by decide +kernel⟩,
    ⟨tt, { live with arc := { mounted := true } }, _, 0, rfl, by decide +kernel⟩,
    ⟨tt, { live with arc := { job := some (true, ⟨0, 0, 0, 0⟩) } }, _, ⟨0, 0, 0, 0⟩, [], 0, _, rfl, rfl,
      by decide +kernel⟩,
    ⟨tt, stored, _, hdr0, ⟨0, 0, 0, 0⟩, rfl, serves_of (by decide +kernel), by decide +kernel⟩,
    ⟨tt, stored, _, hdr0, ⟨0, 0, 0, 0⟩, rfl, serves_of (by decide +kernel), by decide +kernel⟩,
    ⟨tt, { live with arc := { exported := [1, 2, 3, 4] } }, _, hdr0, 3, 1, rfl, serves_of (by decide +kernel),
      by decide +kernel⟩,
    ⟨tt, { live with arc := { job := some (true, ⟨0, 0, 0, 0⟩) } }, _, hdr0, rfl, serves_of (by decide +kernel),
      by decide +kernel⟩⟩

/-- The conditions of every clause of LaneBringUpCommandsComplete are met somewhere. -/
theorem met_LaneBringUpCommandsComplete :
    (∃ (t : Nat) (s u : State) (lane : Nat), u = s.tick t ∧ lane < 6 ∧ u.lanePowered lane = true ∧
      (u.lane lane).st = .down) ∧
    (∃ (t : Nat) (s u : State) (lane : Nat), u = s.tick t ∧ lane < 6 ∧ u.lanePowered lane = true ∧
      (u.lane lane).st = .down ∧ (u.lane lane).pllAt.isSome = true) ∧
    (∃ (t : Nat) (s u : State) (lane : Nat) (a : Nat), u = s.tick t ∧ lane < 6 ∧ u.lanePowered lane = true ∧
      (u.lane lane).st = .down ∧ (u.lane lane).pllAt = some a ∧ a + 1000000 ≤ u.now) ∧
    (∃ (t : Nat) (s u : State) (lane : Nat), u = s.tick t ∧ lane < 6 ∧ (u.lane lane).st ≠ .down ∧
      (u.lane lane).st ≠ .failed) ∧
    (∃ (t : Nat) (s u : State) (lane : Nat), u = s.tick t ∧ lane < 6 ∧ (u.lane lane).st = .failed ∧
      u.elapsed (u.lane lane).pllAt 100000000 = true) ∧
    (∃ (t : Nat) (s u : State) (lane : Nat), u = s.tick t ∧ lane < 6 ∧ (u.lane lane).st = .failed ∧
      u.elapsed (u.lane lane).pllAt 100000000 = true) ∧
    (∃ (t : Nat) (s u : State) (port : Nat), u = s.tick t ∧ port < 6 ∧ u.helloDue port = true) ∧
    (∃ (t : Nat) (s u : State) (port : Nat) (m : Hello) (y : State), u = s.tick t ∧
      y = (u.takePartner port m).modLane port (fun l => { l with seenPartner := true, signal := true }) ∧ port < 6 ∧
      u.borku port = true ∧ (u.lane port).st = .up ∧ (y.lane port).st ≠ .seek) ∧
    (∃ (t : Nat) (s u : State) (port : Nat), u = s.tick t ∧ port < 6 ∧ (u.link port).lastHello + 30000000 ≤ u.now) ∧
    (∃ (t : Nat) (s u : State) (port : Nat) (a : Nat), u = s.tick t ∧ port < 6 ∧ (u.lane port).st = .change ∧
      (u.lane port).switchAt = some a ∧ a ≤ u.now) ∧
    (∃ (t : Nat) (s u : State) (port : Nat), u = s.tick t ∧ port < 6 ∧ (u.lane port).st = .adapt ∧
      (u.lane port).gen = 2) ∧
    (∃ (t : Nat) (s u : State) (port : Nat), u = s.tick t ∧ port < 6 ∧ u.adaptFailed port = true) ∧
    (∃ (t : Nat) (s u : State) (port : Nat) (control status : BitVec 16) (eyeOk : Bool), u = s.tick t ∧ port < 6 ∧
      (u.lane port).st = .adapt ∧ (u.lane port).gen = 3 ∧ (u.lane port).dataOn = false) ∧
    (∃ (t : Nat) (s u : State) (port : Nat), u = s.tick t ∧ port < 6 ∧ (u.lane port).st = .adapt ∧
      (u.lane port).gen = 3 ∧ (u.lane port).dataOn = false ∧ 64 ≤ (u.lane port).readyFrames) ∧
    (∃ (t : Nat) (s u : State) (port : Nat), u = s.tick t ∧ port < 6 ∧ (u.lane port).gen = 3 ∧ (u.lane port).st = .up) ∧
    (∃ (t : Nat) (s u : State) (port : Nat), u = s.tick t ∧ port < 6 ∧ (u.lane port).st = .up) ∧
    (∃ (t : Nat) (s u : State) (port : Nat) (a : Nat), u = s.tick t ∧ port < 6 ∧ (u.lane port).st = .up ∧
      (u.lane port).lostAt = some a ∧ a + 1000000 ≤ u.now ∧ u.ethMode port = false) ∧
    (∃ (t : Nat) (s u : State) (port : Nat) (fullDuplex : Bool), u = s.tick t ∧ port < 6 ∧ (u.lane port).st = .seek ∧
      u.ethMode port = true ∧ u.cfgF 0x03 port 0 1 2 ≠ 1) :=
  ⟨⟨tt, live, _, 5, rfl, by decide +kernel⟩,
    ⟨tt, { live with lanes := [(5, { pllAt := some 5 })] }, _, 5, rfl, by decide +kernel⟩,
    ⟨tt, { live with lanes := [(5, { pllAt := some 5 })] }, _, 5, 5, rfl, by decide +kernel⟩,
    ⟨tt, { live with lanes := [(5, { st := .seek })] }, _, 5, rfl, by decide +kernel⟩,
    ⟨tt, { live with lanes := [(5, { st := .failed, pllAt := some 5 })] }, _, 5, rfl, by decide +kernel⟩,
    ⟨tt, { live with lanes := [(5, { st := .failed, pllAt := some 5 })] }, _, 5, rfl, by decide +kernel⟩,
    ⟨tt, { live with lanes := [(5, { st := .seek })] }, _, 5, rfl, by decide +kernel⟩,
    ⟨tt, linked, _, 0, ⟨7, 7, 0, true, 2, none, 0, false, false, 0, 1023, 0, 0, 0, 0, 0, 0, 0⟩, _, rfl, rfl,
      by decide +kernel⟩,
    ⟨tt, linked, _, 0, rfl, by decide +kernel⟩,
    ⟨tt, { live with lanes := [(5, { st := .change, target := 3, switchAt := some 5 })] }, _, 5, 5, rfl,
      by decide +kernel⟩,
    ⟨tt, { live with lanes := [(5, { st := .adapt, gen := 2 })] }, _, 5, rfl, by decide +kernel⟩,
    ⟨tt, { live with lanes := [(5, { st := .adapt, gen := 2, switchAt := some 5 })] }, _, 5, rfl, by decide +kernel⟩,
    ⟨tt, { live with lanes := [(5, { st := .adapt, gen := 3 })] }, _, 5, 0, 0, false, rfl, by decide +kernel⟩,
    ⟨tt, { live with lanes := [(5, { st := .adapt, gen := 3, readyFrames := 64 })] }, _, 5, rfl, by decide +kernel⟩,
    ⟨tt, linked, _, 0, rfl, by decide +kernel⟩,
    ⟨tt, linked, _, 0, rfl, by decide +kernel⟩,
    ⟨tt, { live with lanes := [(0, { st := .up, gen := 3, lostAt := some 5 })] }, _, 0, 5, rfl, by decide +kernel⟩,
    ⟨tt, item 0x03 1 0 4 { live with lanes := [(1, { st := .seek })] }, _, 1, false, rfl, by decide +kernel⟩⟩

/-- The conditions of every clause of LaneTestAndCreditCommandsComplete are met somewhere. -/
theorem met_LaneTestAndCreditCommandsComplete :
    (∃ (t : Nat) (s u : State) (h : Hdr) (port : Nat) (val : Word), u = s.tick t ∧ u.serves ∧ u.waits h = false ∧
      u.itemStatus (pid 0x03 port 3) val.toNat = stOk ∧ u.laneTestStatus port val.toNat = stOk) ∧
    (∃ (t : Nat) (s u : State) (h : Hdr) (port : Nat), u = s.tick t ∧ u.serves ∧ u.waits h = false ∧
      u.itemStatus (pid 0x03 port 6) (u.cfgN 0x03 port 6 ||| 1) = stOk ∧ u.genEn port = true) ∧
    (∃ (t : Nat) (s u : State) (h : Hdr) (port : Nat), u = s.tick t ∧ u.serves ∧ u.waits h = false ∧
      u.itemStatus (pid 0x03 port 8) 1 = stOk) ∧
    (∃ (t : Nat) (s u : State) (h : Hdr) (port : Nat), u = s.tick t ∧ u.serves ∧ u.waits h = false ∧
      u.itemStatus (pid 0x03 port 8) 2 = stOk) ∧
    (∃ (t : Nat) (s u : State) (port : Nat), u = s.tick t ∧ port < 6 ∧ (u.lane port).st = .test ∧
      u.cfgB 0x03 port 3 13 = true ∧ (u.lane port).chkLock = false) ∧
    (∃ (t : Nat) (s u : State) (port : Nat), u = s.tick t ∧ port < 6 ∧ (u.lane port).chkLock = true) ∧
    (∃ (t : Nat) (s u : State) (port : Nat), u = s.tick t ∧ port < 6 ∧ (u.lane port).chkLock = true ∧
      (u.lane port).bits ≠ chkMax) ∧
    (∃ (t : Nat) (s u : State) (port corr unc sym : Nat) (y z : State), u = s.tick t ∧
      y = ((u.bumpBy (pid 0x03 port 0x014) 0 31 corr).bumpBy (pid 0x03 port 0x015) 0 31 unc).bumpBy
          (pid 0x03 port 0x016) 0 31 sym ∧
      z = y.modLane port (fun l => { l with
            fecOver := if y.cfgF 0x03 port 7 0 16 < unc then l.fecOver + 1 else 0, fecAt := some u.now }) ∧
      port < 6 ∧ (u.lane port).gen = 3 ∧ u.elapsed (u.lane port).fecAt 1000000000 = true ∧ (z.lane port).fecOver ≠ 3) ∧
    (∃ (t : Nat) (s u : State) (port c2 c3 : Nat), u = s.tick t ∧ port < 6 ∧ u.up port = true ∧ u.borku port = true) ∧
    (∃ (t : Nat) (s u : State) (port : Nat), u = s.tick t ∧ port < 6 ∧ u.up port = true ∧ u.borku port = true ∧
      4 ≤ (u.link port).wait2 + (u.link port).wait3) :=
  ⟨⟨tt, live, _, hdr0, 5, 0, rfl, serves_of (by decide +kernel), by decide +kernel⟩,
    ⟨tt, item 0x03 5 3 0x1000 live, _, hdr0, 5, rfl, serves_of (by decide +kernel), by decide +kernel⟩,
    ⟨tt, live, _, hdr0, 5, rfl, serves_of (by decide +kernel), by decide +kernel⟩,
    ⟨tt, live, _, hdr0, 5, rfl, serves_of (by decide +kernel), by decide +kernel⟩,
    ⟨tt, item 0x03 5 3 0x2000 { live with lanes := [(5, { st := .test })] }, _, 5, rfl, by decide +kernel⟩,
    ⟨tt, { live with lanes := [(5, { st := .test, chkLock := true })] }, _, 5, rfl, by decide +kernel⟩,
    ⟨tt, { live with lanes := [(5, { st := .test, chkLock := true })] }, _, 5, rfl, by decide +kernel⟩,
    ⟨tt, linked, _, 0, 7, 0, 9, _, _, rfl, rfl, rfl, by decide +kernel⟩,
    ⟨tt, linked, _, 0, 24, 24, rfl, by decide +kernel⟩,
    ⟨tt, { linked with links := [(0, { wait2 := 4 })] }, _, 0, rfl, by decide +kernel⟩⟩

/-- The conditions of every clause of FrameAndRoutingCommandsComplete are met somewhere. -/
theorem met_FrameAndRoutingCommandsComplete :
    (∃ (t : Nat) (s u : State) (port : Nat) (ecc : List Ecc) (y : State) (x : Ready), u = s.tick t ∧
      y = u.admitWaiting ∧ port < 6 ∧ u.carries port = true ∧ tfind u.hold.sending port = none ∧
      y.pickFrame port = some x) ∧
    (∃ (t : Nat) (s u : State) (port : Nat) (order r : Nat), u = s.tick t ∧ port < 6 ∧
      tfind u.hold.sending port = some (order, r)) ∧
    (∃ (t : Nat) (s u : State) (port : Nat) (f : Frame), u = s.tick t ∧ port < 6 ∧ u.carries port = true ∧
      u.frameOk port f [0x05, 0x10] = true ∧ f.typ = 0x10 ∧ u.collectorUp port = false ∧ f.bcast = false ∧
      u.net.id = some f.dest) ∧
    (∃ (t : Nat) (s u : State) (port : Nat) (f : Frame), u = s.tick t ∧ port < 6 ∧ u.carries port = true ∧
      u.frameOk port f [0x20, 0x21] = true ∧ u.net.id ≠ some f.dest) ∧
    (∃ (t : Nat) (s u : State) (port etherType : Nat) (f : Frame), u = s.tick t ∧ port < 6 ∧ u.carries port = true ∧
      u.ethMode port = true ∧ etherType ≠ 0x88F7 ∧ etherType = u.cfgF 0x03 port 0x101 0 16 ∧ f.typ = 0x10) ∧
    (∃ (t : Nat) (s u : State) (port : Nat) (m : Lsa) (y : State), u = s.tick t ∧
      y = (u.storeLsa m).flood port (u.lsaFrame m) ∧ port < 6 ∧ u.carries port = true ∧ u.borku port = true ∧
      m.eui ≠ u.ident.eui ∧ u.lsaNewer m = true) ∧
    (∃ (t : Nat) (s u : State), u = s.tick t ∧ u.pd 13 = true ∧ u.net.lsaAt + 1000000000 ≤ u.now) ∧
    (∃ (t : Nat) (s u : State) (eui : Nat) (e : DbEntry), u = s.tick t ∧ u.dbEntry eui = some e ∧ e.held = false ∧
      tfind u.net.routes e.lsa.id = none ∧ e.seenAt + 4000000000 ≤ u.now) ∧
    (∃ (t : Nat) (s u : State) (eui : Nat) (e : DbEntry), u = s.tick t ∧ u.dbEntry eui = some e ∧ e.held = true ∧
      e.t + u.cfgF 0x01 0 0x400 16 8 * 3600000000000 ≤ u.now) ∧
    (∃ (t : Nat) (s u : State), u = s.tick t ∧ u.net.dirty = true) ∧
    (∃ (t : Nat) (s u : State) (dest : Nat) (a : Nat), u = s.tick t ∧ tfind u.net.mask0Since dest = some a ∧
      tfind u.net.routes dest = none ∧ some dest ≠ u.net.id ∧ a + 1000000000 ≤ u.now) ∧
    (∃ (t : Nat) (s u : State) (tag : Nat) (x : Proxy) (a : Nat), u = s.tick t ∧ tfind u.net.proxies tag = some x ∧
      x.lastReply = some a ∧ x.accepted = false ∧ a + 10000000000 ≤ u.now) ∧
    (∃ (t : Nat) (s u : State) (h : Hdr) (detach : Bool), u = s.tick t ∧ u.serves ∧ u.waits h = false ∧
      u.attachStatus h = stOk) ∧
    (∃ (t : Nat) (s u : State) (h : Hdr) (id : Nat) (m : Lsa) (a : Nat), u = s.tick t ∧ u.serves ∧ u.waits h = false ∧
      u.lsaHeld id = some (m, a)) ∧
    (∃ (t : Nat) (s u : State) (h : Hdr) (id : Nat), u = s.tick t ∧ u.serves ∧ u.waits h = false ∧
      tfind u.net.routes id = none ∧ u.net.id ≠ some id) ∧
    (∃ (t : Nat) (s u : State), u = s.tick t ∧ u.net.idState = 1 ∧ u.net.claimAt + 200000000 ≤ u.now ∧
      u.net.lostClaim = false ∧ u.idTaken u.net.candidate = false ∧ u.takeId.boot.waitId = none) :=
  ⟨⟨tt, { linked with links := [(0, { pGrant2 := 24, pGrant3 := 24, out := [(0, frame0)] })] }, _, 0, [], _,
      .frame 0 frame0, rfl, rfl, by decide +kernel⟩,
    ⟨tt, { live with hold := { sending := [(5, (1, 2))] } }, _, 5, 1, 2, rfl, by decide +kernel⟩,
    ⟨tt, { linked with net := { id := some 5 } }, _, 0, frame0, rfl, by decide +kernel⟩,
    ⟨tt, linked, _, 0, ⟨0x20, 2, false, 5, 6, 0, 0, [], true⟩, rfl, by decide +kernel⟩,
    ⟨tt, item 0x03 0 0 2 linked, _, 0, 0x88B5, frame0, rfl, by decide +kernel⟩,
    ⟨tt, linked, _, 0, ⟨5, 5, 0, 1, false, 0, []⟩, _, rfl, rfl, by decide +kernel⟩,
    ⟨tt, live, _, rfl, by decide +kernel⟩,
    ⟨tt, { live with net := { db := [(5, ⟨⟨5, 5, 0, 1, false, 0, []⟩, 0, 0, false⟩)] } }, _, 5,
      ⟨⟨5, 5, 0, 1, false, 0, []⟩, 0, 0, false⟩, rfl, by decide +kernel⟩,
    ⟨tt, { live with net := { db := [(5, ⟨⟨5, 5, 0, 1, false, 0, []⟩, 0, 0, true⟩)] } }, _, 5,
      ⟨⟨5, 5, 0, 1, false, 0, []⟩, 0, 0, true⟩, rfl, by decide +kernel⟩,
    ⟨tt, { live with net := { dirty := true } }, _, rfl, by decide +kernel⟩,
    ⟨tt, { live with net := { mask0Since := [(5, 7)] } }, _, 5, 7, rfl, by decide +kernel⟩,
    ⟨tt, { live with net := { proxies := [(0xF000, ⟨0xF000, 0, some 7, false⟩)] } }, _, 0xF000,
      ⟨0xF000, 0, some 7, false⟩, 7, rfl, by decide +kernel⟩,
    ⟨tt, { linked with net := { id := some 5, proxies := [(0xF000, ⟨0xF000, 0, none, false⟩)] } }, _,
      ⟨0, 5, 0xF000, 8, 0, true, 2⟩, false, rfl, serves_of (by decide +kernel), by decide +kernel⟩,
    ⟨tt, { live with net := { db := [(5, ⟨⟨5, 5, 0, 1, false, 0, []⟩, 0, 0, false⟩)] } }, _, hdr0, 5,
      ⟨5, 5, 0, 1, false, 0, []⟩, 0, rfl, serves_of (by decide +kernel), by decide +kernel⟩,
    ⟨tt, live, _, hdr0, 5, rfl, serves_of (by decide +kernel), by decide +kernel⟩,
    ⟨tt, { live with net := { idState := 1, candidate := 5 } }, _, rfl, by decide +kernel⟩⟩

/-- The conditions of every clause of FaultCommandsComplete are met somewhere. -/
theorem met_FaultCommandsComplete :
    (∃ (t : Nat) (s u : State) (src : Nat) (detail : Word), u = s.tick t ∧ src < 128 ∧ src < 92 ∧
      u.pairIgnored src = false ∧ ((u.wireMends src).fsrc src).active = false) ∧
    (∃ (t : Nat) (s u : State) (src : Nat), u = s.tick t ∧ src < 128 ∧ src < 115 ∧ src ≠ 99 ∧
      u.pairIgnored src = false ∧ ((u.wireMends src).fsrc src).active = true) ∧
    (∃ (t : Nat) (s u : State) (pair : Nat), u = s.tick t ∧ pair < 128 ∧ pair < 92 ∧ u.pairIgnored pair = false ∧
      pair ∉ u.faults.wires) ∧
    (∃ (t : Nat) (s u : State) (y : State), u = s.tick t ∧
      y = { u with faults := { u.faults with aliveAt := some u.now } } ∧ u.elapsed u.faults.aliveAt 1000000 = true ∧
      y.aliveHolds = true ∧ y.faults.aliveCause = none) ∧
    (∃ (t : Nat) (s u : State), u = s.tick t ∧ u.faults.served = true ∧ u.faults.window = none) ∧
    (∃ (t : Nat) (s u : State), u = s.tick t ∧ u.faults.clearAsked = true ∧ u.faults.tested = true ∧
      u.outSevere = [] ∧ u.faults.lastLatch + 10000000 ≤ u.now) ∧
    (∃ (t : Nat) (s u : State), u = s.tick t ∧ u.coreUp = true ∧ u.faults.locket.valid = true ∧
      u.faults.copied = false) ∧
    (∃ (t : Nat) (s u : State) (h : Hdr), u = s.tick t ∧ u.serves ∧ u.waits h = false ∧ u.faults.locket.valid = true) ∧
    (∃ (t : Nat) (s u : State) (h : Hdr) (mask : BitVec 128) (locket faultN : Bool) (y : State), u = s.tick t ∧
      y = u.faultClear (maskSrcs mask) locket faultN ∧ u.serves ∧ u.waits h = false) ∧
    (∃ (t : Nat) (s u : State) (h : Hdr) (kind num : Nat) (y : State), u = s.tick t ∧
      y = (if (u.causes kind num).all Cause.returning then u else u.raise 0x41 [(kind, 3), (num, 6), (0, 1),
          (lowestCause (u.causes kind num), 7)]) ∧
      u.serves ∧ u.waits h = false ∧ num < unitKinds kind ∧ u.unitFenced kind num = true ∧
      u.causeActive (u.causes kind num) = false ∧ u.heldUnit kind num = false ∧ u.core.st ≠ .resync) ∧
    (∃ (t : Nat) (s u : State) (kind num : Nat) (y : State), u = s.tick t ∧
      y = u.setCauses kind num ((u.causes kind num).filter (fun c => c != .reload)) ∧ u.coreUp = true ∧
      (u.causes kind num).contains .reload = true ∧ y.unitFenced kind num = false) ∧
    (∃ (t : Nat) (s u : State) (h : Hdr) (kind num : Nat), u = s.tick t ∧ u.serves ∧ u.waits h = false ∧
      num < unitKinds kind ∧ u.alarmUnit kind num = false) :=
  ⟨⟨tt, live, _, 91, 1, rfl, by decide +kernel⟩,
    ⟨tt, { live with faults := { srcs := [(91, { active := true, latched := true })] } }, _, 91, rfl,
      by decide +kernel⟩,
    ⟨tt, live, _, 91, rfl, by decide +kernel⟩,
    ⟨tt, { live with faults := { tested := true, served := true, aliveAt := some 5 } }, _, _, rfl, rfl,
      by decide +kernel⟩,
    ⟨tt, { live with faults := { served := true } }, _, rfl, by decide +kernel⟩,
    ⟨tt, { live with faults := { clearAsked := true, tested := true } }, _, rfl, by decide +kernel⟩,
    ⟨tt, { live with faults := { locket := { valid := true } } }, _, rfl, by decide +kernel⟩,
    ⟨tt, { live with faults := { locket := { valid := true } } }, _, hdr0, rfl, serves_of (by decide +kernel),
      by decide +kernel⟩,
    ⟨tt, live, _, hdr0, 1, false, false, _, rfl, rfl, serves_of (by decide +kernel), by decide +kernel⟩,
    ⟨tt, { live with faults := { cells := [(47, [.command])] } }, _, hdr0, 1, 47, _, rfl, rfl,
      serves_of (by decide +kernel), by decide +kernel⟩,
    ⟨tt, { live with faults := { cells := [(47, [.reload])] } }, _, 1, 47, _, rfl, rfl, by decide +kernel⟩,
    ⟨tt, live, _, hdr0, 1, 47, rfl, serves_of (by decide +kernel), by decide +kernel⟩⟩

/-- The conditions of every clause of CoreAndPairCommandsComplete are met somewhere. -/
theorem met_CoreAndPairCommandsComplete :
    (∃ (t : Nat) (s u : State) (core : Nat), u = s.tick t ∧ core < 3 ∧ u.coreRuns = true ∧ u.core.duplex = false) ∧
    (∃ (t : Nat) (s u : State), u = s.tick t ∧ u.core.st = .resync) ∧
    (∃ (t : Nat) (s u : State), u = s.tick t ∧ u.pd 1 = true ∧ (u.core.st = .running ∨ u.core.st = .resync)) ∧
    (∃ (t : Nat) (s u : State), u = s.tick t ∧ u.coreRuns = true ∧ u.core.scrubAt + 1000000000 ≤ u.now) ∧
    (∃ (t : Nat) (s u : State) (r : Nat × Nat) (q : Nat) (y : State), u = s.tick t ∧ q = (u.pair.txSeq + 1) % 2 ^ 16 ∧
      y = { u with pair := { u.pair with txSeq := q } } ∧ u.net.id.isSome = true ∧ u.partner ≠ 1023 ∧
      u.wholeMs = true ∧ tfind y.net.routes u.partner = some r) ∧
    (∃ (t : Nat) (s u : State) (port : Nat) (m : Heartbeat), u = s.tick t ∧ port < 6 ∧ u.carries port = true ∧
      u.hbAccepts m = true) ∧
    (∃ (t : Nat) (s u : State), u = s.tick t ∧ u.partner ≠ 1023 ∧ u.net.id.isSome = true ∧ u.pair.st ≠ 2 ∧
      u.pair.lastRx + 3000000 ≤ u.now) ∧
    (∃ (t : Nat) (s u : State) (h : Hdr), u = s.tick t ∧ u.serves ∧ u.waits h = false ∧
      u.itemStatus pairCtlId 1 = stOk ∧ u.timePair = true ∧ u.time.isLead = true) ∧
    (∃ (t : Nat) (s u : State), u = s.tick t ∧ u.pair.yielding = true ∧ u.pair.yieldAt + 3000000 ≤ u.now ∧
      u.yieldCause = false) ∧
    (∃ (t : Nat) (s u : State) (r : Nat) (y : State), u = s.tick t ∧
      y = { u with pair := { u.pair with retryAt := none } } ∧ u.pair.retryAt = some r ∧ r ≤ u.now ∧
      y.yieldCause = false) ∧
    (∃ (t : Nat) (s u : State) (r : Nat), u = s.tick t ∧ u.pair.retryAt = some r ∧ r ≤ u.now ∧ u.yieldCause = true ∧
      u.timePair = true ∧ u.time.isLead = true ∧ u.pair.yielding = false) :=
  ⟨⟨tt, live, _, 2, rfl, by decide +kernel⟩,
    ⟨tt, { live with core := { st := .resync } }, _, rfl, by decide +kernel⟩,
    ⟨tt, live, _, rfl, by decide +kernel⟩,
    ⟨tt, live, _, rfl, by decide +kernel⟩,
    ⟨tt, item 0x01 0 0x510 7 { linked with net := { id := some 5, routes := [(7, (0, 1))] } }, _, (0, 1), _, _, rfl,
      rfl, rfl, by decide +kernel⟩,
    ⟨tt, item 0x01 0 0x510 7 { linked with net := { id := some 5, routes := [(7, (0, 1))] } }, _, 0,
      ⟨7, 0, false, 0, 0, 0⟩, rfl, by decide +kernel⟩,
    ⟨tt, item 0x01 0 0x510 7 { linked with net := { id := some 5, routes := [(7, (0, 1))] } }, _, rfl,
      by decide +kernel⟩,
    ⟨tt, item 0x01 0 0x510 0x1007 { live with time := { state := .locked, isLead := true } }, _, hdr0, rfl,
      serves_of (by decide +kernel), by decide +kernel⟩,
    ⟨tt, { live with pair := { yielding := true } }, _, rfl, by decide +kernel⟩,
    ⟨tt, { live with pair := { retryAt := some 5 } }, _, 5, _, rfl, rfl, by decide +kernel⟩,
    ⟨tt,
      item 0x01 0 0x510 0x1007 { live with
            time := { state := .locked, isLead := true, refclkOk := false }, pair := { retryAt := some 5 } },
      _, 5, rfl, by decide +kernel⟩⟩

/-- The conditions of every clause of SafetyCommandsComplete are met somewhere. -/
theorem met_SafetyCommandsComplete :
    (∃ (t : Nat) (s u : State) (pair : Nat) (v : Option CoarseVal), u = s.tick t ∧ pair < 32 ∧ u.running = true ∧
      u.pairEn pair = true) ∧
    (∃ (t : Nat) (s u : State) (pair : Nat) (d : Nat), u = s.tick t ∧ pair < 32 ∧
      (u.apair pair).differSince = some d ∧ u.pairEn pair = true ∧
      d + u.cfgF 0x06 0 (0x104 + 8 * pair) 16 10 * 1000000 < u.now) ∧
    (∃ (t : Nat) (s u : State) (si : Nat) (a b : Bool) (y : State), u = s.tick t ∧
      y = (if (u.si si).disc && a == b then u.pairEnds (102 + si) else u) ∧ si < 4) ∧
    (∃ (t : Nat) (s u : State) (si : Nat), u = s.tick t ∧ si < 4) ∧
    (∃ (t : Nat) (s u : State) (si : Nat), u = s.tick t ∧ si < 4 ∧ u.siEn si = true ∧ (u.si si).a ≠ (u.si si).b ∧
      (u.si si).disc = false ∧ max (u.si si).sinceA (u.si si).sinceB + fld (u.siCfg si) 0 10 * 1000000 < u.now ∧
      si ≠ 1) ∧
    (∃ (t : Nat) (s u : State) (h : Hdr) (bytes : List Byte) (c st : Nat) (y z : State) (f : List Byte),
      u = s.tick t ∧ y = u.endCmd h 0x0B00 ∧ y.nslTake 0x0B00 c bytes = (z, st, f) ∧
      y.nslFind (fbe bytes 4 4) = some c ∧ y.nslOk 0x0B00 h c bytes = true) ∧
    (∃ (t : Nat) (s u : State) (h : Hdr) (bytes : List Byte) (c : Nat) (y z : State) (f : List Byte), u = s.tick t ∧
      y = u.endCmd h 0x0B01 ∧ y.nslTake 0x0B01 c bytes = (z, stOk, f) ∧ y.nslFind (fbe bytes 4 4) = some c ∧
      y.nslOk 0x0B01 h c bytes = true) ∧
    (∃ (t : Nat) (s u : State) (h : Hdr) (bytes : List Byte) (c : Nat) (y z : State) (f : List Byte), u = s.tick t ∧
      y = u.endCmd h 0x0B02 ∧ y.nslTake 0x0B02 c bytes = (z, stOk, f) ∧ y.nslFind (fbe bytes 4 4) = some c ∧
      y.nslOk 0x0B02 h c bytes = true) ∧
    (∃ (t : Nat) (s u : State) (h : Hdr) (bytes : List Byte) (c st : Nat) (y z : State) (f : List Byte),
      u = s.tick t ∧ y = u.endCmd h 0x0B03 ∧ y.nslTake 0x0B03 c bytes = (z, st, f) ∧
      y.nslFind (fbe bytes 4 4) = some c ∧ y.nslOk 0x0B03 h c bytes = true) ∧
    (∃ (t : Nat) (s u : State) (conn : Nat), u = s.tick t ∧ conn < 16 ∧ bit (u.nslCfg conn) 16 = true ∧
      (u.nsl conn).st = 1 ∧ (u.nsl conn).last + u.nslWd conn * 1000000 ≤ u.now) ∧
    (∃ (t : Nat) (s u : State) (so : Nat) (lrb : Bool) (y : State), u = s.tick t ∧
      y = u.modSo so (fun o => { o with hrb := true, lrb := lrb }) ∧ so < 2 ∧ (u.so so).st = .starting ∧
      (u.so so).hs = true) ∧
    (∃ (t : Nat) (s u : State) (so : Nat), u = s.tick t ∧ so < 2 ∧ (u.so so).st = .starting ∧ (u.so so).hs = true ∧
      (u.so so).since + u.rbT ≤ u.now) ∧
    (∃ (t : Nat) (s u : State) (so : Nat), u = s.tick t ∧ so < 2 ∧ (u.so so).st = .testing ∧
      (u.so so).tpEnded = false ∧ (u.so so).since + u.cfgF 0x06 0 0 16 7 * 10000 ≤ u.now ∧ (u.so so).sawLow = true) :=
  ⟨⟨tt, item 0x06 0 0x1F8 0x2000000 live, _, 31, some ⟨5, true, false, false⟩, rfl, by decide +kernel⟩,
    ⟨tt, item 0x06 0 0x1F8 0x2000000 { live with safety := { pairs := [(31, { differSince := some 5 })] } }, _, 31, 5,
      rfl, by decide +kernel⟩,
    ⟨tt, live, _, 3, true, true, _, rfl, rfl, by decide +kernel⟩,
    ⟨tt, live, _, 3, rfl, by decide +kernel⟩,
    ⟨tt, item 0x06 0 0x023 0x10000 { live with safety := { si := [(3, { a := true })] } }, _, 3, rfl,
      by decide +kernel⟩,
    ⟨tt,
      item 0x06 0 0x278 0x90009 (item 0x06 0 0x279 0xABCD (item 0x06 0 0x27A 500 { live with
            safety := { conns := [(15, { st := 1 })] } })),
      _, ⟨0, 9, 1, 0, 0, true, 2⟩, nslFrame 3 1 0xABCD 500 [0, 3, 0, 0, 0, 0, 0, 0], 15, stOk, _, _, _, rfl, rfl,
      Prod.ext rfl (Prod.ext (by decide +kernel) rfl), by decide +kernel⟩,
    ⟨tt,
      item 0x06 0 0x278 0x90009 (item 0x06 0 0x279 0xABCD (item 0x06 0 0x27A 500 { live with
            safety := { conns := [(15, { st := 1 })] } })),
      _, ⟨0, 9, 1, 0, 0, true, 2⟩, nslFrame 3 1 0xABCD 500 [1, 3, 0, 0, 0, 0, 0, 0], 15, _, _, _, rfl, rfl,
      Prod.ext rfl (Prod.ext (by decide +kernel) rfl), by decide +kernel⟩,
    ⟨tt,
      item 0x06 0 0x278 0x90009 (item 0x06 0 0x279 0xABCD (item 0x06 0 0x27A 500 { live with
            safety := { conns := [(15, { st := 1 })] } })),
      _, ⟨0, 9, 1, 0, 0, true, 2⟩, nslFrame 3 1 0xABCD 500 [2, 3, 0, 0, 0, 0, 0, 0], 15, _, _, _, rfl, rfl,
      Prod.ext rfl (Prod.ext (by decide +kernel) rfl), by decide +kernel⟩,
    ⟨tt, item 0x06 0 0x278 0x10009 (item 0x06 0 0x279 0xABCD (item 0x06 0 0x27A 500 live)), _,
      ⟨0, 9, 1, 0, 0, true, 2⟩, nslFrame 1 0 0xABCD 500 [], 15, stOk, _, _, _, rfl, rfl,
      Prod.ext rfl (Prod.ext (by decide +kernel) rfl), by decide +kernel⟩,
    ⟨tt,
      item 0x06 0 0x278 0x10009 (item 0x06 0 0x279 0xABCD (item 0x06 0 0x27A 500 { live with
            safety := { conns := [(15, { st := 1 })] } })),
      _, 15, rfl, by decide +kernel⟩,
    ⟨tt, { live with safety := { so1 := { st := .starting, hs := true, ls := true } } }, _, 1, false, _, rfl, rfl,
      by decide +kernel⟩,
    ⟨tt, { live with safety := { so1 := { st := .starting, hs := true, ls := true } } }, _, 1, rfl, by decide +kernel⟩,
    ⟨tt, { live with safety := { so1 := { st := .testing, sawLow := true } } }, _, 1, rfl, by decide +kernel⟩⟩

/-- The conditions of every clause of ActionCommandsComplete are met somewhere. -/
theorem met_ActionCommandsComplete :
    (∃ (t : Nat) (s u : State) (h : Hdr) (typ : Word) (target : Nat) (args : List Word) (n : Nat) (y : State),
      u = s.tick t ∧
      y = u.modAct n (fun a => { a with
            typ := typ
            target := wrap 64 target
            args := [args.getD 0 0, args.getD 1 0, args.getD 2 0, args.getD 3 0]
            st := .free }) ∧
      u.serves ∧ u.waits h = false ∧ typ &&& 0x7F = typ ∧ u.freeAct = some n ∧ (y.acceptStatus n).1 = stOk) ∧
    (∃ (t : Nat) (s u : State) (h : Hdr) (entry : Nat), u = s.tick t ∧ u.serves ∧ u.waits h = false ∧ entry < 64 ∧
      u.cancelStatus entry = stOk) ∧
    (∃ (t : Nat) (s u : State) (h : Hdr) (entry : Nat), u = s.tick t ∧ u.serves ∧ u.waits h = false ∧ entry < 64 ∧
      (u.ctlStatus entry).1 = stOk) ∧
    (∃ (t : Nat) (s u : State) (h : Hdr) (entry : Nat), u = s.tick t ∧ u.serves ∧ u.waits h = false ∧
      u.itemStatus (actCtlId entry) 2 = stOk ∧ u.cancelStatus entry = stOk) ∧
    (∃ (t : Nat) (s u : State), u = s.tick t ∧ u.coreUp = true) ∧
    (∃ (t : Nat) (s u : State) (entry : Nat), u = s.tick t ∧ entry < 64 ∧ u.actDue entry = true) ∧
    (∃ (t : Nat) (s u : State) (entry : Nat), u = s.tick t ∧ entry < 64 ∧ u.core.st = .outOfService ∧
      (u.act entry).st = .held ∧ (u.act entry).target ≤ u.counterOf (u.act entry)) :=
  ⟨⟨tt, live, _, hdr0, 0x11, tt + 1000000, [], 0, _, rfl, rfl, serves_of (by decide +kernel), by decide +kernel⟩,
    ⟨tt, { live with acts := [(63, { typ := 0x11, target := 0, args := [0, 0, 0, 0], st := .held })] }, _, hdr0, 63,
      rfl, serves_of (by decide +kernel), by decide +kernel⟩,
    ⟨tt, { live with acts := [(63, { typ := 0x11, target := tt + 1000000, args := [0, 0, 0, 0], st := .free })] }, _,
      hdr0, 63, rfl, serves_of (by decide +kernel), by decide +kernel⟩,
    ⟨tt, { live with acts := [(63, { typ := 0x11, target := 0, args := [0, 0, 0, 0], st := .held })] }, _, hdr0, 63,
      rfl, serves_of (by decide +kernel), by decide +kernel⟩,
    ⟨tt, live, _, rfl, by decide +kernel⟩,
    ⟨tt, { live with acts := [(63, { typ := 0x12, target := tt, st := .armed })] }, _, 63, rfl, by decide +kernel⟩,
    ⟨tt,
      { live with
            core := { st := .outOfService }
            acts := [(63, { typ := 0x11, target := 5, args := [0, 0, 0, 0], st := .held })] },
      _, 63, rfl, by decide +kernel⟩⟩

/-- The conditions of every clause of PowerAndResetCommandsComplete are met somewhere. -/
theorem met_PowerAndResetCommandsComplete :
    (∃ (t : Nat) (s u : State) (b : BootIn), u = s.tick t ∧ u.boot.phase = .off ∧ u.railsGood 0 = true ∧
      u.railsGood 1 = true) ∧
    (∃ (t : Nat) (s u : State), u = s.tick t ∧ u.boot.phase ≠ .off ∧ u.boot.phase ≠ .reset ∧ u.boot.stuck = false) ∧
    (∃ (t : Nat) (s u : State) (b : BootIn), u = s.tick t ∧ u.boot.phase = .reset ∧ u.railsGood 1 = true) ∧
    (∃ (t : Nat) (s u : State) (b : BootIn), u = s.tick t ∧ u.boot.phase = .reset ∧ u.railsGood 1 = true ∧
      u.boot.resetLow.getD 0 + 5000000000 ≤ u.now) ∧
    (∃ (t : Nat) (s u : State) (y : State), u = s.tick t ∧ y = u.modBoot (fun x => { x with stuck := false }) ∧
      u.boot.stuck = true ∧ (y.fsrc 112).active = true) ∧
    (∃ (t : Nat) (s u : State), u = s.tick t ∧ u.boot.phase = .rom ∧ u.pd 1 = true) ∧
    (∃ (t : Nat) (s u : State) (pd : Nat) (badPairs : List Nat), u = s.tick t ∧ pd < 16 ∧ bit u.pdOn.toNat pd = true ∧
      bit u.pdGood.toNat pd = false ∧ u.boot.phase ≠ .testHold ∧ u.boot.toPower.head? ≠ some pd ∧ pd ≠ 12) ∧
    (∃ (t : Nat) (s u : State) (pd : Nat), u = s.tick t ∧ pd < 16 ∧ u.boot.toPower.head? = some pd ∧
      u.railsGood pd = false ∧ u.elapsed u.boot.railWait 1000000000 = true) ∧
    (∃ (t : Nat) (s u : State) (rail : Rail), u = s.tick t ∧ railExists rail = true ∧ u.railGood rail = true ∧
      rail ≠ .vddaon ∧ rail ≠ .vioaon) ∧
    (∃ (t : Nat) (s u : State) (rail : Rail), u = s.tick t ∧ railExists rail = true ∧ u.railGood rail = false ∧
      u.boot.toPower = [] ∧ u.boot.phase ≠ .off ∧
      (forAll (railFeeds rail) State.railBack
          (u.modBoot (fun b => { b with rails := b.rails ++ [rail] }))).boot.toPower = []) ∧
    (∃ (t : Nat) (s u : State) (unitsSwapped : Nat) (r : Restart), u = s.tick t ∧ u.core.st = .restarting ∧
      u.pd 1 = true ∧ u.boot.restart = some r) ∧
    (∃ (t : Nat) (s u : State) (r : Restart) (w : Nat), u = s.tick t ∧ u.core.st = .restarting ∧
      u.boot.restart = some r ∧ u.faults.window = some w ∧ w ≤ u.now) ∧
    (∃ (t : Nat) (s u : State) (kind num : Nat), u = s.tick t ∧ num < swapUnits kind ∧ u.coreUp = true ∧
      u.boot.phase ≠ .firmware) ∧
    (∃ (t : Nat) (s u : State) (kind num : Nat), u = s.tick t ∧ num < swapUnits kind) :=
  ⟨⟨tt, State.reset, _, ⟨false, false, 0, 0⟩, rfl, by decide +kernel⟩,
    ⟨tt, live, _, rfl, by decide +kernel⟩,
    ⟨tt, { live with boot := { phase := .reset } }, _, ⟨false, false, 0, 0⟩, rfl, by decide +kernel⟩,
    ⟨tt, { live with boot := { phase := .reset, resetLow := some 5 } }, _, ⟨false, false, 0, 0⟩, rfl,
      by decide +kernel⟩,
    ⟨tt,
      { live with
            boot := { phase := .ready, running := 0, stuck := true }
            faults := { srcs := [(112, { active := true, latched := true })] } },
      _, _, rfl, rfl, by decide +kernel⟩,
    ⟨tt, { live with boot := { phase := .rom } }, _, rfl, by decide +kernel⟩,
    ⟨tt, { live with pdGood := 0x7FFF }, _, 15, [], rfl, by decide +kernel⟩,
    ⟨tt, { live with boot := { phase := .rom, toPower := [3], rails := [], railWait := some 5 } }, _, 3, rfl,
      by decide +kernel⟩,
    ⟨tt, live, _, .avdd 0, rfl, by decide +kernel⟩,
    ⟨tt, { live with boot := { phase := .ready, running := 0, rails := [] } }, _, .avdd 0, rfl, by decide +kernel⟩,
    ⟨tt,
      { live with core := { st := .restarting }, boot :=
          { phase := .firmware, restart := some ⟨0, 0, 0, false, []⟩ } },
      _, 0, ⟨0, 0, 0, false, []⟩, rfl, by decide +kernel⟩,
    ⟨tt,
      { live with
            core := { st := .restarting }
            boot := { phase := .firmware, restart := some ⟨0, 0, 0, false, []⟩ }
            faults := { window := some 5 } },
      _, ⟨0, 0, 0, false, []⟩, 5, rfl, by decide +kernel⟩,
    ⟨tt, live, _, 1, 47, rfl, by decide +kernel⟩,
    ⟨tt, live, _, 1, 47, rfl, by decide +kernel⟩⟩

/-- The conditions of every clause of FirmwareUpdateCommandsComplete are met somewhere. -/
theorem met_FirmwareUpdateCommandsComplete :
    (∃ (t : Nat) (s u : State) (h : Hdr), u = s.tick t ∧ u.serves ∧ u.waits h = false) ∧
    (∃ (t : Nat) (s u : State) (h : Hdr) (slot len : Nat), u = s.tick t ∧ u.serves ∧ u.waits h = false ∧
      u.updOpenStatus h slot len = stOk) ∧
    (∃ (t : Nat) (s u : State) (n : Nat), u = s.tick t ∧ u.coreUp = true ∧ u.erasing = some n) ∧
    (∃ (t : Nat) (s u : State) (h : Hdr) (off : Nat) (bytes : List Byte) (n : Nat) (y : State), u = s.tick t ∧
      y = u.modFw n (fun w => { w with bytes := putBytes bytes off w.bytes }) ∧ u.serves ∧ u.waits h = false ∧
      u.openSlot h = some n ∧ off % 4 = 0 ∧ off + bytes.length ≤ (u.fw n).len ∧ (y.fw n).bytes.length ≠ (y.fw n).len) ∧
    (∃ (t : Nat) (s u : State) (h : Hdr) (slot : Nat), u = s.tick t ∧ u.serves ∧ u.waits h = false ∧ slot < 2 ∧
      ((u.fw slot).st = .written ∨ (u.fw slot).st = .verified)) ∧
    (∃ (t : Nat) (s u : State) (slot : Nat) (keyOk sigOk : Bool), u = s.tick t ∧ slot < 2 ∧ u.coreUp = true ∧
      u.hasWork (fun w => w == .slotVerify slot) = true ∧ slotCode (u.fw slot).image u.boot.fuses keyOk sigOk = 0) ∧
    (∃ (t : Nat) (s u : State) (h : Hdr) (y : State), u = s.tick t ∧
      y = (u.modBoot (fun b => { b with active := u.boot.running })).setSlot u.boot.running .good ∧ u.serves ∧
      u.waits h = false ∧ u.boot.running < 2 ∧ (u.fw u.boot.running).st = .trial ∧ u.boot.nonActive = false) ∧
    (∃ (t : Nat) (s u : State) (h : Hdr) (slot code : Nat) (y : State), u = s.tick t ∧
      y = u.modFw slot (fun w => { w with code := code % 16 }) ∧ u.coreUp = true ∧ u.waits h = false ∧
      u.boot.phase = .recovery ∧ slot < 2 ∧ code % 16 = 0) :=
  ⟨⟨tt, live, _, hdr0, rfl, serves_of (by decide +kernel), by decide +kernel⟩,
    ⟨tt, live, _, hdr0, 1, 4096, rfl, serves_of (by decide +kernel), by decide +kernel⟩,
    ⟨tt, { live with cmds := { deferred := [⟨hdr0, 0x0C01, .erase 1⟩] } }, _, 1, rfl, by decide +kernel⟩,
    ⟨tt,
      { live with
            boot := { phase := .ready, running := 0, slotB :=
              { st := .opened, len := 8, owner := some (1, 1023) } } },
      _, hdr0, 4, [1, 2, 3, 4], 1, _, rfl, rfl, serves_of (by decide +kernel), by decide +kernel⟩,
    ⟨tt, { live with boot := { phase := .ready, running := 0, slotB := { st := .written } } }, _, hdr0, 1, rfl,
      serves_of (by decide +kernel), by decide +kernel⟩,
    ⟨tt,
      { live with
            cmds := { deferred := [⟨hdr0, 0x0C03, .slotVerify 1⟩] }
            boot := { phase := .ready, running := 0, slotB :=
              { st := .written, len := 220, bytes := [(0, 0x5A), (1, 0x46), (2, 0x57), (3, 0x4D), (4, 1),
                (7, 4)] } } },
      _, 1, true, true, rfl, by decide +kernel⟩,
    ⟨tt, { live with boot := { phase := .ready, running := 0, slotA := { st := .trial } } }, _, hdr0, _, rfl, rfl,
      serves_of (by decide +kernel), by decide +kernel⟩,
    ⟨tt, { live with boot := { phase := .recovery } }, _, hdr0, 1, 0, _, rfl, rfl, by decide +kernel⟩⟩

/-- The conditions of every clause of TestPortCommandsComplete are met somewhere. -/
theorem met_TestPortCommandsComplete :
    (∃ (t : Nat) (s u : State) (shift : List Bool), u = s.tick t ∧ (u.pd 15 = true ∨ u.boot.phase = .testHold) ∧
      u.unlocked = true) ∧
    (∃ (t : Nat) (s u : State) (shift : List Bool), u = s.tick t ∧ (u.pd 15 = true ∨ u.boot.phase = .testHold)) ∧
    (∃ (t : Nat) (s u : State), u = s.tick t ∧ (u.pd 15 = true ∨ u.boot.phase = .testHold)) ∧
    (∃ (t : Nat) (s u : State), u = s.tick t ∧ (u.pd 15 = true ∨ u.boot.phase = .testHold) ∧ u.unlocked = true) ∧
    (∃ (t : Nat) (s u : State), u = s.tick t ∧ (u.pd 15 = true ∨ u.boot.phase = .testHold) ∧ u.unlocked = true) ∧
    (∃ (t : Nat) (s u : State), u = s.tick t ∧ (u.pd 15 = true ∨ u.boot.phase = .testHold) ∧ u.unlocked = true) ∧
    (∃ (t : Nat) (s u : State), u = s.tick t ∧ (u.pd 15 = true ∨ u.boot.phase = .testHold) ∧ u.unlocked = true) ∧
    (∃ (t : Nat) (s u : State), u = s.tick t ∧ (u.pd 15 = true ∨ u.boot.phase = .testHold) ∧ u.unlocked = true) ∧
    (∃ (t : Nat) (s u : State) (failing : Nat) (y : State), u = s.tick t ∧ y = u.testHold.modTap (tapSelect 0x20 0) ∧
      (u.pd 15 = true ∨ u.boot.phase = .testHold) ∧ u.unlocked = true) ∧
    (∃ (t : Nat) (s u : State) (map : BitVec 432) (y : State), u = s.tick t ∧
      y = u.testHold.modTap (tapSelect 0x21 0) ∧ (u.pd 15 = true ∨ u.boot.phase = .testHold) ∧ u.unlocked = true ∧
      u.ident.field = true) ∧
    (∃ (t : Nat) (s u : State), u = s.tick t ∧ (u.pd 15 = true ∨ u.boot.phase = .testHold)) ∧
    (∃ (t : Nat) (s u : State) (code : BitVec 8), u = s.tick t ∧ (u.pd 15 = true ∨ u.boot.phase = .testHold) ∧
      plainCode code = false ∧ intrusiveCode code = false) ∧
    (∃ (t : Nat) (s u : State), u = s.tick t ∧ (u.pd 15 = true ∨ u.boot.phase = .testHold)) ∧
    (∃ (t : Nat) (s u : State) (h : Hdr), u = s.tick t ∧ u.serves ∧ u.waits h = false ∧ u.running = false ∧
      (u.so 0).st = .off ∧ (u.so 1).st = .off) ∧
    (∃ (t : Nat) (s u : State), u = s.tick t ∧ u.unlocked = false) ∧
    (∃ (t : Nat) (s u : State) (h : Hdr), u = s.tick t ∧ u.serves ∧ u.waits h = false) ∧
    (∃ (t : Nat) (s u : State) (temp : Int) (sensor : Nat) (y : State), u = s.tick t ∧
      y = u.modBoot (fun b => { b with
            tempNow := clampI (-32768) 32767 temp
            tempSensor := sensor % 12
            tempPeak := max b.tempPeak (clampI (-32768) 32767 temp) }) ∧
      y.coreUp = true ∧ y.elapsed y.boot.hourAt 3600000000000 = true) :=
  ⟨⟨tt, { live with tap := { unlockUntil := some (tt + 1) } }, _, [], rfl, by decide +kernel⟩,
    ⟨tt, live, _, [], rfl, by decide +kernel⟩,
    ⟨tt, live, _, rfl, by decide +kernel⟩,
    ⟨tt, { live with tap := { unlockUntil := some (tt + 1) } }, _, rfl, by decide +kernel⟩,
    ⟨tt, { live with tap := { unlockUntil := some (tt + 1) } }, _, rfl, by decide +kernel⟩,
    ⟨tt, { live with tap := { unlockUntil := some (tt + 1) } }, _, rfl, by decide +kernel⟩,
    ⟨tt, { live with tap := { unlockUntil := some (tt + 1) } }, _, rfl, by decide +kernel⟩,
    ⟨tt, { live with tap := { unlockUntil := some (tt + 1) } }, _, rfl, by decide +kernel⟩,
    ⟨tt, { live with tap := { unlockUntil := some (tt + 1) } }, _, 0, _, rfl, rfl, by decide +kernel⟩,
    ⟨tt, { live with tap := { unlockUntil := some (tt + 1) } }, _, 0, _, rfl, rfl, by decide +kernel⟩,
    ⟨tt, live, _, rfl, by decide +kernel⟩,
    ⟨tt, live, _, 0x0A, rfl, by decide +kernel⟩,
    ⟨tt, live, _, rfl, by decide +kernel⟩,
    ⟨tt, held, _, hdr0, rfl, serves_of (by decide +kernel), by decide +kernel⟩,
    ⟨tt, live, _, rfl, by decide +kernel⟩,
    ⟨tt, live, _, hdr0, rfl, serves_of (by decide +kernel), by decide +kernel⟩,
    ⟨tt, live, _, 0, 0, _, rfl, rfl, by decide +kernel⟩⟩

/-- The conditions of every clause of ItemCommandsComplete are met somewhere. -/
theorem met_ItemCommandsComplete :
    (∃ (t : Nat) (s u : State) (h : Hdr) (id val : Word), u = s.tick t ∧ u.serves ∧ u.waits h = false ∧
      u.setFailure [(id.toNat, val.toNat)] = none ∧ deferredItem id.toNat = false) ∧
    (∃ (t : Nat) (s u : State) (h : Hdr) (items : List (Word × Word)) (l : List (Nat × Nat)), u = s.tick t ∧
      l = items.map (fun x => (x.1.toNat, x.2.toNat)) ∧ u.serves ∧ u.waits h = false ∧ 2 ≤ items.length ∧
      items.length ≤ 509 ∧ u.setFailure l = none) ∧
    (∃ (t : Nat) (s u : State) (h : Hdr) (first : Word) (vals : List Word) (l : List (Nat × Nat)), u = s.tick t ∧
      l = vals.zipIdx.map (fun x => (first.toNat + x.2, x.1.toNat)) ∧ u.serves ∧ u.waits h = false ∧ 2 ≤ vals.length ∧
      vals.length ≤ 1017 ∧ rangeOk first.toNat vals.length = true ∧ u.setFailure l = none) ∧
    (∃ (t : Nat) (s u : State) (h : Hdr) (ids : List Word), u = s.tick t ∧ u.serves ∧ u.waits h = false ∧
      1 ≤ ids.length ∧ ids.length ≤ 1018 ∧
      ((ids.map BitVec.toNat).map readStatus).find? (fun st => st != stOk) = none) ∧
    (∃ (t : Nat) (s u : State) (h : Hdr) (first : Word) (count : Nat) (l : List Nat), u = s.tick t ∧
      l = (List.range count).map (first.toNat + ·) ∧ u.serves ∧ u.waits h = false ∧ 1 ≤ count ∧ count ≤ 1018 ∧
      rangeOk first.toNat count = true ∧ (l.map readStatus).find? (fun st => st != stOk) = none) :=
  ⟨⟨tt, live, _, hdr0, 0x11000040, 0x00327000, rfl, serves_of (by decide +kernel), by decide +kernel⟩,
    ⟨tt, live, _, hdr0, [(0x11000040, 0x00327000), (0x1117F040, 0x00327000)], _, rfl, rfl,
      serves_of (by decide +kernel), by decide +kernel⟩,
    ⟨tt, live, _, hdr0, 0x11000040, [0x00327000, 10], _, rfl, rfl, serves_of (by decide +kernel), by decide +kernel⟩,
    ⟨tt, live, _, hdr0, [0x11000040], rfl, serves_of (by decide +kernel), by decide +kernel⟩,
    ⟨tt, live, _, hdr0, 0x11000040, 2, _, rfl, rfl, serves_of (by decide +kernel), by decide +kernel⟩⟩

/-- The conditions of every clause of ImageCommandsComplete are met somewhere. -/
theorem met_ImageCommandsComplete :
    (∃ (t : Nat) (s u : State) (h : Hdr) (gen len : Nat), u = s.tick t ∧ u.serves ∧ u.waits h = false ∧
      u.openStatus h (wrap 32 gen) len = stOk) ∧
    (∃ (t : Nat) (s u : State) (h : Hdr) (off : Nat) (data : List Word), u = s.tick t ∧ u.serves ∧ u.waits h = false ∧
      u.imgWriteStatus h off data.length = stOk) ∧
    (∃ (t : Nat) (s u : State) (h : Hdr), u = s.tick t ∧ u.serves ∧ u.waits h = false ∧ u.ownsStaging h = true ∧
      u.image.verifying = false) ∧
    (∃ (t : Nat) (s u : State) (c i : Nat), u = s.tick t ∧ u.coreUp = true ∧ u.image.verifying = true ∧
      u.checkStaged = (c, i)) ∧
    (∃ (t : Nat) (s u : State) (h : Hdr), u = s.tick t ∧ u.serves ∧ u.waits h = false ∧ u.commitNamed = false) ∧
    (∃ (t : Nat) (s u : State) (h : Hdr) (store : Bool), u = s.tick t ∧ u.serves ∧ u.waits h = false ∧
      u.ownsStaging h = true ∧ u.image.verifying = false ∧ u.image.commitAt = none ∧ u.image.verified = true) ∧
    (∃ (t : Nat) (s u : State) (h : Hdr), u = s.tick t ∧ u.commitNow = true ∧ u.firesNow = false ∧
      u.image.loading = false ∧ u.image.committedGen = u.image.shadowBase ∧ u.image.commitBy = some h) :=
  ⟨⟨tt, live, _, hdr0, 1, 4, rfl, serves_of (by decide +kernel), by decide +kernel⟩,
    ⟨tt, { live with image := { running := true, owner := some (1, 1023), gen := 1, len := 4 } }, _, hdr0, 0, [0],
      rfl, serves_of (by decide +kernel), by decide +kernel⟩,
    ⟨tt, { live with image := { running := true, owner := some (1, 1023), gen := 1, len := 4 } }, _, hdr0, rfl,
      serves_of (by decide +kernel), by decide +kernel⟩,
    ⟨tt, { live with image := { running := true, owner := some (1, 1023), verifying := true, gen := 1, len := 4 } },
      _, 1, 0xFFFF, rfl, by decide +kernel⟩,
    ⟨tt, live, _, hdr0, rfl, serves_of (by decide +kernel), by decide +kernel⟩,
    ⟨tt, { live with image := { running := true, owner := some (1, 1023), verified := true } }, _, hdr0, false, rfl,
      serves_of (by decide +kernel), by decide +kernel⟩,
    ⟨tt,
      { live with image := { running := true, owner := some (1, 1023), commitAt := some 5, commitBy := some hdr0 } },
      _, hdr0, rfl, by decide +kernel⟩⟩

/-- The conditions of every clause of LoadingCommandsComplete are met somewhere. -/
theorem met_LoadingCommandsComplete :
    (∃ (t : Nat) (s u : State) (ports : List Nat), u = s.tick t ∧ u.image.storing = true ∧
      ports = [0, 1].filter u.inLayout ∧ ports ≠ []) ∧
    (∃ (t : Nat) (s u : State) (w : Nat) (y : State), u = s.tick t ∧
      y = u.modBoot (fun b => { b with waitId := none }) ∧ u.coreUp = true ∧ u.boot.waitId = some w ∧
      w + 10000000000 ≤ u.now ∧ y.running = false) ∧
    (∃ (t : Nat) (s u : State) (results : List CalOut) (y : State), u = s.tick t ∧ y = u.puResults results ∧
      u.coreUp = true ∧ u.cal.puDone = false ∧ u.cal.running = false) :=
  ⟨⟨tt, { stored with image := { running := true, storing := true } }, _, [0], rfl, by decide +kernel⟩,
    ⟨tt, { held with boot := { phase := .ready, running := 0, waitId := some 5 } }, _, 5, _, rfl, rfl,
      by decide +kernel⟩,
    ⟨tt, { live with boot := { phase := .firmware, running := 0 } }, _, [], _, rfl, rfl, by decide +kernel⟩⟩

end Sys2Proof.Tests
end

namespace Sys2Proof.Machine

/-! Counters: what a count leaves in the counter, and when it raises an event (R14, R401). -/

/-- The key of a field in the table of counts tells items apart, a field lying within the 32 bits of its item. -/
theorem countKey_ne {id id' lo lo' : Nat} (hlo : lo < 32) (hlo' : lo' < 32) (h : id ≠ id') :
    id * 32 + lo ≠ id' * 32 + lo' := by
  omega

theorem count_setCount_same {s : State} (hc : twf 0 s.counts = true) (id lo v : Nat) :
    (s.setCount id lo v).count id lo = v :=
  tget_tset_same 0 s.counts _ v hc

theorem count_setCount_other (s : State) {id id' lo lo' : Nat} (v : Nat) (hlo : lo < 32) (hlo' : lo' < 32)
    (h : id ≠ id') : (s.setCount id' lo' v).count id lo = s.count id lo :=
  tget_tset_other 0 s.counts _ _ v (countKey_ne hlo hlo' h)

@[simp] theorem count_updWm (s : State) (id lo : Nat) : s.updWm.count id lo = s.count id lo := rfl

@[simp] theorem count_putEv (s : State) (evCode : Nat) (fields : List (Nat × Nat)) (id lo : Nat) :
    (s.putEv evCode fields).1.count id lo = s.count id lo := by
  simp only [State.putEv]
  split <;> rfl

/-- Lost events count in QLOST only (R404). -/
theorem count_countLost (s : State) (n : Nat) {id lo : Nat} (hlo : lo < 32) (hid : id ≠ pid 0x08 0 6) :
    (s.countLost n).count id lo = s.count id lo := by
  have hset : ∀ v, (s.setCount (pid 0x08 0 6) 0 v).count id lo = s.count id lo := fun v =>
    count_setCount_other s v hlo (by decide) hid
  simp only [State.countLost]
  split <;> simp [hset]

/-- Raising an event leaves every counter but QLOST alone. -/
theorem count_raise (s : State) (evCode : Nat) (fields : List (Nat × Nat)) {id lo : Nat} (hlo : lo < 32)
    (hid : id ≠ pid 0x08 0 6) : (s.raise evCode fields).count id lo = s.count id lo := by
  simp [State.raise, count_countLost _ _ hlo hid]

theorem bumpBy_reaching {s : State} {id lo w n : Nat} (hbelow : s.count id lo < 2 ^ w - 1)
    (hreach : 2 ^ w - 1 ≤ s.count id lo + n) :
    s.bumpBy id lo w n = (s.setCount id lo (2 ^ w - 1)).raise 0x10 (satFields id lo) := by
  simp [State.bumpBy, Nat.min_eq_left hreach, hbelow]

theorem bumpBy_not_reaching {s : State} {id lo w n : Nat}
    (h : ¬(s.count id lo < 2 ^ w - 1 ∧ 2 ^ w - 1 ≤ s.count id lo + n)) :
    s.bumpBy id lo w n = s.setCount id lo (min (2 ^ w - 1) (s.count id lo + n)) :=
  if_neg fun ⟨hbelow, hmax⟩ => h ⟨hbelow, min_eq_left_iff.1 hmax⟩

theorem count_bumpBy {s : State} (hc : twf 0 s.counts = true) {id lo : Nat} (w n : Nat) (hlo : lo < 32)
    (hid : id ≠ pid 0x08 0 6) :
    (s.bumpBy id lo w n).count id lo = min (2 ^ w - 1) (s.count id lo + n) := by
  by_cases h : s.count id lo < 2 ^ w - 1 ∧ 2 ^ w - 1 ≤ s.count id lo + n
  · obtain ⟨hbelow, hreach⟩ := h
    rw [bumpBy_reaching hbelow hreach, count_raise _ _ _ hlo hid, count_setCount_same hc, Nat.min_eq_left hreach]
  · rw [bumpBy_not_reaching h, count_setCount_same hc]

theorem sat_iff (s : State) (id lo w : Nat) : s.sat id lo w = true ↔ s.count id lo = 2 ^ w - 1 :=
  beq_iff_eq

theorem cnt16_of_sat {s : State} {id : Nat} (h : s.sat id 16 16 = true) : s.cnt16 id = 0xFFFF8000 := by
  rw [State.cnt16, h, (sat_iff s id 16 16).1 h]
  rfl

theorem cnt31_of_sat {s : State} {id : Nat} (h : s.sat id 0 31 = true) : s.cnt31 id = 0xFFFFFFFF := by
  rw [State.cnt31, h, (sat_iff s id 0 31).1 h]
  rfl

/-- Settles O42: the table of counts gives back what a count writes, and raising event 0x10 counts in QLOST only. -/
theorem countersSaturate : Obligations.CountersSaturate := by
  intro s id lo w n hc hlo _ hid
  exact ⟨count_bumpBy hc w n hlo hid, bumpBy_reaching, bumpBy_not_reaching, sat_iff s id lo w, cnt16_of_sat,
    cnt31_of_sat⟩

/-! Events of numbered units (log entry 4). -/

/-- The look at a unit's number with which onUnit and onUnits begin: a number that the hub does not have is the fault,
whatever the meaning x. -/
theorem absent_faults {k : UnitKind} {n : Nat} {x : Host.Outcome State Fault Refusal} (h : unitCount k ≤ n) :
    (if n < unitCount k then x else .fault (.noSuchUnit k n)) = .fault (.noSuchUnit k n) :=
  if_neg (Nat.not_lt.2 h)

/-- Settles O39: the meaning of each of these events is onUnit or onUnits of its unit's number, which looks at the number
before anything else. -/
theorem absentUnitsFault : Obligations.AbsentUnitsFault := by
  intro t s
  repeat' apply And.intro
  all_goals
    intros
    exact absent_faults ‹_›

end Sys2Proof.Machine

namespace Sys2Proof.Machine

/-! What holds at reset and at every step: the invariant, and the power domains (R31, R34, R238, R565). -/

/-- The invariant speaks of the kept part of the state alone. -/
theorem inv_iff_kept (s : State) : s.Inv ↔ s.kept.1.2.2.2.1 < 2 ^ 64 ∧ s.pdOk ∧
    (s.kept.1.2.2.1 = true → s.kept.1.2.1 = true) :=
  Iff.rfl

theorem inv_setClock {s : State} (t : Nat) (hs : s.Inv) : (s.setClock t).Inv := by
  obtain ⟨hrun, hpd, hsig⟩ := hs
  exact ⟨max_lt hrun (Nat.mod_lt t (by decide)), hpd, hsig⟩

/-- RUNTIME and the domains as they were, and a signet that is confirmed on a running hub only. -/
theorem inv_of_clock_and_domains {s u : State} (hkeep : u.kept.1.2.2.2 = s.kept.1.2.2.2)
    (hsig : u.kept.1.2.2.1 = true → u.kept.1.2.1 = true) (hs : s.Inv) : u.Inv := by
  obtain ⟨hrun, hpd, -⟩ := (inv_iff_kept s).1 hs
  refine (inv_iff_kept u).2 ⟨?_, ?_, hsig⟩
  · rwa [hkeep]
  · rwa [State.pdOk, hkeep]

theorem inv_of_kept_fst {s u : State} (hkeep : u.kept.1 = s.kept.1) (hs : s.Inv) : u.Inv :=
  inv_of_clock_and_domains (by rw [hkeep]) (by rw [hkeep]; exact hs.2.2) hs

theorem inv_of_near {s u : State} (hnear : near s u) (hs : s.Inv) : u.Inv := by
  obtain ⟨⟨-, hrunning, hconf, hrun, -⟩, hpd⟩ := hnear
  obtain ⟨hlt, hok, hsig⟩ := (inv_iff_kept s).1 hs
  exact (inv_iff_kept u).2 ⟨hrun ▸ hlt, hpd hok, by rwa [hrunning, hconf]⟩

/-- A start anew leaves the hub in HELD with PD0 alone on, or with no domain on (R590, R602). -/
theorem inv_of_fresh {u : State} {q : List Instr} {n : Nat} {v : BitVec 16}
    (hfresh : u.kept.1 = (q, false, false, n, v, v)) (hlt : n < 2 ^ 64) : u.Inv := by
  rw [inv_iff_kept, State.pdOk, hfresh]
  exact ⟨hlt, BitVec.and_not_self v, id⟩

theorem exec_keeps_inv {c : Instr} {s u : State} (hs : s.Inv) (hx : exec c s = .next u) : u.Inv := by
  have hclock (t : Nat) : (s.setClock t).Inv := inv_setClock t hs
  rcases exec_kept c s u hx with ⟨t, hkept⟩ | ⟨-, t, hkept⟩ | ⟨-, t, hnear⟩ | ⟨-, t, hfresh⟩ | ⟨t, -, -, -, -, hfresh⟩ |
    ⟨t, -, -, -, ⟨-, hrunning, hkeep, -⟩, hconf⟩ | ⟨t, -, ⟨-, hrunning, hkeep⟩, -⟩
  · exact inv_of_kept_fst (congrArg Prod.fst hkept) (hclock t)
  · exact inv_of_kept_fst hkept (hclock t)
  · exact inv_of_near hnear (hclock t)
  · exact inv_of_fresh hfresh (hclock t).1
  · exact inv_of_fresh hfresh (by decide)
  · -- CONFIRM_SIGNET: what it confirms anew, it confirms on a running hub
    refine inv_of_clock_and_domains hkeep (fun hu => ?_) (hclock t)
    rw [hrunning]
    exact (hconf hu).elim (hclock t).2.2 id
  · -- a commit boundary leaves the hub running
    exact inv_of_clock_and_domains hkeep (fun _ => hrunning) (hclock t)

/-- Settles O31: the inversion lemma exec_kept says what a command may do to the kept part of the state, on which alone the
invariant depends. -/
theorem commandsKeepInvariant : Obligations.CommandsKeepInvariant := by
  intro s u hs hx
  cases hq : s.pending with
  | nil =>
    rw [step, hq] at hx
    cases hx
    exact hs
  | cons c rest =>
    rw [step, hq] at hx
    have hrest : State.Inv { s with pending := rest } := hs
    exact exec_keeps_inv hrest hx

theorem switchesDomains_of_startsAnew {c : Instr} (h : startsAnew c = true) : switchesDomains c = true := by
  unfold startsAnew at h
  split at h
  case h_1 => rfl
  case h_2 => rfl
  case h_3 => cases h

/-- The domains are the last part of what is kept, and the clock does not move them. -/
theorem domains_of_kept {s u : State} {t : Nat} (hkeep : u.kept.1.2.2.2 = (s.setClock t).kept.1.2.2.2) :
    u.pdOn = s.pdOn ∧ u.pdGood = s.pdGood :=
  ⟨congrArg (·.2.1) hkeep, congrArg (·.2.2) hkeep⟩

/-- Settles O36: of the classes of exec_kept, those in which the domains may change are commands of switchesDomains. -/
theorem onlyPowerCommandsSwitchDomains : Obligations.OnlyPowerCommandsSwitchDomains := by
  intro c s u hc hx
  have hold : startsAnew c ≠ true := fun hnew => by simp [switchesDomains_of_startsAnew hnew] at hc
  rcases exec_kept c s u hx with ⟨t, hkept⟩ | ⟨-, t, hkept⟩ | ⟨hswitch, -⟩ | ⟨hnew, -⟩ | ⟨-, -, -, -, hnew, -⟩ |
    ⟨t, -, -, -, ⟨-, -, hkeep, -⟩, -⟩ | ⟨t, -, ⟨-, -, hkeep⟩, -⟩
  · exact domains_of_kept (t := t) (by rw [hkept])
  · exact domains_of_kept (t := t) (by rw [hkept])
  · simp [hc] at hswitch
  · exact absurd hnew hold
  · exact absurd hnew hold
  · exact domains_of_kept hkeep
  · exact domains_of_kept hkeep

/-- Settles O30: RUNTIME is 0, PD0 is on and good alone, and the signet is not confirmed. -/
theorem resetMeetsInvariant : Obligations.ResetMeetsInvariant :=
  ⟨by decide, by decide, fun h => by cases h⟩

/-- Settles O29: the tables of the reset state are empty, so that each item reads its default and each count 0. -/
theorem resetLeaves : Obligations.ResetLeaves :=
  ⟨rfl, rfl, rfl, rfl, rfl, fun _ => rfl, fun _ _ => rfl, rfl, rfl, rfl, rfl, rfl, rfl, rfl, rfl, rfl, rfl⟩

/-! The forms of a meaning on a state that meets its premises: what onUnit, onRail, command and packet answer. -/

section Forms
variable {s : State} {t : Nat} {f : State → State}

theorem onUnit_of_lt {k : UnitKind} {n : Nat} (hn : n < unitCount k) : onUnit k n t s f = .next (f (s.tick t)) :=
  if_pos hn

theorem onUnits_of_lt {k k' : UnitKind} {n n' : Nat} (hn : n < unitCount k) (hn' : n' < unitCount k') :
    onUnits k n k' n' t s f = .next (f (s.tick t)) :=
  (if_pos hn).trans (if_pos hn')

theorem onRail_of_exists {r : Rail} (hr : railExists r = true) : onRail r t s f = .next (f (s.tick t)) :=
  if_pos hr

theorem command_of_coreUp (hup : (s.tick t).coreUp = true) : command t s f = .next (f (s.tick t)) :=
  congrArg Host.Outcome.next (if_pos hup)

theorem packet_of_serves {op : Nat} {h : Hdr} (hserves : (s.tick t).serves) (hwaits : (s.tick t).waits h = false) :
    packet op h t s f = .next (f (s.tick t)) := by
  obtain ⟨hup, hphase⟩ := hserves
  simp [packet, command_of_coreUp hup, hphase, hwaits]

end Forms

theorem startNext_of_pick {s : State} {p : Pkt} (hpick : pickPkt (s.cmds.waiting.filter s.ready) = some p) :
    s.startNext = { s with
      cmds := { s.cmds with waiting := s.cmds.waiting.erase p, started := s.cmds.started ++ [p] } } := by
  rw [State.startNext, hpick]

/-- Settles O2: COMMAND_START and the steps of a fence are commands of the core, the other rows are packets. -/
theorem systemCommandsComplete : Obligations.SystemCommandsComplete := by
  rintro t s u rfl
  refine ⟨?commandStart, ?nop, ?identify, ?fence, ?fenceCfgMet, ?fenceOutMet, ?pdCtl⟩
  case commandStart =>
    intro p hup hrunning hpick
    change execCommandStart t s = _
    rw [execCommandStart, command_of_coreUp hup, startNext_of_pick hpick, if_neg (by simp [hrunning])]
  case nop => exact fun h hserves hwaits => packet_of_serves hserves hwaits
  case identify =>
    intro h hserves hwaits hslot
    change execIdentify t h s = _
    rw [execIdentify, packet_of_serves hserves hwaits, if_pos hslot]
  case fence =>
    intro h scope hserves hwaits hscope
    change execFence t h scope s = _
    rw [execFence, packet_of_serves hserves hwaits, if_neg hscope]
  case fenceCfgMet =>
    rintro h f y hup hfind hmet rfl
    change execFenceCfgMet t h s = _
    simp only [execFenceCfgMet, command_of_coreUp hup, hfind, hmet, if_true]
  case fenceOutMet =>
    intro h f hup hfind hmet
    change execFenceOutMet t h s = _
    simp only [execFenceOutMet, command_of_coreUp hup, hfind, hmet, if_true]
  case pdCtl =>
    intro h domain action hserves hwaits hok
    change execPdCtl t h domain action 0 s = _
    rw [execPdCtl, packet_of_serves hserves hwaits]
    simp only [hok, ne_eq, not_true_eq_false, if_false]

/-- Settles O3: each row acts on its unit under the condition that its clause states. -/
theorem routingAndSourceCommandsComplete : Obligations.RoutingAndSourceCommandsComplete := by
  rintro t s u rfl
  refine ⟨?cellWriteEffect, ?crosspointClose, ?crossingPatienceExpiry, ?tapExcursionStart, ?tapExcursionEnd,
    ?sourceMonitorEvaluation, ?driftEvaluation, ?blankingEnd⟩
  case cellWriteEffect =>
    rintro cell ws hcell hruns hgrid rfl
    change execCellWriteEffect t cell s = _
    rw [execCellWriteEffect, onUnit_of_lt hcell, if_neg (by simp [hruns, hgrid])]
  case crosspointClose =>
    intro cell e hcell hclosing hdue
    change execCrosspointClose t cell s = _
    rw [execCrosspointClose, onUnit_of_lt hcell, hclosing]
    exact congrArg Host.Outcome.next (if_pos hdue)
  case crossingPatienceExpiry => exact fun x unit hunit => onUnit_of_lt (f := (·.patience x unit)) hunit
  case tapExcursionStart =>
    intro cell tap hcell htap hruns hquiet
    change execTapExcursionStart t cell tap s = _
    rw [execTapExcursionStart, onUnits_of_lt hcell htap, if_neg (by simp [hruns, hquiet])]
  case tapExcursionEnd => exact fun cell tap hcell htap => onUnits_of_lt (k := .cell) (k' := .tap) hcell htap
  case sourceMonitorEvaluation =>
    intro src m hsrc hevaluates hdue
    change execSourceMonitorEvaluation t src m s = _
    rw [execSourceMonitorEvaluation, onUnit_of_lt hsrc, if_pos (by simp [State.evalDue, hevaluates, hdue]),
      State.evaluate]
  case driftEvaluation =>
    rintro src m z y hsrc hz hevaluates hmeans hdue hrate hnom rfl hmode
    change z = whenB ((s.tick t).evalDue src) (·.evaluate src m) (s.tick t) at hz
    change execDriftEvaluation t src m s = _
    rw [execDriftEvaluation, onUnit_of_lt hsrc, ← hz, if_neg (by simp [hevaluates, hmeans, hdue]),
      if_neg (by simp [hrate, hnom, hmode])]
  case blankingEnd =>
    intro src e hsrc hblank hdue
    change execBlankingEnd t src s = _
    rw [execBlankingEnd, onUnit_of_lt hsrc, hblank]
    exact congrArg Host.Outcome.next (if_pos hdue)

theorem pairEnds_of_active {s : State} {n : Nat} (h : (s.fsrc n).active = true) : s.pairEnds n = s.pairInactive n :=
  if_pos h

/-- Settles O22: each row acts when the state of the start, the rails and the core is the one that its clause states. -/
theorem powerAndResetCommandsComplete : Obligations.PowerAndResetCommandsComplete := by
  rintro t s u rfl
  refine ⟨?powerUp, ?resetNAssert, ?resetNRelease, ?resetNTimeout, ?resetNStuckClear, ?firmwareStart, ?domainGood,
    ?railWaitExpiry, ?railTrip, ?railGood, ?restartServed, ?restartWindowExpiry, ?codeSwapFails, ?codeSwapDone⟩
  case powerUp =>
    intro b hoff hrail0 hrail1
    change execPowerUp t b s = _
    rw [execPowerUp, at_, if_pos ⟨hoff, hrail0, hrail1⟩]
  case resetNAssert =>
    intro hoff hreset hstuck
    change execResetNAssert t s = _
    rw [execResetNAssert, at_, if_neg (by simp [hoff, hreset, hstuck])]
  case resetNRelease =>
    intro b hreset hrail
    change execResetNRelease t b s = _
    rw [execResetNRelease, at_, if_pos ⟨hreset, hrail⟩]
  case resetNTimeout =>
    intro b hreset hrail hlow
    change execResetNTimeout t b s = _
    rw [execResetNTimeout, at_, if_pos ⟨hreset, hrail, hlow⟩]
  case resetNStuckClear =>
    rintro y hstuck rfl hactive
    change execResetNStuckClear t s = _
    rw [execResetNStuckClear, at_, if_pos hstuck]
    simp only [pairEnds_of_active hactive]
  case firmwareStart =>
    intro hrom hpd
    change execFirmwareStart t s = _
    rw [execFirmwareStart, at_, if_pos ⟨hrom, hpd⟩]
  case domainGood =>
    intro pd badPairs hlt hon hgood hhold hfirst hpd
    change execDomainGood t pd badPairs s = _
    rw [execDomainGood, onUnit_of_lt hlt, if_neg (by simp [hon, hgood, hhold]), if_neg (by simp [hfirst]),
      if_neg hpd]
  case railWaitExpiry =>
    intro pd hlt hfirst hrail hwaited
    change execRailWaitExpiry t pd s = _
    rw [execRailWaitExpiry, onUnit_of_lt hlt, if_pos (by simp [hfirst, hrail, hwaited])]
  case railTrip =>
    intro rail hexists hgood haon hvio
    change execRailTrip t rail true s = _
    rw [execRailTrip, onRail_of_exists hexists, if_neg (by simp [hgood]), if_neg (by simp [haon, hvio])]
    rfl
  case railGood =>
    intro rail hexists hbad hstarted hphase hdone
    change execRailGood t rail s = _
    rw [execRailGood, onRail_of_exists hexists, if_neg (by simp [hbad])]
    have hphase' : ¬ ((s.tick t).modBoot (fun b => { b with rails := b.rails ++ [rail] })).boot.phase = .off := hphase
    simp only [if_neg hphase', hdone]
  case restartServed =>
    intro unitsSwapped r hrestarting hpd hrestart
    change execRestartServed t unitsSwapped s = _
    rw [execRestartServed, at_, if_pos ⟨hrestarting, hpd⟩, hrestart]
  case restartWindowExpiry =>
    intro r w hrestarting hrestart hwindow hdue
    change execRestartWindowExpiry t s = _
    rw [execRestartWindowExpiry, at_, if_pos hrestarting, hrestart, hwindow]
    exact congrArg Host.Outcome.next (if_pos hdue)
  case codeSwapFails =>
    intro kind num hnum hup hphase
    change execCodeSwap t kind num false s = _
    rw [execCodeSwap, if_pos hnum, at_, if_neg (by simp [hup]), if_neg (by simp [hphase])]
  case codeSwapDone => exact fun kind num hnum => if_pos hnum

end Sys2Proof.Machine

namespace Sys2Proof.Machine

/-! The vibrating-wire sequence (R72, R73). -/

/-- Settles O5: VW_READ is a packet that vwReadStatus accepts; each later row is a step that its source's phase awaits,
and VW_RESISTANCE_END goes on to the pluck because the coil is good. -/
theorem vibratingWireCommandsComplete : Obligations.VibratingWireCommandsComplete := by
  rintro t s u rfl
  refine ⟨?vwRead, ?vwResistanceEnd, ?vwPluckStart, ?vwListenStart, ?vwCaptureEnd⟩
  case vwRead =>
    intro h src hserves hwaits hok
    change execVwRead t h src s = _
    rw [execVwRead, packet_of_serves hserves hwaits, if_neg (by simp [hok])]
  case vwResistanceEnd =>
    intro src m hsrc hphase hends hgood
    change execVwResistanceEnd t src m s = _
    rw [execVwResistanceEnd, onUnit_of_lt hsrc, if_neg (by simp [hphase, hends]), hgood]
    exact congrArg Host.Outcome.next (if_pos rfl)
  case vwPluckStart =>
    intro src hsrc hphase hends
    change execVwPluckStart t src s = _
    rw [execVwPluckStart, onUnit_of_lt hsrc, if_neg (by simp [hphase, hends])]
  case vwListenStart =>
    rintro src ch y hsrc hphase hends rfl rfl
    change execVwListenStart t src s = _
    rw [execVwListenStart, onUnit_of_lt hsrc, if_neg (by simp [hphase, hends])]
  case vwCaptureEnd =>
    intro src p hsrc hphase hspan hfull
    change execVwCaptureEnd t src s = _
    rw [execVwCaptureEnd, onUnit_of_lt hsrc]
    simp only [hphase, hspan, hfull, ne_eq, not_true_eq_false, if_false]

end Sys2Proof.Machine

namespace Sys2Proof.Machine

/-! The word of a sample: the rounding, the saturation and the layouts of the format stage, and its delivery (R118, R119). -/

/-- How far a rational lies from the integer it rounds to, as the remainder that rne leaves over. -/
theorem abs_rneQ_sub (v : Rat) :
    |(rneQ v : Rat) - v| = ((v.num - v.den * rneQ v).natAbs : Rat) / v.den := by
  have hden : (0 : Rat) < v.den := by exact_mod_cast v.den_pos
  have hv : (v.den : Rat) * v = v.num := Rat.den_mul_eq_num v
  have hrem : ((v.num - v.den * rneQ v : Int) : Rat) = v.den * (v - rneQ v) := by
    push_cast
    rw [mul_sub, hv]
  rw [Nat.cast_natAbs, Int.cast_abs, hrem, abs_mul, abs_of_pos hden, mul_div_cancel_left₀ _ hden.ne', abs_sub_comm]

/-- A rational rounds to a nearest integer, and to the even one when two are equally near. -/
theorem rneQ_nearest (v : Rat) :
    |(rneQ v : Rat) - v| ≤ 1 / 2 ∧ (|(rneQ v : Rat) - v| = 1 / 2 → rneQ v % 2 = 0) := by
  have hden : (0 : Rat) < v.den := by exact_mod_cast v.den_pos
  rw [abs_rneQ_sub, div_le_div_iff₀ hden two_pos, div_eq_div_iff hden.ne' two_ne_zero]
  norm_cast
  rcases rne_rem v.num v.den v.den_pos with hless | ⟨htie, heven⟩
  · change 2 * (v.num - v.den * rneQ v).natAbs < v.den at hless
    omega
  · change 2 * (v.num - v.den * rneQ v).natAbs = v.den at htie
    exact ⟨by omega, fun _ => heven⟩

/-- The largest magnitude in n bits without the lowest code. -/
def fmtMax (n : Nat) : Int := 2 ^ (n - 1) - 1

theorem fmtMax_nonneg (n : Nat) : 0 ≤ fmtMax n :=
  Int.sub_nonneg_of_le (one_le_pow₀ one_le_two)

theorem fmtMax_pos {n : Nat} (hn : 2 ≤ n) : 0 < fmtMax n :=
  Int.sub_pos_of_lt (one_lt_pow₀ one_lt_two (by omega))

theorem fmtRound_eq (n : Nat) (v : Rat) : fmtRound n v =
    (max (-fmtMax n) (min (fmtMax n) (rneQ v)), decide (rneQ v < -fmtMax n) || decide (fmtMax n < rneQ v)) := rfl

/-- The format stage saturates exactly the values that round to beyond its range. -/
theorem fmtRound_saturates_iff (n : Nat) (v : Rat) : (fmtRound n v).2 = true ↔ fmtMax n < |rneQ v| := by
  rw [fmtRound_eq, Bool.or_eq_true, decide_eq_true_eq, decide_eq_true_eq, lt_abs, lt_neg, or_comm]

theorem fmtRound_fits_iff (n : Nat) (v : Rat) : (fmtRound n v).2 = false ↔ |rneQ v| ≤ fmtMax n := by
  rw [← Bool.not_eq_true, fmtRound_saturates_iff, not_lt]

theorem fmtRound_of_fits {n : Nat} {v : Rat} (h : |rneQ v| ≤ fmtMax n) : (fmtRound n v).1 = rneQ v := by
  obtain ⟨hlo, hhi⟩ := abs_le.1 h
  rw [fmtRound_eq, min_eq_right hhi, max_eq_right hlo]

/-- A value that saturates becomes the end of the range on its own side. -/
theorem fmtRound_of_saturates {n : Nat} {v : Rat} (h : fmtMax n < |rneQ v|) :
    (fmtRound n v).1 = (rneQ v).sign * fmtMax n := by
  have hmax := fmtMax_nonneg n
  rw [fmtRound_eq]
  rcases lt_abs.1 h with hpos | hneg
  · rw [Int.sign_eq_one_of_pos (hmax.trans_lt hpos)]
    omega
  · rw [Int.sign_eq_neg_one_of_neg (by omega)]
    omega

theorem abs_fmtRound_le (n : Nat) (v : Rat) : |(fmtRound n v).1| ≤ fmtMax n :=
  abs_le.2 ⟨le_max_left _ _, max_le (neg_le_self (fmtMax_nonneg n)) (min_le_left _ _)⟩

theorem abs_fmtRound_of_saturates {n : Nat} {v : Rat} (h : fmtMax n < |rneQ v|) : |(fmtRound n v).1| = fmtMax n := by
  have hne : rneQ v ≠ 0 := abs_pos.1 ((fmtMax_nonneg n).trans_lt h)
  rw [fmtRound_of_saturates h, abs_mul, Int.abs_sign_of_ne_zero hne, one_mul, abs_of_nonneg (fmtMax_nonneg n)]

theorem fmtRound_mul_pos_of_saturates {n : Nat} {v : Rat} (hn : 2 ≤ n) (h : fmtMax n < |rneQ v|) :
    0 < (fmtRound n v).1 * rneQ v := by
  have hmax := fmtMax_pos hn
  rw [fmtRound_of_saturates h, mul_right_comm, Int.sign_mul_self_eq_abs]
  exact mul_pos (hmax.trans h) hmax

theorem code_eq_toNat_ofInt (n : Nat) (x : Int) : code n x = (BitVec.ofInt n x).toNat := by
  simp [code]

theorem ofNat_code (n : Nat) (x : Int) : BitVec.ofNat n (code n x) = BitVec.ofInt n x := by
  rw [code_eq_toNat_ofInt, BitVec.ofNat_toNat, BitVec.setWidth_eq]

/-- A 32-bit two's complement code stands for its number. -/
theorem toInt_ofInt32 {x : Int} (hlo : -2 ^ 31 ≤ x) (hhi : x < 2 ^ 31) : (BitVec.ofInt 32 x).toInt = x := by
  rw [BitVec.toInt_ofInt, Int.bmod_eq_of_le] <;> omega

/-- A 24-bit code above a byte is the 32-bit code of 256 times the number, plus the byte. -/
theorem code24_shift_or {y : Int} {b : Nat} (hb : b < 256) :
    BitVec.ofNat 32 (code 24 y <<< 8 ||| b) = BitVec.ofInt 32 (y * 256 + b) := by
  have hsum : code 24 y <<< 8 ||| b = code 32 (y * 256 + b) := by
    rw [← Nat.shiftLeft_add_eq_or_of_lt hb, Nat.shiftLeft_eq, code, code]
    omega
  rw [hsum, ofNat_code]

theorem fmtWord_s32r (flags : Bool) (v : Rat) (fl : BitVec 8) :
    (fmtWord 0 flags v fl).toInt = (fmtRound 32 v).1 := by
  obtain ⟨hlo, hhi⟩ := abs_le.1 (abs_fmtRound_le 32 v)
  simp only [fmtMax] at hlo hhi
  change (BitVec.ofNat 32 (code 32 (fmtRound 32 v).1)).toInt = _
  rw [ofNat_code, toInt_ofInt32] <;> omega

theorem fmtWord_s24l (flags : Bool) (v : Rat) (fl : BitVec 8) :
    (fmtWord 1 flags v fl).toInt = (fmtRound 24 (v / 256)).1 * 256 + (if flags then fl.toNat else 0) := by
  have hb : (if flags then fl.toNat else 0) < 256 := by
    have := fl.isLt
    split <;> omega
  obtain ⟨hlo, hhi⟩ := abs_le.1 (abs_fmtRound_le 24 (v / 256))
  simp only [fmtMax] at hlo hhi
  change (BitVec.ofNat 32 (code 24 (fmtRound 24 (v / 256)).1 <<< 8 ||| (if flags then fl.toNat else 0))).toInt = _
  rw [code24_shift_or hb, toInt_ofInt32] <;> omega

/-- Settles O60: rne leaves over at most one half, and one half only beside an even number; the clamp keeps what is in
range; the layouts are two's complement; and a slot with a value takes the second branch of deliverOne. -/
theorem sampleWords : Obligations.SampleWords := by
  refine ⟨rneQ_nearest, fun n v hn => ?_, fun flags v fl => ⟨fmtWord_s32r flags v fl, rfl, fmtWord_s24l flags v fl⟩, ?_⟩
  · have hsat := fmtRound_saturates_iff n v
    have hfits := fmtRound_fits_iff n v
    exact ⟨abs_fmtRound_le n v, hfits, fun h => fmtRound_of_fits (hfits.1 h), fun h =>
      ⟨abs_fmtRound_of_saturates (hsat.1 h), fmtRound_mul_pos_of_saturates hn (hsat.1 h)⟩⟩
  · rintro s _ ch p v _ _ _ _ hcause hvalue rfl rfl rfl rfl rfl
    rw [State.deliverOne, if_pos hcause, hvalue]
    rfl

end Sys2Proof.Machine

namespace Sys2Proof.Machine

/-! Charge amplifiers, range changes and converter changes (R86 to R116). -/

/-- A reset that is due and does not wait is executed. -/
theorem qaDue_of_ready {s : State} {cell qa : Nat} {lv : QaLevels} (hruns : s.cellRuns cell = true)
    (hready : s.qaWaits cell qa lv = false) : s.qaDue cell qa lv = s.qaReset cell qa lv := by
  simp [State.qaDue, hruns, hready]

theorem itemCommand_of_ok {id v t : Nat} {h : Hdr} {s : State} {check : State → Nat} {f : State → State}
    (hserves : (s.tick t).serves) (hwaits : (s.tick t).waits h = false) (hitem : (s.tick t).itemStatus id v = stOk)
    (hcheck : check (s.tick t) = stOk) :
    itemCommand id v h t s check f = .next ((f (s.tick t)).finish h opWriteParam stOk) := by
  rw [itemCommand, packet_of_serves hserves hwaits, if_neg (by simp [hitem]), if_neg (by simp [hcheck])]

theorem coldResume_of_due {s : State} {ch u e : Nat} (hcold : (s.chan ch).coldUntil = some e) (hdue : e ≤ u)
    (hout : s.outAt ch u = true) :
    s.coldResume ch u = ((s.modChan ch (fun c => { c with coldUntil := none })).calswapAt ch u).openSettle ch u := by
  simp [State.coldResume, hcold, hdue, hout]

/-- Settles O4: each row acts on its amplifier, channel or cell under the condition that its clause states. -/
theorem amplifierAndRangeCommandsComplete : Obligations.AmplifierAndRangeCommandsComplete := by
  rintro t s u rfl
  refine ⟨?qaThresholdCrossing, ?qaPeriodicReset, ?qaDeferredReset, ?rangeRecoveryEnd, ?converterPathValid, ?seamlessSeam,
    ?seamlessHandbackSeam, ?autoRangeLower, ?autoRangeRaise, ?modulatorFailure, ?coldSwitchResume, ?spAssign,
    ?takeoverSeam, ?handbackSeam⟩
  case qaThresholdCrossing =>
    intro cell qa lv hcell hqa hcrossed hruns hready
    change execQaThresholdCrossing t cell qa lv s = _
    rw [execQaThresholdCrossing, onUnits_of_lt hcell hqa, if_pos hcrossed, qaDue_of_ready hruns hready]
  case qaPeriodicReset =>
    intro cell qa lv hcell hqa hmode hgrid hperiod hruns hready
    change execQaPeriodicReset t cell qa lv s = _
    rw [execQaPeriodicReset, onUnits_of_lt hcell hqa, if_neg (by simp [hmode, hgrid, hperiod]),
      qaDue_of_ready hruns hready]
  case qaDeferredReset =>
    intro cell qa lv hcell hqa hdue hgrid hruns hready
    change execQaDeferredReset t cell qa lv s = _
    rw [execQaDeferredReset, onUnits_of_lt hcell hqa, if_pos (by simp [hdue, hgrid]), qaDue_of_ready hruns hready]
  case rangeRecoveryEnd =>
    intro ch e hch hrec hdue
    change execRangeRecoveryEnd t ch s = _
    rw [execRangeRecoveryEnd, onUnit_of_lt hch, hrec]
    exact congrArg Host.Outcome.next (if_pos hdue)
  case converterPathValid =>
    intro cell p ch c v hcell hruns hseam hdue hchan
    change execConverterPathValid t cell s = _
    rw [execConverterPathValid, onUnit_of_lt hcell, if_pos hruns, hseam]
    exact congrArg Host.Outcome.next (if_pos ⟨hdue, hchan⟩)
  case seamlessSeam =>
    intro cell ch g b hcell hseam hat
    change execSeamlessSeam t cell s = _
    rw [execSeamlessSeam, onUnit_of_lt hcell, hseam]
    exact congrArg Host.Outcome.next (if_neg (by simp [hat]))
  case seamlessHandbackSeam =>
    intro cell ch g b hcell hseam hat
    change execSeamlessHandbackSeam t cell s = _
    rw [execSeamlessHandbackSeam, onUnit_of_lt hcell, hseam]
    exact congrArg Host.Outcome.next (if_neg (by simp [hat]))
  case autoRangeLower =>
    intro ch hch hready hgain hclipped
    change execAutoRangeLower t ch s = _
    rw [execAutoRangeLower, onUnit_of_lt hch, if_neg (by simp [hready, hgain, hclipped])]
  case autoRangeRaise =>
    intro ch hch hready hsteady hgain hquiet
    change execAutoRangeRaise t ch s = _
    rw [execAutoRangeRaise, onUnit_of_lt hch, if_neg (by simp [hready, hsteady, hgain, hquiet])]
  case modulatorFailure =>
    intro cell modulator hcell hmod hruns hown hservice hconv hpaused
    change execModulatorFailure t cell modulator s = _
    rw [execModulatorFailure, onUnits_of_lt hcell hmod, if_neg (by simp [hruns]), if_neg hown, if_neg (by simp [hservice]),
      if_neg (by simp [hconv, hpaused])]
  case coldSwitchResume =>
    intro ch e hch hcold hdue hout
    change execColdSwitchResume t ch s = _
    rw [execColdSwitchResume, onUnit_of_lt hch, coldResume_of_due hcold hdue hout]
  case spAssign => exact fun h cell val hserves hwaits hitem hassign => itemCommand_of_ok hserves hwaits hitem hassign
  case takeoverSeam =>
    intro cell ps p ch c hcell hseam hat
    change execWarmSeam t cell ps s = _
    rw [execWarmSeam, onUnit_of_lt hcell, hseam]
    exact congrArg Host.Outcome.next (if_pos hat)
  case handbackSeam =>
    intro cell ps p ch c hcell hseam hat
    change execWarmSeam t cell ps s = _
    rw [execWarmSeam, onUnit_of_lt hcell, hseam]
    exact congrArg Host.Outcome.next (if_pos hat)

end Sys2Proof.Machine

namespace Sys2Proof.Machine

/-! A gap that lasts (R193): GAP_ENTRY_CONT leaves a gap that begins at the channel's next slot. -/

theorem exec_gapEntryCont_of_due {s u y : State} {t ch : Nat} {g : Gap} (hu : u = s.tick t) (hch : ch < 384)
    (hgap : (u.chan ch).gap = some g) (hdue : gapDue g u.now = true) (hpd : u.pd 2 = true)
    (hy : y = (u.putGap ch none g true).modChan ch (fun c => { c with gap := some (gapRest g u.now (u.nextT ch)) }))
    (hrecs : y.trig.recs = []) : exec (.gapEntryCont t ch) s = .next y := by
  change execGapEntryCont t ch s = _
  rw [execGapEntryCont, onUnit_of_lt hch]
  simp only [← hu, hgap, hdue, hpd, Bool.and_self, if_true, ← hy]
  have hmembers (k : Nat) : tfind y.trig.recs k = none := by rw [hrecs]; rfl
  exact congrArg Host.Outcome.next (List.foldl_fixed' (fun k => by rw [hmembers]; rfl) _)

/-- A channel with an open gap is not the table's default, so that its gap reads back from any table of channels. -/
theorem gap_modChan_some (s : State) (ch : Nat) (f : Chan → Chan) {g : Gap} (h : (f (s.chan ch)).gap = some g) :
    ((s.modChan ch f).chan ch).gap = some g := by
  have hne : f (s.chan ch) ≠ {} := fun hdef => by simp [hdef] at h
  change (tget {} (tset {} s.chans ch (f (s.chan ch))) ch).gap = some g
  rw [tget_tset_ne _ _ _ _ hne, h]

/-- The rest of a gap tells at which instant it begins. -/
theorem gapRest_modChan_inj {s : State} {ch : Nat} {g : Gap} {now e e' : Nat}
    (h : s.modChan ch (fun c => { c with gap := some (gapRest g now e) }) =
      s.modChan ch (fun c => { c with gap := some (gapRest g now e') })) : e = e' := by
  have hread (e : Nat) : ((s.modChan ch (fun c => { c with gap := some (gapRest g now e) })).chan ch).gap =
      some (gapRest g now e) := gap_modChan_some s ch _ rfl
  have hrest := (hread e).symm.trans ((congrArg (fun s : State => (s.chan ch).gap) h).trans (hread e'))
  exact congrArg Gap.t0 (Option.some.inj hrest)

/-- A gap with cause NO_ROOM: its first 240,000 slots at D 2 and, after a gait change at 30 s, 120,000 at D 4. -/
def gapAcrossRates : Gap := { cause := 4, first := 0, count := 360000, t0 := 0, since := 0 }

/-- A channel in that gap at 60 s: its latest slot was one output period of D 4 ago. -/
def chanInGapAcrossRates : Chan := {
  d := 4
  chain := { d := 4, start := 30000000000 }
  seq := 360000
  slotAt := 59999750000
  gap := some gapAcrossRates }

/-- A hub at 60 s with every domain powered and channel 0 in that gap. -/
def hubInGapAcrossRates : State := { State.reset with
  time := { runtime := 60000000000 }
  pdOn := 0xFFFF
  pdGood := 0xFFFF
  chans := [(0, chanInGapAcrossRates)] }

theorem hubInGapAcrossRates_tick : hubInGapAcrossRates.tick 60000000000 = hubInGapAcrossRates := rfl

/-- Refutes O6: the clause of GAP_ENTRY_CONT has the rest of a gap begin as many output periods of now after the gap's
first slot as the gap has slots, while exec has it begin at the channel's next slot (R193). Where D has doubled within
the gap these are two instants: 90 s and 60 s. -/
theorem not_sampleAndGaitCommandsComplete : ¬ Obligations.SampleAndGaitCommandsComplete := by
  intro h
  obtain ⟨-, -, -, -, -, hclause, -, -⟩ := h _ _ _ hubInGapAcrossRates_tick.symm
  have hgap : (hubInGapAcrossRates.chan 0).gap = some gapAcrossRates := rfl
  have hdue : gapDue gapAcrossRates hubInGapAcrossRates.now = true := by decide +kernel
  have hpd : hubInGapAcrossRates.pd 2 = true := by decide +kernel
  have hstated := hclause 0 _ _ (by decide) hgap hdue hpd rfl (by decide +kernel)
  have hmodel := exec_gapEntryCont_of_due hubInGapAcrossRates_tick.symm (by decide) hgap hdue hpd rfl
    (by decide +kernel)
  have hsame := gapRest_modChan_inj (Host.Outcome.next.inj (hstated.symm.trans hmodel))
  have hcounted : gapAcrossRates.t0 + gapAcrossRates.count * hubInGapAcrossRates.outPeriod 0 = 90000000000 := by
    decide +kernel
  have hnext : hubInGapAcrossRates.nextT 0 = 60000000000 := by decide +kernel
  rw [hcounted, hnext] at hsame
  exact absurd hsame (by decide)

end Sys2Proof.Machine

namespace Sys2Proof.Machine

/-! Reductions and measurements (R169, R174 to R176, R181 to R189). -/

/-- Where the slot of the grid ends an interval of the accumulators, and the min/max tracker is off once they have closed,
only the accumulators close (R174). -/
theorem closeGrid_of_accDue {s y : State} {ch : Nat} (hgrid : (s.chan ch).gridDue = true)
    (hy : y = s.modChan ch (fun c => { c with gridDue := false })) (hacc : y.redEn ch 0 = true)
    (hintv : y.cfgN 0x11 ch 0x061 ≠ 0) (hslot : (s.chan ch).gridSlot % y.cfgN 0x11 ch 0x061 = 0)
    (hmm : (y.closeAcc ch {}).redEn ch 1 = false) : s.closeGrid ch = y.closeAcc ch {} := by
  have hends : (y.redEn ch 0 && (y.cfgN 0x11 ch 0x061 != 0 &&
      (s.chan ch).gridSlot % y.cfgN 0x11 ch 0x061 == 0)) = true := by
    simp [hacc, hintv, hslot]
  rw [State.closeGrid, if_neg (by simp [hgrid]), ← hy]
  simp only [if_pos hends, hmm, Bool.false_and, Bool.false_eq_true, if_false]

/-- Settles O7: the writes of RED_CTL have no check but the item's own; INTERVAL_CLOSE closes what the grid ends; MEAS_CMD
is a packet that measStatus accepts; SPAN_END and MEAS_RESULT act on the channel's span. -/
theorem reductionCommandsComplete : Obligations.ReductionCommandsComplete := by
  rintro t s u rfl
  refine ⟨?redCloseAcc, ?redCloseMm, ?redLatchLive, ?redLatchLast, ?intervalClose, ?measCmd, ?spanEnd, ?measResult⟩
  case redCloseAcc => exact fun h ch hserves hwaits hitem => itemCommand_of_ok hserves hwaits hitem rfl
  case redCloseMm => exact fun h ch hserves hwaits hitem => itemCommand_of_ok hserves hwaits hitem rfl
  case redLatchLive => exact fun h ch hserves hwaits hitem => itemCommand_of_ok hserves hwaits hitem rfl
  case redLatchLast => exact fun h ch hserves hwaits hitem => itemCommand_of_ok hserves hwaits hitem rfl
  case intervalClose =>
    intro ch y hch hgrid hy hacc hintv hslot hmm
    change execIntervalClose t ch s = _
    rw [execIntervalClose, onUnit_of_lt hch, closeGrid_of_accDue hgrid hy hacc hintv hslot hmm]
  case measCmd =>
    intro h ch hserves hwaits hitem hidle
    change execMeasCmd t h ch s = _
    rw [execMeasCmd, packet_of_serves hserves hwaits]
    simp only [hitem, hidle, if_true, ne_eq, not_true_eq_false, if_false]
  case spanEnd =>
    intro ch p hch hspan hfull
    change execSpanEnd t ch false s = _
    rw [execSpanEnd, onUnit_of_lt hch]
    simp only [hspan, hfull, Bool.false_eq_true, if_false, if_true]
  case measResult =>
    intro ch p hch hspan hended hcommanded
    change execMeasResult t ch false s = _
    rw [execMeasResult, onUnit_of_lt hch, if_neg Bool.false_ne_true, hspan]
    exact congrArg Host.Outcome.next (if_pos (by simp [hended, hcommanded]))

end Sys2Proof.Machine

namespace Sys2Proof.Machine

/-! Trigger events, records and blocks (R204 to R230). -/

/-- RECORD_MANUAL of a profile without a local record replies with the number of the record its trigger opens, the epoch
being the one before the trigger (R349). -/
theorem recordManual_of_opened {s y : State} {h : Hdr} {p n : Nat} {net : Bool} (hlocal : s.localRec p = none)
    (hopens : s.doManual p net = (y, some n)) :
    s.recordManual h p net = y.finish h 0x0400 stOk (b2n (s.wantsNet p net && s.time.state == .unlocked))
      (recReply s.trig.epoch n) := by
  simp only [State.recordManual, hlocal, hopens]

/-- Settles O8: MANUAL and RCTL are item writes and RECORD_MANUAL and RECORD_CLOSE packets of a running hub; the other
rows act on what their slot, trigger, port or channel holds, once it is due. -/
theorem recordCommandsComplete : Obligations.RecordCommandsComplete := by
  rintro t s u rfl
  refine ⟨?manual, ?recordManual, ?rctl, ?recordClose, ?slotResult, ?triggerEvent, ?recordEnd, ?networkTriggerReceive,
    ?blockFlush⟩
  case manual => exact fun h profile net hserves hwaits hitem hstatus => itemCommand_of_ok hserves hwaits hitem hstatus
  case recordManual =>
    intro h profile net y n hserves hwaits hrunning hprofile hstatus hlocal hopens
    change execRecordManual t h profile net s = _
    rw [execRecordManual, packet_of_serves hserves hwaits, if_neg (by simp [hrunning]),
      if_neg (by simp [hprofile, hstatus]), recordManual_of_opened hlocal hopens]
  case rctl => exact fun h slot hserves hwaits hitem hopen => itemCommand_of_ok hserves hwaits hitem hopen
  case recordClose =>
    intro h slot hserves hwaits hrunning hslot hopen
    change execRecordClose t h slot s = _
    rw [execRecordClose, packet_of_serves hserves hwaits, if_neg (by simp [hrunning]), if_neg (Nat.not_le.2 hslot),
      if_neg (by simp [hopen])]
  case slotResult =>
    intro slot x r hslot hpd hresults
    change execSlotResult t slot s = _
    rw [execSlotResult, onUnit_of_lt hslot, if_pos hpd, hresults]
  case triggerEvent =>
    intro trig f hpd hforming
    change execTriggerEvent t trig s = _
    rw [execTriggerEvent, at_, if_pos hpd, hforming]
  case recordEnd =>
    intro slot r y hslot hrec hmembers hresults htaken hroom hy
    change execRecordEnd t slot s = _
    rw [execRecordEnd, onUnit_of_lt hslot, hrec]
    simp only [hmembers, hresults, htaken, decide_true, Bool.and_self, if_true, hroom, ← hy]
  case networkTriggerReceive =>
    intro port seq hops m hport hcarries _
    change execNetworkTriggerReceive t port seq hops m s = _
    rw [execNetworkTriggerReceive, onUnit_of_lt hport, if_pos hcarries]
  case blockFlush =>
    intro ch slot b hch hopen hdue
    change execBlockFlush t ch slot s = _
    rw [execBlockFlush, onUnit_of_lt hch, hopen]
    exact congrArg Host.Outcome.next (if_pos hdue)

end Sys2Proof.Machine

namespace Sys2Proof.Machine

/-! RUNTIME (R238): no command sets it back but one that ends the power of PD0. -/

/-- A command that leaves RUNTIME as its instant sets it has not stepped RUNTIME back. -/
theorem now_le_of_kept_runtime {s u : State} {t : Nat}
    (hkeep : u.kept.1.2.2.2.1 = (s.setClock t).kept.1.2.2.2.1) : s.now ≤ u.now :=
  le_of_le_of_eq (le_max_left s.time.runtime (wrap 64 t)) hkeep.symm

theorem railTrip_startsAnew_iff (t : Nat) (r : Rail) (b : Bool) :
    startsAnew (.railTrip t r b) = true ↔ r = .vddaon ∨ r = .vioaon := by
  simp [startsAnew]

/-- Settles O34: of the classes of exec_kept, the only one that sets RUNTIME is the trip of a rail that ends the power
of PD0; every other class leaves RUNTIME as the command's instant sets it. -/
theorem runtimeNeverGoesBack : Obligations.RuntimeNeverGoesBack := by
  intro c s u hc hx
  rcases exec_kept c s u hx with ⟨t, hkept⟩ | ⟨-, t, hkept⟩ | ⟨-, t, hnear⟩ | ⟨-, t, hfresh⟩ |
    ⟨t, r, b, rfl, hnew, -⟩ | ⟨t, -, -, -, ⟨-, -, hkeep, -⟩, -⟩ | ⟨t, -, ⟨-, -, hkeep⟩, -⟩
  · exact now_le_of_kept_runtime (t := t) (by rw [hkept])
  · exact now_le_of_kept_runtime (t := t) (by rw [hkept])
  · obtain ⟨⟨-, -, -, hrun, -⟩, -⟩ := hnear
    exact now_le_of_kept_runtime hrun
  · -- RESET_N starts the hub anew with RUNTIME going on
    exact now_le_of_kept_runtime (t := t) (by rw [hfresh])
  · obtain ⟨hvddaon, hvioaon⟩ := hc t b
    rcases (railTrip_startsAnew_iff t r b).1 hnew with rfl | rfl
    · exact absurd rfl hvddaon
    · exact absurd rfl hvioaon
  · exact now_le_of_kept_runtime (t := t) (by rw [hkeep])
  · exact now_le_of_kept_runtime (t := t) (by rw [hkeep])

end Sys2Proof.Machine

namespace Sys2Proof.Machine

/-! The time exchanges, the time states and the Rein bus (R231 to R279, R489). -/

/-- Settles O9: a message is taken on a port that runs time messages or PTP, by the side of the exchange that the parent
tells; a time state is left when what its clause names has come. -/
theorem timeMessageCommandsComplete : Obligations.TimeMessageCommandsComplete := by
  rintro t s u rfl
  refine ⟨?refclkLost, ?refclkReturn, ?syncSend, ?syncReceive, ?delayReqReceive, ?delayRespReceive,
    ?ptpMessageReceive, ?ptpMessageSend, ?parentLoss, ?parentReplaceTimeout, ?leadWaitExpiry, ?holdLimitPassed,
    ?slewComplete⟩
  case refclkLost =>
    intro cause hok
    change execRefclkLost t cause s = _
    rw [execRefclkLost, at_, if_pos hok]
  case refclkReturn =>
    intro hlost hactive
    change execRefclkReturn t s = _
    rw [execRefclkReturn, at_, if_neg (by simp [hlost])]
    exact congrArg Host.Outcome.next (pairEnds_of_active hactive)
  case syncSend =>
    rintro port x hport hon hstate hparent hdue rfl
    change execSyncSend t port s = _
    rw [execSyncSend, onUnit_of_lt hport]
    exact congrArg Host.Outcome.next (if_pos (by simp [hon, hstate, hparent, hdue]))
  case syncReceive =>
    intro port m hport hon hstate hparent
    change execSyncReceive t port m s = _
    rw [execSyncReceive, onUnit_of_lt hport, if_neg (by simp [hon, hstate]), if_pos hparent]
  case delayReqReceive =>
    rintro port m d y hport hon hparent hexch hstate rfl rfl
    change execDelayReqReceive t port m s = _
    rw [execDelayReqReceive, onUnit_of_lt hport, if_pos (by simp [hon, hparent, hexch, hstate])]
  case delayRespReceive =>
    rintro port m y d x hport hon hparent hexch hstate rfl rfl
    change execDelayRespReceive t port m y s = _
    rw [execDelayRespReceive, onUnit_of_lt hport, if_pos (by simp [hon, hparent, hexch, hstate])]
  case ptpMessageReceive =>
    intro port m y hport hmine
    change execPtpMessageReceive t port m y s = _
    rw [execPtpMessageReceive, onUnit_of_lt hport, if_pos hmine]
  case ptpMessageSend =>
    intro port hport hon hslave hend
    change execPtpMessageSend t port 1 s = _
    rw [execPtpMessageSend, onUnit_of_lt hport, if_neg (by simp [hon])]
    exact congrArg Host.Outcome.next (if_pos (by simp [hslave, hend]))
  case parentLoss =>
    intro hparent
    change execParentLoss t s = _
    rw [execParentLoss, at_, if_neg hparent]
  case parentReplaceTimeout =>
    intro x hlost hlocked hlead hdue
    change execParentReplaceTimeout t s = _
    rw [execParentReplaceTimeout, at_, hlost]
    exact congrArg Host.Outcome.next (if_pos ⟨hlocked, hlead, hdue⟩)
  case leadWaitExpiry =>
    intro hen hid hparent hlead hstate hnone hdue
    change execLeadWaitExpiry t s = _
    rw [execLeadWaitExpiry, at_, hnone]
    exact congrArg Host.Outcome.next (if_pos (by simp [hen, hid, hparent, hlead, hstate, hdue]))
  case holdLimitPassed =>
    intro hhold hfirst hpassed
    change execHoldLimitPassed t s = _
    rw [execHoldLimitPassed, at_, if_pos ⟨hhold, hfirst, hpassed⟩]
  case slewComplete =>
    rintro y hslew hdone rfl hlocked
    change execSlewComplete t s = _
    rw [execSlewComplete, at_, if_pos (by simp [hslew, hdone])]
    exact congrArg Host.Outcome.next (if_neg (by simp [hlocked]))

/-- Settles O10: NTIME_LAT_READ and TIME_READ are packets without a check, UTC is an item write that utcStatus accepts;
an edge of a line is taken by the line's direction, and the other rows act once their line is due. -/
theorem timeItemAndReinCommandsComplete : Obligations.TimeItemAndReinCommandsComplete := by
  rintro t s u rfl
  refine ⟨?ntimeLatRead, ?utc, ?timeRead, ?reinEdgeIn, ?reinEdgeFloating, ?reinSyncDrive, ?reinPulseEnd,
    ?reinClkMissing, ?reinSyncMissing, ?reinReadbackFault, ?reinLineStuckHigh⟩
  case ntimeLatRead => exact fun h hserves hwaits => packet_of_serves hserves hwaits
  case utc => exact fun h val hserves hwaits hitem hlead => itemCommand_of_ok hserves hwaits hitem hlead
  case timeRead => exact fun h hserves hwaits => packet_of_serves hserves hwaits
  case reinEdgeIn =>
    intro line rising hline hdir
    change execReinEdge t line rising s = _
    rw [execReinEdge, onUnit_of_lt hline, if_neg (by simp [hdir]), if_neg (by simp [hdir])]
  case reinEdgeFloating =>
    intro line rising hline hdir
    change execReinEdge t line rising s = _
    rw [execReinEdge, onUnit_of_lt hline, if_neg (by simp [hdir]), if_pos (by simp [hdir])]
  case reinSyncDrive =>
    intro hdir hfault hstate hdue
    change execReinSyncDrive t s = _
    rw [execReinSyncDrive, at_]
    exact congrArg Host.Outcome.next (if_pos ⟨hdir, hfault, hstate, hdue⟩)
  case reinPulseEnd =>
    intro line e hline hpulse hdue hlevel
    change execReinPulseEnd t line s = _
    rw [execReinPulseEnd, onUnit_of_lt hline, hpulse]
    exact congrArg Host.Outcome.next (if_pos ⟨hdue, hlevel⟩)
  case reinClkMissing =>
    intro hparent hdue
    change execReinClkMissing t s = _
    rw [execReinClkMissing, at_, if_pos ⟨hparent, hdue⟩]
  case reinSyncMissing =>
    intro hparent hdue
    change execReinSyncMissing t s = _
    rw [execReinSyncMissing, at_, if_pos ⟨hparent, hdue⟩]
  case reinReadbackFault =>
    intro line hline hdir hfault
    change execReinReadbackFault t line s = _
    rw [execReinReadbackFault, onUnit_of_lt hline, if_pos ⟨hdir, hfault⟩]
  case reinLineStuckHigh =>
    intro line hline haux hlevel hlong
    change execReinLineStuckHigh t line s = _
    rw [execReinLineStuckHigh, onUnit_of_lt hline, if_pos ⟨haux, hlevel, hlong⟩]

end Sys2Proof.Machine

namespace Sys2Proof.Machine

/-! Scheduled actions (R266 to R273, R535). -/

/-- SCHEDULE whose checks pass: the lowest free entry takes what is sent, and the reply tells whether it is armed
(R268). -/
theorem schedule_of_ok {s y : State} {h : Hdr} {typ : Word} {target n : Nat} {args : List Word}
    (htyp : typ &&& 0x7F = typ) (hfree : s.freeAct = some n)
    (hy : y = s.modAct n (fun a => { a with
      typ := typ
      target := wrap 64 target
      args := [args.getD 0 0, args.getD 1 0, args.getD 2 0, args.getD 3 0]
      st := .free }))
    (hok : (y.acceptStatus n).1 = stOk) :
    s.schedule h typ target args = (y.takeAct n).finish h 0x0500 stOk 0
      (be 1 n ++ be 1 (if ((y.takeAct n).act n).st = .armed then 2 else 1) ++ zeros 2) := by
  rw [State.schedule, if_neg (not_not.2 htyp), hfree]
  simp only [← hy, hok, ne_eq, not_true_eq_false, if_false]

/-- Settles O21: the packets and the item write are accepted when the entry's own check passes; an entry fires with all
that have reached their T, and a held one is dropped at its T while the core is out of service. -/
theorem actionCommandsComplete : Obligations.ActionCommandsComplete := by
  rintro t s u rfl
  refine ⟨?schedule, ?cancel, ?actAccept, ?actCancel, ?actionArmCheck, ?actionFire, ?heldActionDrop⟩
  case schedule =>
    intro h typ target args n y hserves hwaits htyp hfree hy hok
    change execSchedule t h typ target args s = _
    rw [execSchedule, packet_of_serves hserves hwaits, schedule_of_ok htyp hfree hy hok]
  case cancel =>
    intro h entry hserves hwaits hentry hok
    change execCancel t h entry s = _
    rw [execCancel, packet_of_serves hserves hwaits, if_neg (Nat.not_le.2 hentry), if_neg (by simp [hok])]
  case actAccept =>
    intro h entry hserves hwaits hentry hok
    change execActAccept t h entry s = _
    rw [execActAccept, packet_of_serves hserves hwaits, if_neg (Nat.not_le.2 hentry), if_neg (by simp [hok])]
  case actCancel => exact fun h entry hserves hwaits hitem hok => itemCommand_of_ok hserves hwaits hitem hok
  case actionArmCheck => exact command_of_coreUp
  case actionFire =>
    intro entry hentry hdue
    change execActionFire t entry s = _
    rw [execActionFire, onUnit_of_lt hentry, if_pos hdue, State.fireDue]
  case heldActionDrop =>
    intro entry hentry hcore hheld hreached
    change execHeldActionDrop t entry s = _
    rw [execHeldActionDrop, onUnit_of_lt hentry, if_pos ⟨hcore, hheld, hreached⟩]

end Sys2Proof.Machine

namespace Sys2Proof.Machine

/-! Calibration, trims, triangulation and the drift log (R286 to R305). -/

/-- A command item with a check of its own goes on when neither check refuses it (R350). -/
theorem ite_checked_of_ok {st st' : Nat} {x y : State} (hitem : st = stOk) (hcheck : st' = stOk) :
    (if (if st = stOk then st' else st) ≠ stOk then x else y) = y := by
  simp [hitem, hcheck]

/-- New trims of a converter that carries no channel mark no sample (R292). -/
theorem applyTrims_of_free {s y : State} {cell conv : Nat} {o g : List Int}
    (hpending : (s.trims (convKey cell conv)).pending = some (o, g))
    (hy : y = s.modTrims (convKey cell conv) (fun c => { c with ofs := o, gain := g, pending := none }))
    (hfree : y.channelOf cell conv = none) : s.applyTrims cell conv = y := by
  simp only [State.applyTrims, hpending, ← hy, hfree]

/-- Settles O11: the requests are packets or item writes that calStatus accepts; a result and new trims act on their
unit when it is served; a run, its result, its trim updates, the log and the ages are steps that are due. -/
theorem calibrationCommandsComplete : Obligations.CalibrationCommandsComplete := by
  rintro t s u rfl
  refine ⟨?calRequest, ?calReq, ?baseline, ?backgroundCalibration, ?calibrationResult, ?trimApply, ?triangulationRun,
    ?triangulationResult, ?triangulationTrimUpdate, ?driftLogRetry, ?calAgeTick⟩
  case calRequest =>
    intro h kind target hserves hwaits hrunning hok
    change execCalRequest t h kind target s = _
    rw [execCalRequest, packet_of_serves hserves hwaits, if_neg (by simp [hrunning]), if_neg (by simp [hok])]
  case calReq =>
    intro h kind target hserves hwaits hitem hok
    change execCalReq t h kind target s = _
    rw [execCalReq, packet_of_serves hserves hwaits]
    exact congrArg Host.Outcome.next (ite_checked_of_ok hitem hok)
  case baseline => exact fun h val hserves hwaits hitem => itemCommand_of_ok hserves hwaits hitem rfl
  case backgroundCalibration =>
    rintro cell ch k y hcell hup rfl rfl hdue hfence hidle hy hnat hexcluded hretired hqueued
    change execBackgroundCalibration t cell s = _
    rw [execBackgroundCalibration, onUnit_of_lt hcell]
    simp only [hup, hdue, hfence, hidle, ← hy, hexcluded, hretired, hnat, hqueued, Bool.not_true, Bool.false_and,
      Bool.or_false, Bool.false_eq_true, if_false]
  case calibrationResult =>
    intro c n hobj hn hup hfence
    change execCalibrationResult t c s = _
    rw [execCalibrationResult, hobj]
    exact (onUnit_of_lt hn).trans (congrArg Host.Outcome.next (if_pos (by simp [hup, hfence])))
  case trimApply =>
    intro cell conv o g y hcell hconv hgrid hoverlap hpending hy hfree
    change execTrimApply t cell conv s = _
    rw [execTrimApply, onUnits_of_lt hcell hconv, if_pos (by simp [hgrid, hoverlap]),
      applyTrims_of_free hpending hy hfree]
  case triangulationRun =>
    intro due hup hrunning hdue hreached hbusy
    change execTriangulationRun t s = _
    rw [execTriangulationRun, command_of_coreUp hup]
    simp [← hdue, hrunning, hbusy, Nat.not_lt.2 hreached]
  case triangulationResult =>
    intro o hup hrunning hrefin hclosure
    change execTriangulationResult t o s = _
    rw [execTriangulationResult, command_of_coreUp hup, if_neg (by simp [hrunning])]
    simp only [hrefin, Bool.false_eq_true, if_false, if_pos hclosure]
  case triangulationTrimUpdate =>
    rintro quadrant d k hquadrant hdue hsecond rfl
    change execTriangulationTrimUpdate t quadrant s = _
    rw [execTriangulationTrimUpdate, onUnit_of_lt hquadrant, hdue]
    exact congrArg Host.Outcome.next (if_neg (by simp [hsecond]))
  case driftLogRetry =>
    intro e hup hunwritten hreached
    change execDriftLogRetry t true s = _
    rw [execDriftLogRetry, command_of_coreUp hup, hunwritten]
    exact congrArg Host.Outcome.next ((if_neg (Nat.not_lt.2 hreached)).trans (if_pos rfl))
  case calAgeTick =>
    intro hup hreached
    change execCalAgeTick t s = _
    rw [execCalAgeTick, command_of_coreUp hup, if_pos hreached]

end Sys2Proof.Machine

namespace Sys2Proof.Machine

/-! Self-tests and the optical sources (R306 to R332). -/

@[simp] theorem shorted_pairTested (s : State) (p : Nat) : (s.pairTested p).opt.shorted = s.opt.shorted := rfl

/-- A pair whose sources have both stayed dark is tested (R328). -/
theorem neighbourShortTest_of_dark {s : State} {t pair : Nat} {shorted : Bool} (hpair : pair < 15)
    (hpd : (s.tick t).pd 12 = true) (hdue : (s.tick t).pairDue pair = true) (hdark : ((s.tick t).os pair).level = 0)
    (hdark' : ((s.tick t).os (pair + 1)).level = 0) :
    execNeighbourShortTest t pair shorted s = .next
      (if shorted && !((s.tick t).pairTested pair).opt.shorted.contains pair then
        ((s.tick t).pairTested pair).setShorted (((s.tick t).pairTested pair).opt.shorted ++ [pair])
      else (s.tick t).pairTested pair) := by
  rw [execNeighbourShortTest, onUnit_of_lt hpair]
  exact congrArg Host.Outcome.next ((if_neg (by simp [hpd, hdue])).trans (if_neg (by simp [hdark, hdark'])))

/-- Settles O12: the requests are packets or item writes that their status accepts; a test that ends has its work in
progress; the other rows act on the driver, a source or a pair in the condition that their clause states. -/
theorem selfTestAndOpticalCommandsComplete : Obligations.SelfTestAndOpticalCommandsComplete := by
  rintro t s u rfl
  refine ⟨?selfTest, ?testReq, ?selfTestEnd, ?osApply, ?osCtlApply, ?osCtlClear, ?opticalUpdate, ?osOpenDetect,
    ?osOpenClear, ?pairGood, ?pairShorted, ?extTemp, ?extTempStale⟩
  case selfTest =>
    intro h test target hserves hwaits hrunning hok
    change execSelfTest t h test target s = _
    rw [execSelfTest, packet_of_serves hserves hwaits, if_neg (by simp [hrunning]), if_neg (by simp [hok])]
  case testReq =>
    intro h test target hserves hwaits hitem hok
    change execTestReq t h test target s = _
    rw [execTestReq, packet_of_serves hserves hwaits]
    exact congrArg Host.Outcome.next (ite_checked_of_ok hitem hok)
  case selfTestEnd =>
    intro test target failed data hup hwork hother hlive
    change execSelfTestEnd t test target failed data s = _
    rw [execSelfTestEnd, command_of_coreUp hup, if_neg (by simp [hwork])]
    simp only [if_neg hother, if_pos hlive]
  case osApply =>
    intro h mask hserves hwaits hrunning hok
    change execOsApply t h mask s = _
    rw [execOsApply, packet_of_serves hserves hwaits, if_neg (by simp [hrunning]), if_neg (by simp [hok])]
  case osCtlApply => exact fun h os hserves hwaits hitem hok => itemCommand_of_ok hserves hwaits hitem hok
  case osCtlClear => exact fun h os shorted hserves hwaits hitem hok => itemCommand_of_ok hserves hwaits hitem hok
  case opticalUpdate =>
    intro tdrv hpd hdue
    change execOpticalUpdate t tdrv s = _
    rw [execOpticalUpdate, at_, if_pos (by simp [hpd, hdue])]
  case osOpenDetect =>
    intro os hos hpd hlit hshort hopen
    change execOsOpenDetect t os s = _
    rw [execOsOpenDetect, onUnit_of_lt hos]
    exact congrArg Host.Outcome.next (if_pos (by simp [hpd, hlit, hshort, hopen]))
  case osOpenClear =>
    intro os hos hopen hreached
    change execOsOpenClear t os s = _
    rw [execOsOpenClear, onUnit_of_lt hos, if_pos (by simp [hopen, hreached])]
  case pairGood =>
    intro pair hpair hpd hdue hdark hdark'
    change execNeighbourShortTest t pair false s = _
    rw [neighbourShortTest_of_dark hpair hpd hdue hdark hdark']
    rfl
  case pairShorted =>
    intro pair hpair hpd hdue hdark hdark' hnew
    change execNeighbourShortTest t pair true s = _
    rw [neighbourShortTest_of_dark hpair hpd hdue hdark hdark']
    exact congrArg Host.Outcome.next (if_pos (by simpa using hnew))
  case extTemp => exact fun h val hserves hwaits hitem => itemCommand_of_ok hserves hwaits hitem rfl
  case extTempStale =>
    intro hfresh hreached
    change execExtTempStale t s = _
    rw [execExtTempStale, at_, if_pos ⟨hfresh, hreached⟩]

end Sys2Proof.Machine

namespace Sys2Proof.Machine

/-! The end of a store and of the start (R283, R390, R395). -/

/-- Settles O27: a store ends at the ports in the layout, of which there is one; the wait for an ID ends on a hub that is
HELD; and calibration after power-up ends the start once its triangulation run has ended. -/
theorem loadingCommandsComplete : Obligations.LoadingCommandsComplete := by
  rintro t s u rfl
  refine ⟨?imageStoreComplete, ?hubIdWaitExpiry, ?powerupCalibrationEnd⟩
  case imageStoreComplete =>
    rintro ports hstoring rfl hports
    change execImageStoreComplete t true s = _
    rw [execImageStoreComplete, at_, if_neg (by simp [hstoring])]
    exact congrArg Host.Outcome.next (if_pos (by simpa using hports))
  case hubIdWaitExpiry =>
    rintro w y hup hwait hreached rfl hheld
    change execHubIdWaitExpiry t s = _
    rw [execHubIdWaitExpiry, command_of_coreUp hup, hwait]
    exact congrArg Host.Outcome.next ((if_neg (Nat.not_lt.2 hreached)).trans (if_neg (by simp [hheld])))
  case powerupCalibrationEnd =>
    rintro results y hup hfirst hended rfl
    change execPowerupCalibrationEnd t results s = _
    rw [execPowerupCalibrationEnd, command_of_coreUp hup, if_pos (by simp [hfirst]), if_neg (by simp [hended])]

end Sys2Proof.Machine

namespace Sys2Proof.Machine

/-! The queue and the configured values: what the inversion lemma exec_kept says of them (R350, R384, log entry 2). -/

theorem exec_keeps_pending {c : Instr} {s u : State} (hx : exec c s = .next u) : u.pending = s.pending := by
  rcases exec_kept c s u hx with ⟨_, hkept⟩ | ⟨-, _, hkept⟩ | ⟨-, _, ⟨⟨hpending, -⟩, -⟩⟩ | ⟨-, _, hfresh⟩ |
    ⟨_, _, _, -, -, hfresh⟩ | ⟨_, _, _, -, ⟨hpending, -⟩, -⟩ | ⟨_, -, ⟨hpending, -⟩, -⟩
  · exact congrArg (·.1.1) hkept
  · exact congrArg (·.1) hkept
  · exact hpending
  · exact congrArg (·.1) hfresh
  · exact congrArg (·.1) hfresh
  · exact hpending
  · exact hpending

theorem writesConfig_of_startsAnew {c : Instr} (h : startsAnew c = true) : writesConfig c = true := by
  unfold startsAnew at h
  split at h
  case h_1 => rfl
  case h_2 => exact h
  case h_3 => cases h

theorem exec_keeps_cfg {c : Instr} {s u : State} (hc : writesConfig c = false) (hx : exec c s = .next u) :
    u.cfg = s.cfg := by
  have hold : startsAnew c ≠ true := fun hnew => by simp [writesConfig_of_startsAnew hnew] at hc
  rcases exec_kept c s u hx with ⟨_, hkept⟩ | ⟨hwrites, -⟩ | ⟨-, _, ⟨⟨-, -, -, -, hcfg⟩, -⟩⟩ | ⟨hnew, -⟩ |
    ⟨_, _, _, -, hnew, -⟩ | ⟨_, _, _, -, ⟨-, -, -, hcfg⟩, -⟩ | ⟨_, rfl, -⟩
  · exact congrArg (·.2) hkept
  · simp [hc] at hwrites
  · exact hcfg
  · exact absurd hnew hold
  · exact absurd hnew hold
  · exact hcfg
  · -- COMMIT_BOUNDARY writes items
    cases hc

/-- Settles O28: step is defined by the cases of the queue. -/
theorem stepRunsFrontCommand : Obligations.StepRunsFrontCommand := by
  refine ⟨fun c r s hq => ?_, fun s hq => ?_⟩
  · rw [step, hq]
  · rw [step, hq]

/-- Settles O35: the front command runs on the hub with the rest of the queue, and no command touches that. -/
theorem commandsLeaveTheQueue : Obligations.CommandsLeaveTheQueue := by
  intro c r s u hq hx
  rw [stepRunsFrontCommand.1 c r s hq] at hx
  exact exec_keeps_pending hx

/-- Settles O37: a configured value is read from the table of configured values alone, which exec_keeps_cfg keeps. -/
theorem onlyWritesChangeTheConfiguration : Obligations.OnlyWritesChangeTheConfiguration := by
  intro c s u id hc hx
  rw [State.cfgAt, exec_keeps_cfg hc hx, State.cfgAt]

end Sys2Proof.Machine

namespace Sys2Proof.Machine

/-! The trailer of a packet (R346). -/

/-- The eight bits of a byte go into a reflected CRC one after the other. -/
theorem crcByte_eq_foldl (poly c : Nat) (x : Byte) :
    crcByte poly c x = (List.range 8).foldl (fun c _ => crcBit poly c) (c ^^^ x.toNat) := by
  simp only [List.range_succ_eq_map, List.range_zero, List.map_cons, List.map_nil, List.foldl_cons, List.foldl_nil, crcByte]

theorem crc32c_eq_foldl (b : List Byte) : crc32c b =
    b.foldl (fun c x => (List.range 8).foldl (fun c _ => crcBit 0x82F63B78 c) (c ^^^ x.toNat)) 0xFFFFFFFF ^^^ 0xFFFFFFFF := by
  simp only [crc32c, crcOf, ← crcByte_eq_foldl]

theorem fbe_last_four (b : List Byte) : fbe b (b.length - 4) 4 = unbe (b.drop (b.length - 4)) := by
  have hlen : (b.drop (b.length - 4)).length ≤ 4 := by
    rw [List.length_drop]
    omega
  rw [fbe, slice, List.take_of_length_le hlen]

theorem crcGood_iff (b : List Byte) :
    crcGood b = true ↔ unbe (b.drop (b.length - 4)) = crc32c (b.take (b.length - 4)) := by
  rw [crcGood, fbe_last_four, beq_iff_eq]

theorem crcGood_append (body : List Byte) : crcGood (body ++ be 4 (crc32c body)) = true := by
  have hbody : (body ++ be 4 (crc32c body)).length - 4 = body.length := by simp [be_length]
  rw [crcGood_iff, hbody, List.drop_left, List.take_left, unbe_be, Nat.mod_eq_of_lt (b := 256 ^ 4) (crc32c_lt body)]

theorem eq_append_crc_of_crcGood {b : List Byte} (hlen : 4 ≤ b.length) (hgood : crcGood b = true) :
    b = b.take (b.length - 4) ++ be 4 (crc32c (b.take (b.length - 4))) := by
  have htail : (b.drop (b.length - 4)).length = 4 := by
    rw [List.length_drop]
    omega
  have hbe := be_unbe (b.drop (b.length - 4))
  rw [htail, (crcGood_iff b).1 hgood] at hbe
  rw [hbe, List.take_append_drop]

/-- Settles O46: the CRC is a fold over the bits of the bytes, its four bytes spell it again, and a reply is built with it. -/
theorem packetTrailer : Obligations.PacketTrailer := by
  refine ⟨?polynomial, crc32c_eq_foldl, ?checkValue, ?goodPacket, ?reply⟩
  case polynomial => decide
  case checkValue => decide +kernel
  case goodPacket =>
    refine fun b hlen => ⟨fun hgood => ⟨_, eq_append_crc_of_crcGood hlen hgood⟩, ?_⟩
    rintro ⟨body, rfl⟩
    exact crcGood_append body
  case reply => exact fun s r => ⟨_, rfl⟩

end Sys2Proof.Machine

namespace Sys2Proof.Machine

/-! Which command starts, and what holds one back (R363, R364, R365). -/

theorem pickPkt_eq_none_iff (l : List Pkt) : pickPkt l = none ↔ l = [] := by
  refine ⟨fun h => ?_, fun h => h ▸ rfl⟩
  cases l with
  | nil => rfl
  | cons p r =>
    rw [pickPkt] at h
    repeat' split at h
    all_goals cases h

/-- Whether p starts no later than q when both are ready: a higher PRIO, or the same and no later arrival (R364). -/
def Pkt.notAfter (p q : Pkt) : Prop := q.h.prio < p.h.prio ∨ (q.h.prio = p.h.prio ∧ p.arrival ≤ q.arrival)

theorem Pkt.notAfter_refl (p : Pkt) : p.notAfter p := .inr ⟨rfl, le_rfl⟩

theorem Pkt.notAfter_trans {p q r : Pkt} (hpq : p.notAfter q) (hqr : q.notAfter r) : p.notAfter r := by
  unfold Pkt.notAfter at *
  omega

/-- The one picked is of the list, and no other of it starts before. -/
theorem pickPkt_spec {l : List Pkt} {p : Pkt} (hpick : pickPkt l = some p) : p ∈ l ∧ ∀ q ∈ l, p.notAfter q := by
  induction l generalizing p with
  | nil => cases hpick
  | cons x r ih =>
    rw [pickPkt] at hpick
    split at hpick
    next hrest =>
      -- x stands alone
      cases hpick
      obtain rfl := (pickPkt_eq_none_iff r).1 hrest
      simp [Pkt.notAfter_refl]
    next y hrest =>
      obtain ⟨hmem, hfirst⟩ := ih hrest
      split at hpick
      next hbefore =>
        cases hpick
        have hpx : p.notAfter x := by
          unfold Pkt.notAfter
          omega
        exact ⟨List.mem_cons_of_mem x hmem, List.forall_mem_cons.2 ⟨hpx, hfirst⟩⟩
      next hafter =>
        cases hpick
        have hxy : x.notAfter y := by
          unfold Pkt.notAfter
          omega
        exact ⟨List.mem_cons_self, List.forall_mem_cons.2
          ⟨x.notAfter_refl, fun q hq => Pkt.notAfter_trans hxy (hfirst q hq)⟩⟩

/-- Settles O47: pickPkt holds the better of the head and the pick of the rest. -/
theorem nextCommandByPriority : Obligations.NextCommandByPriority :=
  fun l => ⟨pickPkt_eq_none_iff l, fun _ => pickPkt_spec⟩

theorem earlierDone_iff (s : State) (source arr : Nat) : s.earlierDone source arr = true ↔
    ∀ q ∈ s.cmds.waiting ++ s.cmds.started, q.safety = false → q.h.source = source → arr ≤ q.arrival := by
  rw [State.earlierDone, List.all_eq_true]
  refine forall₂_congr fun q _ => ?_
  rw [Bool.or_eq_true, Bool.or_eq_true, bne_iff_ne, decide_eq_true_eq]
  cases q.safety <;> simp [imp_iff_not_or]

theorem heldByFence_eq_false_iff (s : State) (p : Pkt) : s.heldByFence p = false ↔
    (∀ f ∈ s.cmds.fences, f.h.source = p.h.source → f.arrival < p.arrival → f.step = .out) ∧
    (∀ q ∈ s.cmds.waiting ++ s.cmds.started, q.holds = true → q.h.source = p.h.source → q.arrival < p.arrival →
      ∃ f ∈ s.cmds.fences, f.arrival = q.arrival) := by
  rw [State.heldByFence, Bool.or_eq_false_iff, List.any_eq_false, List.any_eq_false]
  refine and_congr (forall₂_congr fun f _ => ?_) (forall₂_congr fun q _ => ?_)
  · simp
  · simp

theorem ready_iff (s : State) (p : Pkt) :
    s.ready p = true ↔ (p.ord = true → s.earlierDone p.h.source p.arrival = true) ∧ s.heldByFence p = false := by
  rw [State.ready, Bool.and_eq_true, Bool.not_eq_true', Bool.or_eq_true, Bool.not_eq_true']
  cases p.ord <;> simp

theorem packet_of_waits {op t : Nat} {h : Hdr} {s : State} (f : State → State) (hserves : (s.tick t).serves)
    (hwaits : (s.tick t).waits h = true) : packet op h t s f = .next (s.tick t) := by
  obtain ⟨hup, hphase⟩ := hserves
  simp [packet, command_of_coreUp hup, hphase, hwaits]

/-- Settles O48: the command that starts is one of the ready ones, and readiness is what ORD and the fences ask. -/
theorem ordWaitsForEarlier : Obligations.OrdWaitsForEarlier := by
  rintro t s u rfl
  refine ⟨fun p hpick => ?_, fun p hord hfences hholds => ?_, fun op h f => packet_of_waits f⟩
  · obtain ⟨-, hready⟩ := List.mem_filter.1 (pickPkt_spec hpick).1
    obtain ⟨hearlier, hopen⟩ := (ready_iff _ p).1 hready
    obtain ⟨hout, htaken⟩ := (heldByFence_eq_false_iff _ p).1 hopen
    exact ⟨fun hord => (earlierDone_iff _ _ _).1 (hearlier hord), hout, htaken⟩
  · have hopen := (heldByFence_eq_false_iff (s.tick t) p).2
      ⟨fun f hf hsource => absurd hsource (hfences f hf), fun q hq hq' hsource => absurd hsource (hholds q hq hq')⟩
    exact (ready_iff _ p).2 ⟨fun h => by simp [hord] at h, hopen⟩

end Sys2Proof.Machine

namespace Sys2Proof.Machine

/-! Answers (R357) and what they leave of the command path. -/

theorem replySent_iff (h : Hdr) (st : Nat) (data : List Byte) :
    replySent h st data = true ↔ h.ackreq = true ∨ data ≠ [] ∨ (st ≠ stOk ∧ st ≠ stAccepted) := by
  simp [replySent, or_assoc]

/-- Settles O49: answer queues a reply exactly when replySent says so. -/
theorem repliesFollowAckreq : Obligations.RepliesFollowAckreq := by
  intro s h op st detail data sf
  refine ⟨fun hsent => if_pos ((replySent_iff h st data).2 hsent), fun hack hdata hst => if_neg fun hsent => ?_⟩
  rcases (replySent_iff h st data).1 hsent with hack' | hdata' | ⟨hok, hacc⟩
  · simp [hack] at hack'
  · exact hdata' hdata
  · exact hst.elim hok hacc

theorem countAnswer_onlyEvents (s : State) (st : Nat) : onlyEvents s (s.countAnswer st) := by
  unfold State.countAnswer
  split
  · exact bump_onlyEvents _ _ _ _
  · split
    · exact bump_onlyEvents _ _ _ _
    · exact onlyEvents_refl s

@[simp] theorem bump_cmds (s : State) (id lo w : Nat) : (s.bump id lo w).cmds = s.cmds :=
  onlyEvents_cmds (bump_onlyEvents s id lo w)

@[simp] theorem joinRegion_last (s : State) (r : Reply) : (s.joinRegion r).cmds.last = s.cmds.last := by
  unfold State.joinRegion
  dsimp only
  repeat' split
  all_goals rfl

@[simp] theorem queueReply_last (s : State) (r : Reply) : (s.queueReply r).cmds.last = s.cmds.last := by
  unfold State.queueReply
  split
  · rfl
  · split
    · rfl
    · split
      · rfl
      · exact joinRegion_last s r

/-- The outcome of the last WRITE does not change with an answer (R337). -/
@[simp] theorem answer_last (s : State) (h : Hdr) (op st detail : Nat) (data : List Byte) (sf : Bool) :
    (s.answer h op st detail data sf).cmds.last = s.cmds.last := by
  have hcount : (s.countAnswer st).cmds = s.cmds := onlyEvents_cmds (countAnswer_onlyEvents s st)
  rw [State.answer]
  split
  · rw [queueReply_last, hcount]
  · rw [hcount]

end Sys2Proof.Machine

namespace Sys2Proof.Machine

/-! The host port (R335 to R339). -/

theorem whenPort_of_on {f : State → State} {s : State} (hport : s.pd 15 = true) : whenPort f s = f s := if_pos hport

/-- A transaction on a powered port. -/
theorem at_whenPort_of_on {t : Nat} {s : State} (f : State → State) (hport : (s.tick t).pd 15 = true) :
    at_ t s (whenPort f) = .next (f (s.tick t)) :=
  congrArg Host.Outcome.next (whenPort_of_on hport)

theorem hostWrite_badFrame {s : State} {stated : Nat} {b : List Byte}
    (hbad : b.length ≠ stated ∨ stated < 20 ∨ 4096 < stated) :
    s.hostWrite stated b = (s.setLast 2).bump (pid 0x01 0 0x302) 16 15 :=
  if_pos hbad

/-- What makes a WRITE of a well-stated length end in RETRY (R337). -/
def State.retriesWrite (s : State) (b : List Byte) : Prop :=
  s.rxReady = false ∨ (s.coreUp = false ∧ pktSafety b = false) ∨ (.hostCore, 0) ∈ s.closed

theorem retriesWrite_iff (s : State) (b : List Byte) : s.retriesWrite b ↔
    (!s.rxReady || (!s.coreUp && !pktSafety b) || s.closed.contains (.hostCore, 0)) = true := by
  simp [State.retriesWrite, or_assoc]

section
variable {s : State} {stated : Nat} {b : List Byte} (hlen : b.length = stated) (hlo : 20 ≤ stated) (hhi : stated ≤ 4096)
include hlen hlo hhi

theorem hostWrite_retry (hretry : s.retriesWrite b) : s.hostWrite stated b =
    ({ s with closed := s.closed.erase (.hostCore, 0) }.setLast 1).bump (pid 0x01 0 0x302) 0 15 := by
  rw [State.hostWrite, if_neg (by omega), if_pos ((retriesWrite_iff s b).1 hretry)]

theorem hostWrite_passed (hpass : ¬s.retriesWrite b) (hcrc : crcGood b = true) :
    s.hostWrite stated b = (s.setLast 0).takePacket 6 b := by
  rw [State.hostWrite, if_neg (by omega), if_neg (mt (retriesWrite_iff s b).2 hpass)]
  exact if_pos hcrc

theorem hostWrite_badCrc (hpass : ¬s.retriesWrite b) (hcrc : crcGood b = false) : s.hostWrite stated b =
    ((s.setLast 0).bump (pid 0x01 0 0x300) 0 31).answer (hdrOf 6 b) (fbe b 2 2) stBadCrc 0 [] (pktSafety b) := by
  rw [State.hostWrite, if_neg (by omega), if_neg (mt (retriesWrite_iff s b).2 hpass)]
  exact if_neg (by simp [hcrc])

end

/-- The checks of a packet read neither the command path nor the counters. -/
theorem packetStatus_of_onlyEvents {s v : State} (h : onlyEvents s v) (port : Nat) (b : List Byte) :
    v.packetStatus port b = s.packetStatus port b := by
  obtain ⟨_, _, rfl⟩ := h
  rfl

theorem roomFor_of_cmds {s v : State} (h : v.cmds = s.cmds) (x : Hdr) : v.roomFor x = s.roomFor x := by
  unfold State.roomFor State.linkSources State.inProgress
  rw [h]

/-- Check 4 of R356: a packet that passes the checks has its SAFETY flag as its opcode asks. -/
theorem safety_of_packetStatus {s : State} {port : Nat} {b : List Byte} (arrival : Nat)
    (hok : s.packetStatus port b = stOk) : (pktOf port arrival b).safety = pktSafety b := by
  by_contra hne
  have hrefused : pktSafety b ≠ (fbe b 2 2 >>> 8 == 0x0B) := fun h => hne h.symm
  unfold State.packetStatus at hok
  -- check 4 refuses the packet unless one before it does
  simp only [if_pos hrefused] at hok
  repeat' split at hok
  all_goals cases hok

@[simp] theorem takePacket_last (s : State) (port : Nat) (b : List Byte) :
    (s.takePacket port b).cmds.last = s.cmds.last := by
  rw [State.takePacket]
  dsimp only
  repeat' split
  all_goals simp

theorem takePacket_safety {s : State} {port : Nat} {b : List Byte} (hok : s.packetStatus port b = stOk)
    (hsafety : pktSafety b = true) :
    (s.takePacket port b).cmds.started = s.cmds.started ++ [pktOf port s.cmds.arrivals b] := by
  have hchecks := packetStatus_of_onlyEvents (bump_onlyEvents s (pid 0x01 0 0x300) 0 31) port b
  have hopcode := (safety_of_packetStatus s.cmds.arrivals hok).trans hsafety
  rw [State.takePacket]
  simp [hchecks, hok, hopcode]

theorem takePacket_waits {s : State} {port : Nat} {b : List Byte} (hok : s.packetStatus port b = stOk)
    (hsafety : pktSafety b = false) (hroom : s.roomFor (hdrOf port b) = true) :
    (s.takePacket port b).cmds.waiting = s.cmds.waiting ++ [pktOf port s.cmds.arrivals b] := by
  have hchecks := packetStatus_of_onlyEvents (bump_onlyEvents s (pid 0x01 0 0x300) 0 31) port b
  have hopcode := (safety_of_packetStatus s.cmds.arrivals hok).trans hsafety
  have hroom' := (roomFor_of_cmds (bump_cmds s (pid 0x01 0 0x300) 0 31) (hdrOf port b)).trans hroom
  rw [State.takePacket]
  simp [hchecks, hok, hopcode, hroom']

/-- Settles O50: the three branches of hostWrite, and what takePacket does with a packet whose checks pass. -/
theorem hostWriteOutcomes : Obligations.HostWriteOutcomes := by
  rintro t stated b s u rfl hport
  have hexec : exec (.write t stated b) s =
      .next (((s.tick t).hostWrite stated b).shift (s.tick t).statusWord) := at_whenPort_of_on _ hport
  rw [hexec]
  refine ⟨fun hbad => ⟨_, rfl, ?_⟩, fun hlen hlo hhi hretry => ⟨_, rfl, ?_⟩, fun hlen hlo hhi hready hcore hopen =>
    ⟨_, rfl, ?_⟩⟩
  · rw [hostWrite_badFrame hbad]
    simp [State.shift, State.setLast]
  · rw [hostWrite_retry hlen hlo hhi hretry]
    simp [State.shift, State.setLast]
  · have hpass : ¬(s.tick t).retriesWrite b := by
      rintro (hrx | ⟨hup, hsf⟩ | hclosed)
      · simp [hready] at hrx
      · simp [hup, hsf] at hcore
      · exact hopen hclosed
    cases hcrc : crcGood b with
    | false =>
      rw [hostWrite_badCrc hlen hlo hhi hpass hcrc]
      refine ⟨?_, by simp, by simp, by simp, fun _ => rfl⟩
      simp [State.shift, State.setLast]
    | true =>
      rw [hostWrite_passed hlen hlo hhi hpass hcrc]
      refine ⟨?_, fun _ => rfl, fun _ hok hsafety => ?_, fun _ hok hsafety hroom => ?_, by simp⟩
      · simp [State.shift, State.setLast]
      · exact takePacket_safety (s := (s.tick t).setLast 0) hok hsafety
      · exact takePacket_waits (s := (s.tick t).setLast 0) hok hsafety hroom

theorem countCorr_onlyEvents (s : State) (id : Nat) (ecc : List Ecc) : onlyEvents s (s.countCorr id ecc) := by
  unfold State.countCorr
  induction ecc.filter (· == .corrected) generalizing s with
  | nil => exact onlyEvents_refl s
  | cons _ r ih => exact onlyEvents_trans (bump_onlyEvents s id 0 16) (ih _)

theorem holdRead_onlyEvents (s : State) (ecc : List Ecc) : onlyEvents s (s.holdRead ecc) :=
  countCorr_onlyEvents s _ ecc

@[simp] theorem holdRead_cmds (s : State) (ecc : List Ecc) : (s.holdRead ecc).cmds = s.cmds :=
  onlyEvents_cmds (holdRead_onlyEvents s ecc)

@[simp] theorem replyBytesOf_holdRead (s : State) (ecc : List Ecc) (r : Reply) :
    (s.holdRead ecc).replyBytesOf r = s.replyBytesOf r := by
  obtain ⟨_, _, hv⟩ := holdRead_onlyEvents s ecc
  rw [hv]
  rfl

section
variable {s : State} {n : Nat} {ecc : List Ecc} {r : Reply} {rest : List Reply}

theorem hostReadReply_empty (hempty : s.cmds.replies = []) : s.hostReadReply n ecc =
    { s with cmds := { s.cmds with replyUnderrun := true } }.shift (s.statusWord ++ zeros n) := by
  rw [State.hostReadReply, hempty]
  rfl

theorem hostReadReply_whole (hgood : ecc.contains .bad = false) (hhead : s.cmds.replies = r :: rest)
    (hall : ((s.holdRead ecc).replyBytesOf r).length ≤ n) : s.hostReadReply n ecc =
    ({ s.holdRead ecc with cmds := { (s.holdRead ecc).cmds with replies := rest } }.updWm).shift
      ((s.holdRead ecc).statusWord ++ ((s.holdRead ecc).replyBytesOf r).take n ++
        zeros (n - ((s.holdRead ecc).replyBytesOf r).length)) := by
  rw [State.hostReadReply, hhead]
  simp only [hgood, if_pos hall, Bool.false_eq_true, if_false]

theorem hostReadReply_part (hgood : ecc.contains .bad = false) (hhead : s.cmds.replies = r :: rest)
    (hpart : n < ((s.holdRead ecc).replyBytesOf r).length) : s.hostReadReply n ecc =
    (s.holdRead ecc).shift ((s.holdRead ecc).statusWord ++ ((s.holdRead ecc).replyBytesOf r).take n) := by
  rw [State.hostReadReply, hhead]
  simp only [hgood, if_neg (Nat.not_le.2 hpart), Nat.sub_eq_zero_of_le hpart.le, Bool.false_eq_true, if_false]
  rw [zeros, List.replicate_zero, List.append_nil]

end

/-- Settles O51: the branches of hostReadReply; reading the hold store changes no reply and no byte of one. -/
theorem readReplyRemovesWhole : Obligations.ReadReplyRemovesWhole := by
  rintro t n ecc s u w rfl hport rfl
  have hexec : exec (.readReply t n ecc) s = .next ((s.tick t).hostReadReply n ecc) := at_whenPort_of_on _ hport
  rw [hexec]
  refine ⟨fun r rest hgood hhead hall => ⟨_, rfl, ?_⟩, fun r rest hgood hhead hpart => ⟨_, rfl, ?_⟩,
    fun hempty => ⟨_, rfl, ?_⟩⟩
  · rw [hostReadReply_whole hgood hhead (by simpa using hall), replyBytesOf_holdRead, List.take_of_length_le hall]
    exact ⟨rfl, rfl⟩
  · rw [hostReadReply_part hgood hhead (by simpa using hpart), replyBytesOf_holdRead]
    have hreplies := congrArg Cmds.replies (holdRead_cmds (s.tick t) ecc)
    exact ⟨hreplies, rfl⟩
  · rw [hostReadReply_empty hempty]
    exact ⟨hempty, rfl⟩

/-- Settles O1: each row is a transaction on a powered port. -/
theorem hostPortCommandsComplete : Obligations.HostPortCommandsComplete := by
  rintro t s u rfl
  refine ⟨?write, ?readReply, ?readEvents, ?status, ?badTransactionCode⟩
  case write =>
    intro stated bytes hport hlen hlo hhi hready hup hopen hcrc
    have hpass : ¬(s.tick t).retriesWrite bytes := by
      simpa [State.retriesWrite, hready, hup] using hopen
    change execWrite t stated bytes s = _
    rw [execWrite, at_whenPort_of_on _ hport, hostWrite_passed hlen hlo hhi hpass hcrc]
  case readReply =>
    rintro clocked ecc r rest y hport hgood hhead rfl hall
    change execReadReply t clocked ecc s = _
    rw [execReadReply, at_whenPort_of_on _ hport, hostReadReply_whole hgood hhead hall]
  case readEvents => exact fun clocked ecc hport => at_whenPort_of_on _ hport
  case status => exact fun hport => at_whenPort_of_on _ hport
  case badTransactionCode =>
    intro code hport hcode
    change execBadTransactionCode t code s = _
    rw [execBadTransactionCode, at_whenPort_of_on _ hport, if_neg (by omega)]

end Sys2Proof.Machine

namespace Sys2Proof.Machine

/-! Reading and writing items (R350 to R353). -/

theorem writeSet_of_failure {s : State} {l : List (Nat × Nat)} {st i : Nat} (h : Hdr) (op : Nat)
    (hfail : s.setFailure l = some (st, i)) :
    s.writeSet h op l = (s.noteFailure (s.resulting l) (l.getD i (0, 0))).finish h op st i := by
  unfold State.writeSet
  rw [hfail]

theorem writeSet_single {s : State} {x : Nat × Nat} (h : Hdr) (op : Nat) (hok : s.setFailure [x] = none)
    (hatOnce : deferredItem x.1 = false) : s.writeSet h op [x] = (s.applySet [x]).finish h op stOk := by
  rw [State.writeSet, hok]
  exact if_neg (by simp [hatOnce])

theorem writeSet_several {s : State} {l : List (Nat × Nat)} (h : Hdr) (op : Nat) (hok : s.setFailure l = none)
    (hlen : 2 ≤ l.length) : s.writeSet h op l = (s.applySet l).finish h op stOk := by
  match l, hlen with
  | x :: y :: r, _ =>
    unfold State.writeSet
    rw [hok]

/-- No status of a list fails, so none fails beside its index. -/
theorem find?_zipIdx_eq_none {l : List Nat} {p : Nat → Bool} (h : l.find? p = none) :
    l.zipIdx.find? (fun x => p x.1) = none := by
  rw [List.find?_eq_none] at h ⊢
  exact fun x hx => h x.1 (List.fst_mem_of_mem_zipIdx hx)

theorem readSet_of_readable {s : State} {ids : List Nat} (h : Hdr) (op : Nat)
    (hok : (ids.map readStatus).find? (fun st => st != stOk) = none) : s.readSet h op ids =
    (s.readItems ids).1.finish h op stOk 0 (((s.readItems ids).2.map (be 4)).flatten) := by
  rw [State.readSet, find?_zipIdx_eq_none hok]

theorem readSet_single_of_failure {s : State} {id : Nat} (h : Hdr) (op : Nat) (hfail : readStatus id ≠ stOk) :
    s.readSet h op [id] = s.finish h op (readStatus id) := by
  rw [State.readSet]
  simp [hfail]

section
variable {t : Nat} {s : State} {h : Hdr} (hserves : (s.tick t).serves) (hwaits : (s.tick t).waits h = false)
include hserves hwaits

theorem exec_registerWrite (id val : Word) : exec (.registerWrite t h id val) s =
    .next ((s.tick t).writeSet h opWriteParam [(id.toNat, val.toNat)]) :=
  packet_of_serves hserves hwaits

theorem exec_writeParam {items : List (Word × Word)} (hlo : 1 ≤ items.length) (hhi : items.length ≤ 509) :
    exec (.writeParam t h items) s =
      .next ((s.tick t).writeSet h opWriteParam (items.map (fun x => (x.1.toNat, x.2.toNat)))) := by
  change execWriteParam t h items s = _
  rw [execWriteParam, packet_of_serves hserves hwaits, if_neg (by omega)]

theorem exec_writeRange {first : Word} {vals : List Word} (hlo : 1 ≤ vals.length) (hhi : vals.length ≤ 1017)
    (hrange : rangeOk first.toNat vals.length = true) : exec (.writeRange t h first vals) s =
      .next ((s.tick t).writeSet h 0x0203 (vals.zipIdx.map (fun x => (first.toNat + x.2, x.1.toNat)))) := by
  change execWriteRange t h first vals s = _
  rw [execWriteRange, packet_of_serves hserves hwaits, hrange, if_neg (by simp only [reduceCtorEq, or_false]; omega)]

theorem exec_writeRange_passing {first : Word} {vals : List Word} (hrange : rangeOk first.toNat vals.length = false) :
    exec (.writeRange t h first vals) s = .next ((s.tick t).finish h 0x0203 stParamRange) := by
  change execWriteRange t h first vals s = _
  rw [execWriteRange, packet_of_serves hserves hwaits, if_pos (.inr (.inr hrange))]

theorem exec_readParam {ids : List Word} (hlo : 1 ≤ ids.length) (hhi : ids.length ≤ 1018) :
    exec (.readParam t h ids) s = .next ((s.tick t).readSet h 0x0200 (ids.map BitVec.toNat)) := by
  change execReadParam t h ids s = _
  rw [execReadParam, packet_of_serves hserves hwaits, if_neg (by omega)]

theorem exec_readRange {first : Word} {n : Nat} (hlo : 1 ≤ n) (hhi : n ≤ 1018)
    (hrange : rangeOk first.toNat n = true) : exec (.readRange t h first n) s =
      .next ((s.tick t).readSet h 0x0202 ((List.range n).map (first.toNat + ·))) := by
  change execReadRange t h first n s = _
  rw [execReadRange, packet_of_serves hserves hwaits, hrange, if_neg (by simp only [reduceCtorEq, or_false]; omega)]

theorem exec_readRange_passing {first : Word} {n : Nat} (hrange : rangeOk first.toNat n = false) :
    exec (.readRange t h first n) s = .next ((s.tick t).finish h 0x0202 stParamRange) := by
  change execReadRange t h first n s = _
  rw [execReadRange, packet_of_serves hserves hwaits, if_pos (.inr (.inr hrange))]

end

theorem rangeOk_iff (first n : Nat) : rangeOk first n = true ↔ pidItem first + n ≤ 0x1000 := decide_eq_true_iff

theorem rangeOk_eq_false_of_passing {first n : Nat} (hpass : 0xFFF < pidItem first + n - 1) : rangeOk first n = false :=
  decide_eq_false (by omega)

/-- Within a range the item number counts up without a carry into the field above it. -/
theorem fields_add_of_rangeOk {first n i : Nat} (hrange : rangeOk first n = true) (hi : i < n) :
    pidBlock (first + i) = pidBlock first ∧ pidInst (first + i) = pidInst first ∧
      pidItem (first + i) = pidItem first + i := by
  rw [rangeOk_iff] at hrange
  simp only [pidBlock, pidInst, pidItem, fld, Nat.shiftRight_eq_div_pow] at *
  omega

/-- Settles O52: the items of a range differ in their item field alone, and a range that does not is refused before any item of it is
looked at. -/
theorem rangeCommands : Obligations.RangeCommands := by
  refine ⟨fun first n i => fields_add_of_rangeOk, fun first n => rangeOk_iff first.toNat n, ?readPassing, ?writePassing,
    ?readRange, ?writeRange⟩
  case readPassing =>
    rintro t h first n s u rfl hserves hwaits hpass
    exact exec_readRange_passing hserves hwaits (rangeOk_eq_false_of_passing hpass)
  case writePassing =>
    rintro t h first vals s u rfl hserves hwaits hpass
    exact exec_writeRange_passing hserves hwaits (rangeOk_eq_false_of_passing hpass)
  case readRange =>
    rintro t h first n s u rfl hserves hwaits hlo hhi hrange
    exact exec_readRange hserves hwaits hlo hhi hrange
  case writeRange =>
    rintro t h first vals s u rfl hserves hwaits hlo hhi hrange
    exact exec_writeRange hserves hwaits hlo hhi hrange

/-- Settles O25: a set without a failing item is applied and answered OK, a list of readable items is read. -/
theorem itemCommandsComplete : Obligations.ItemCommandsComplete := by
  rintro t s u rfl
  refine ⟨?registerWrite, ?writeParam, ?writeRange, ?readParam, ?readRange⟩
  case registerWrite =>
    intro h id val hserves hwaits hok hatOnce
    rw [exec_registerWrite hserves hwaits, writeSet_single h _ hok hatOnce]
  case writeParam =>
    rintro h items l hserves hwaits hlo hhi rfl hok
    rw [exec_writeParam hserves hwaits (by omega) hhi, writeSet_several h _ hok (by simpa using hlo)]
  case writeRange =>
    rintro h first vals l hserves hwaits hlo hhi hrange rfl hok
    rw [exec_writeRange hserves hwaits (by omega) hhi hrange, writeSet_several h _ hok (by simpa using hlo)]
  case readParam =>
    intro h ids hserves hwaits hlo hhi hok
    rw [exec_readParam hserves hwaits hlo hhi, readSet_of_readable h _ hok]
  case readRange =>
    rintro h first count l hserves hwaits hlo hhi hrange rfl hok
    rw [exec_readRange hserves hwaits hlo hhi hrange, readSet_of_readable h _ hok]

/-- A write of a single item that fails by itself is the failure of its set. -/
theorem setFailure_single {s : State} {x : Nat × Nat} (hfail : s.writeStatus x.1 x.2 ≠ stOk) :
    s.setFailure [x] = some (s.writeStatus x.1 x.2, 0) := by
  have hown : s.ownStatus (s.resulting [x]) 1 x = s.writeStatus x.1 x.2 := by
    rw [State.ownStatus, if_neg (by simp), if_pos hfail]
  rw [State.setFailure]
  simp [hown, hfail, State.okLength]

theorem writeStatus_of_no_item {s : State} {id : Nat} (v : Nat) (hnone : descOf id = none) :
    s.writeStatus id v = stParamRange := by
  rw [State.writeStatus, hnone]

theorem writeStatus_of_readOnly {s : State} {id : Nat} {d : Desc} (v : Nat) (hdesc : descOf id = some d)
    (hro : d.acc = .ro) (hopen : heldBlock (pidBlock id) = false ∨ s.running = true) :
    s.writeStatus id v = stDenied := by
  have hopen' : ¬(heldBlock (pidBlock id) && !s.running) = true := by
    rcases hopen with hblock | hrun
    · simp [hblock]
    · simp [hrun]
  rw [State.writeStatus, hdesc]
  exact (if_neg hopen').trans (if_pos (.inl hro))

theorem readStatus_of_no_item {id : Nat} (hnone : descOf id = none) : readStatus id = stParamRange := by
  rw [readStatus, hnone]

theorem readStatus_of_writeOnly {id : Nat} {d : Desc} (hdesc : descOf id = some d) (hwo : d.acc = .wo) :
    readStatus id = stDenied := by
  rw [readStatus, hdesc]
  exact if_pos hwo

/-- Only an item of block 0x02 has a reason to keep (R273). -/
theorem noteFailure_of_other_block {s r : State} {x : Nat × Nat} (hblock : pidBlock x.1 ≠ 0x02) :
    s.noteFailure r x = s :=
  if_neg fun ⟨hb, _⟩ => hblock hb

/-- Settles O53: a set that fails is answered before any item of it is applied, and the status of an item that is not
there or not to be written, or not to be read, is that of its access. -/
theorem rejectedSetsApplyNothing : Obligations.RejectedSetsApplyNothing := by
  rintro t h s u rfl hserves hwaits
  refine ⟨?writeParam, ?writeNothing, ?writeReadOnly, ?readWriteOnly, ?readNothing⟩
  case writeParam =>
    rintro items l st i hlo hhi rfl hfail
    rw [exec_writeParam hserves hwaits hlo hhi, writeSet_of_failure h _ hfail]
    exact ⟨rfl, noteFailure_of_other_block⟩
  case writeNothing =>
    intro id val hnone _
    have hst := writeStatus_of_no_item (s := s.tick t) val.toNat hnone
    exact hst ▸ setFailure_single (by rw [hst]; decide)
  case writeReadOnly =>
    intro id val d hdesc hro hopen
    have hst := writeStatus_of_readOnly val.toNat hdesc hro hopen
    exact hst ▸ setFailure_single (by rw [hst]; decide)
  case readWriteOnly =>
    intro id d hdesc hwo
    have hst := readStatus_of_writeOnly hdesc hwo
    rw [exec_readParam hserves hwaits (by simp) (by simp), ← hst]
    exact congrArg Host.Outcome.next (readSet_single_of_failure h _ (by rw [hst]; decide))
  case readNothing =>
    intro id hnone
    have hst := readStatus_of_no_item hnone
    rw [exec_readParam hserves hwaits (by simp) (by simp), ← hst]
    exact congrArg Host.Outcome.next (readSet_single_of_failure h _ (by rw [hst]; decide))

end Sys2Proof.Machine

namespace Sys2Proof.Machine

/-! HELD, RUNNING and the confirmation of the signet: what the inversion lemma exec_kept says of them (R391, R392, R565). -/

/-- Of the classes of exec_kept, a start anew alone ends RUNNING; a commit boundary begins it, and the rest leave it. -/
theorem exec_keeps_running {c : Instr} {s u : State} (hc : startsAnew c = false) (hrunning : s.running = true)
    (hx : exec c s = .next u) : u.running = true := by
  have hold : startsAnew c ≠ true := by simp [hc]
  rcases exec_kept c s u hx with ⟨_, hkept⟩ | ⟨-, _, hkept⟩ | ⟨-, _, ⟨⟨-, hrun, -⟩, -⟩⟩ | ⟨hnew, -⟩ |
    ⟨_, _, _, -, hnew, -⟩ | ⟨_, _, _, -, ⟨-, hrun, -⟩, -⟩ | ⟨_, -, ⟨-, hrun, -⟩, -⟩
  · exact (congrArg (·.1.2.1) hkept).trans hrunning
  · exact (congrArg (·.2.1) hkept).trans hrunning
  · exact hrun.trans hrunning
  · exact absurd hnew hold
  · exact absurd hnew hold
  · exact hrun.trans hrunning
  · exact hrun

/-- Settles O32: only the commands that start the hub anew end RUNNING. -/
theorem runningHubNeverReturnsToHeld : Obligations.RunningHubNeverReturnsToHeld :=
  fun _ _ _ hc hrunning hx => exec_keeps_running hc hrunning hx

/-- Settles O33: of the classes of exec_kept, those that do not keep CONFIRMED either clear it or are the two commands
named; CONFIRM_SIGNET sets it on a running hub, and a commit boundary on a running hub does not set it (log entry 63). -/
theorem signetIsConfirmedOnlyHere : Obligations.SignetIsConfirmedOnlyHere := by
  intro c s u hx hbefore hafter
  have hchanged : u.safety.confirmed ≠ s.safety.confirmed := by simp [hbefore, hafter]
  rcases exec_kept c s u hx with ⟨_, hkept⟩ | ⟨-, _, hkept⟩ | ⟨-, _, ⟨⟨-, -, hconf, -⟩, -⟩⟩ | ⟨-, _, hfresh⟩ |
    ⟨_, _, _, -, -, hfresh⟩ | ⟨t, h, b, rfl, -, hconf⟩ | ⟨t, rfl, -, hconf⟩
  · exact absurd (congrArg (·.1.2.2.1) hkept) hchanged
  · exact absurd (congrArg (·.2.2.1) hkept) hchanged
  · exact absurd hconf hchanged
  · exact absurd ((congrArg (·.2.2.1) hfresh).trans hbefore.symm) hchanged
  · exact absurd ((congrArg (·.2.2.1) hfresh).trans hbefore.symm) hchanged
  · have hrunning : s.running = true := (hconf hafter).resolve_left fun hconfirmed =>
      hchanged (hafter.trans hconfirmed.symm)
    exact .inl ⟨t, h, b, rfl, hrunning⟩
  · have hheld : s.running ≠ true := fun hrunning => hchanged (hafter.trans (hconf hrunning hafter).symm)
    exact .inr ⟨t, rfl, Bool.eq_false_of_not_eq_true hheld⟩

end Sys2Proof.Machine

namespace Sys2Proof.Machine

/-! What a hub in HELD refuses (R391, R393). -/

/-- An opcode whose first check refuses it is answered with that check's status, and nothing else happens. -/
theorem packet_of_refused {op st t : Nat} {h : Hdr} {s : State} {refused : State → Bool} {f : State → State}
    (hserves : (s.tick t).serves) (hwaits : (s.tick t).waits h = false) (hrefused : refused (s.tick t) = true) :
    packet op h t s (fun s => if refused s then s.finish h op st else f s) = .next ((s.tick t).finish h op st) := by
  rw [packet_of_serves hserves hwaits, if_pos hrefused]

theorem heldBlock_iff (b : Nat) : heldBlock b = true ↔ b = 6 ∨ b = 7 ∨ (0x10 ≤ b ∧ b ≤ 0x17) := by
  simp [heldBlock, or_assoc]

theorem writeStatus_of_held {s : State} {id : Nat} (v : Nat) (hitem : (descOf id).isSome = true)
    (hblock : heldBlock (pidBlock id) = true) (hheld : s.running = false) : s.writeStatus id v = stNotCommitted := by
  obtain ⟨d, hdesc⟩ := Option.isSome_iff_exists.1 hitem
  rw [State.writeStatus, hdesc]
  exact if_pos (by simp [hblock, hheld])

theorem vwReadStatus_of_held {s : State} {src : Nat} (hsrc : src < 192) (hheld : s.running = false) :
    s.vwReadStatus src = stNotCommitted := by
  rw [State.vwReadStatus, if_neg (Nat.not_le.2 hsrc), if_pos (by simp [hheld])]

theorem acceptStatus_of_held {s : State} {n : Nat} (hheld : s.running = false) (hlo : 2 ≤ (s.act n).kind)
    (hhi : (s.act n).kind ≤ 6) : s.acceptStatus n = (stNotCommitted, 5) := by
  simp only [State.acceptStatus]
  rw [if_neg (by omega), if_pos ⟨hheld, hlo, hhi⟩]

/-- Settles O54: in HELD the write of an item of a closed block fails by itself, for an item that keeps no reason; the
opcodes look at HELD first, VW_READ after its source's number, and the acceptance of an entry after its type. -/
theorem heldHubRefuses : Obligations.HeldHubRefuses := by
  rintro t h s u rfl hserves hwaits hheld
  refine ⟨?registerWrite, ?vwRead, ?recordManual, ?recordClose, ?osApply, ?calRequest, ?selfTest, ?schedule⟩
  case registerWrite =>
    intro id val hitem hblock
    have hst := writeStatus_of_held val.toNat hitem ((heldBlock_iff _).2 hblock) hheld
    have hfail : (s.tick t).setFailure [(id.toNat, val.toNat)] = some (stNotCommitted, 0) :=
      hst ▸ setFailure_single (by rw [hst]; decide)
    have hother : pidBlock id.toNat ≠ 0x02 := by omega
    rw [exec_registerWrite hserves hwaits, writeSet_of_failure h _ hfail, List.getD_cons_zero,
      noteFailure_of_other_block (x := (id.toNat, val.toNat)) hother]
  case vwRead =>
    intro src hsrc
    change execVwRead t h src s = _
    rw [execVwRead, packet_of_serves hserves hwaits, vwReadStatus_of_held hsrc hheld]
    exact congrArg Host.Outcome.next (if_pos (by decide))
  case recordManual => exact fun profile net => packet_of_refused hserves hwaits (by simp [hheld])
  case recordClose => exact fun slot => packet_of_refused hserves hwaits (by simp [hheld])
  case osApply => exact fun mask => packet_of_refused hserves hwaits (by simp [hheld])
  case calRequest => exact fun ch => packet_of_refused hserves hwaits (by simp [hheld])
  case selfTest => exact fun ch => packet_of_refused hserves hwaits (by simp [hheld])
  case schedule => exact fun n hlo hhi => congrArg Prod.fst (acceptStatus_of_held hheld hlo hhi)

end Sys2Proof.Machine

namespace Sys2Proof.Machine

/-! The staging area and the commit (R380 to R384). -/

/-- A piece leaves the words before and after it alone. -/
theorem tfind_putWords_outside {ws : List Word} {first k : Nat} (t : Tbl Word)
    (hout : k < first ∨ first + ws.length ≤ k) : tfind (putWords ws first t) k = tfind t k := by
  induction ws generalizing first t with
  | nil => rfl
  | cons w r ih =>
    rw [List.length_cons] at hout
    rw [putWords, ih _ (by omega), tfind_tput_other t first k w (by omega)]

/-- Each word of a piece is read back, whatever was staged before. -/
theorem tfind_putWords_inside {ws : List Word} {first i : Nat} (t : Tbl Word) (hi : i < ws.length) :
    tfind (putWords ws first t) (first + i) = ws[i]? := by
  induction ws generalizing first i t with
  | nil => cases hi
  | cons w r ih =>
    rw [putWords]
    cases i with
    | zero => rw [tfind_putWords_outside _ (by omega), Nat.add_zero, tfind_tput_same, List.getElem?_cons_zero]
    | succ i =>
      rw [← Nat.add_assoc, Nat.add_right_comm, ih _ (Nat.lt_of_succ_lt_succ hi), List.getElem?_cons_succ]

/-- Settles O55: a piece is put word by word, each in its own place. -/
theorem imagePiecesReadBack : Obligations.ImagePiecesReadBack :=
  fun _ _ _ t => ⟨tfind_putWords_outside t, fun _ => tfind_putWords_inside t⟩

/-- Settles O26: the opcodes are packets whose status is OK, the check of a staged image ends while one is in progress, and
a commit that is due and whose base is still the committed image takes its image at C. -/
theorem imageCommandsComplete : Obligations.ImageCommandsComplete := by
  rintro t s u rfl
  refine ⟨?imgOpen, ?imgWrite, ?imgVerify, ?imgVerifyComplete, ?imgAbort, ?imgCommit, ?commitBoundary⟩
  case imgOpen =>
    intro h gen len hserves hwaits hok
    change execImgOpen t h gen len s = _
    rw [execImgOpen, packet_of_serves hserves hwaits, if_neg (by simp [hok])]
  case imgWrite =>
    intro h off data hserves hwaits hok
    change execImgWrite t h off data s = _
    rw [execImgWrite, packet_of_serves hserves hwaits, if_neg (by simp [hok])]
  case imgVerify =>
    intro h hserves hwaits howns hidle
    change execImgVerify t h s = _
    rw [execImgVerify, packet_of_serves hserves hwaits, if_neg (by simp [howns]), if_neg (by simp [hidle])]
  case imgVerifyComplete =>
    intro c i hup hverifying hchecked
    change execImgVerifyComplete t s = _
    rw [execImgVerifyComplete, command_of_coreUp hup, if_pos hverifying, hchecked]
    simp only [beq_iff_eq]
  case imgAbort =>
    intro h hserves hwaits hfree
    change execImgAbort t h s = _
    rw [execImgAbort, packet_of_serves hserves hwaits, if_neg (by simp [hfree])]
  case imgCommit =>
    intro h store hserves hwaits howns hidle hnone hverified
    change execImgCommit t h store s = _
    rw [execImgCommit, packet_of_serves hserves hwaits, if_neg (by simp [howns]), if_neg (by simp [hidle, hnone]),
      if_pos hverified]
  case commitBoundary =>
    intro h hdue hquiet hlive hbase hby
    change execCommitBoundary t s = _
    rw [execCommitBoundary, at_, if_neg (by simp [hdue, hquiet]), if_neg (by simp [hbase]), hby]

end Sys2Proof.Machine

namespace Sys2Proof.Machine

/-! The event queue and the watermarks (R403 to R408). -/

theorem popEntry_of_empty {s : State} (ecc : List Ecc) (hreading : s.evq.reading = []) (hqueue : s.evq.q = []) :
    s.popEntry ecc = (s, none, 0, ecc) := by
  rw [State.popEntry, hreading]
  exact if_pos (by simp [hqueue])

/-- Settles O44: there is no entry to pop. -/
theorem emptyQueueRead : Obligations.EmptyQueueRead := by
  intro s ecc _ hreading hqueue
  rw [State.readEntry, popEntry_of_empty ecc hreading hqueue]

theorem wmNext_asserts {cfg level : Nat} {w : Watermark} (hlive : w.live = false) (hset : fld cfg 0 12 ≤ level) :
    wmNext cfg level w = { w with live := true, up := true } :=
  if_pos (by simp [hlive, hset])

theorem wmNext_stays_released {cfg level : Nat} {w : Watermark} (hlive : w.live = false) (hset : level < fld cfg 0 12) :
    wmNext cfg level w = w := by
  rw [wmNext, if_neg (by simp [hset]), if_neg (by simp [hlive])]

theorem wmNext_releases {cfg level : Nat} {w : Watermark} (hlive : w.live = true) (hclr : level ≤ fld cfg 16 12) :
    wmNext cfg level w = { w with live := false, down := true } := by
  rw [wmNext, if_neg (by simp [hlive]), if_pos (by simp [hlive, hclr])]

theorem wmNext_stays_live {cfg level : Nat} {w : Watermark} (hlive : w.live = true) (hclr : fld cfg 16 12 < level) :
    wmNext cfg level w = w := by
  rw [wmNext, if_neg (by simp [hlive]), if_neg (by simp [hclr])]

/-- Settles O45: the three branches of wmNext, and the pins of a port that is powered or not. -/
theorem watermarkHysteresis : Obligations.WatermarkHysteresis := by
  refine ⟨fun cfg level w => ⟨wmNext_asserts, wmNext_stays_released, wmNext_releases, wmNext_stays_live⟩,
    fun s hport => ?_, fun s hport => ?_⟩
  · simp [State.fc0N, hport]
  · simp [State.fc0N, State.fc1N, State.irqN, hport]

/-- Settles O13: the controls of the queue are item writes with no check of their own; the rows of the spill act where
there is room to gain and a block to read back. -/
theorem queueCommandsComplete : Obligations.QueueCommandsComplete := by
  rintro t s u rfl
  refine ⟨?qctlClearUnderrun, ?qctlClearNotices, ?qctlClearLost, ?qctlClearReplyUnderrun, ?eventRead, ?spill,
    ?spillReadback⟩
  case qctlClearUnderrun => exact fun h hserves hwaits hitem => itemCommand_of_ok hserves hwaits hitem rfl
  case qctlClearNotices => exact fun h hserves hwaits hitem => itemCommand_of_ok hserves hwaits hitem rfl
  case qctlClearLost => exact fun h hserves hwaits hitem => itemCommand_of_ok hserves hwaits hitem rfl
  case qctlClearReplyUnderrun => exact fun h hserves hwaits hitem => itemCommand_of_ok hserves hwaits hitem rfl
  case eventRead =>
    intro h count ecc y bytes n hserves hwaits hlo hhi htaken
    change execEventRead t h count ecc s = _
    rw [execEventRead, packet_of_serves hserves hwaits, if_neg (by omega)]
    simp only [htaken]
    rfl
  case spill =>
    intro hpd hready hfull
    change execSpill t s = _
    rw [execSpill, at_, if_pos (by simp [hpd, hready, hfull])]
  case spillReadback =>
    intro b hfind hroom
    change execSpillReadback t s = _
    rw [execSpillReadback, at_, hfind]
    exact congrArg Host.Outcome.next (if_neg (Nat.not_lt.2 hroom))

/-! The storage ports, the archive and its jobs (R418 to R431). -/

theorem takeJob_of_free {s : State} {h : Hdr} {op : Nat} {exp : Bool} {sel : ArcSel} (hfree : s.arc.job = none)
    (hready : s.anyReady = true) : s.takeJob h op exp sel =
      { s with arc := { s.arc with job := some (exp, sel), jobSt := 1, jobStatus := 0, jobSkipped := 0 } }.accept h op
        .job := by
  rw [State.takeJob, if_neg (by simp [hfree]), if_neg (by simp [hready])]

/-- Settles O14: the rows of a port act in the state that their clause names; the controls are item writes with no check of
their own; a job needs a free archive with a port that is ready, and ends when its work is done. -/
theorem storageCommandsComplete : Obligations.StorageCommandsComplete := by
  rintro t s u rfl
  refine ⟨?storagePortFail, ?stCtlDetach, ?stCtlAttach, ?stInitComplete, ?resilverComplete, ?lifeCheck,
    ?archiveBlockWrite, ?storageWriteComplete, ?jobComplete, ?arcExport, ?arcCompress, ?arcRead, ?jobCancel⟩
  case storagePortFail =>
    intro st hst hpd hlo hhi
    change execStoragePortFail t st s = _
    rw [execStoragePortFail, onUnit_of_lt hst, if_pos (by simp [hpd, hlo, hhi])]
  case stCtlDetach => exact fun h st hserves hwaits hitem => itemCommand_of_ok hserves hwaits hitem rfl
  case stCtlAttach => exact fun h st hserves hwaits hitem => itemCommand_of_ok hserves hwaits hitem rfl
  case stInitComplete =>
    rintro st d y hst hpd hinit hattach hok hlabelled hlabel rfl
    have hown : (d.label.isSome && d.label == (s.tick t).labelId) = true := by simp [hlabelled, ← hlabel]
    change execStInitComplete t st d s = _
    rw [execStInitComplete, onUnit_of_lt hst, if_neg (by simp [hpd, hinit])]
    simp only [hattach, hok, hown, Bool.false_and, Bool.not_false, Bool.and_self, if_true]
  case resilverComplete =>
    rintro st y hst hresilvers hreached rfl
    change execResilverComplete t st s = _
    rw [execResilverComplete, onUnit_of_lt hst, if_pos ⟨hresilvers, hreached⟩]
  case lifeCheck =>
    intro st lifeA lifeB eol hst hlayout hlifeA hlifeB heol hdue
    change execLifeCheck t st lifeA lifeB eol s = _
    rw [execLifeCheck, onUnit_of_lt hst, if_neg (by simp [hlayout, hdue])]
    simp only [Nat.not_le.2 hlifeA, Nat.not_le.2 hlifeB, Nat.not_le.2 heol, decide_false, Bool.and_false, Bool.or_false,
      and_false, Bool.false_eq_true, if_false]
  case archiveBlockWrite =>
    intro ch ecc hpd hmounted hready hring hdue
    change execArchiveBlockWrite t ch ecc s = _
    rw [execArchiveBlockWrite, at_, if_neg (by simp [hpd, hmounted, hready, hring, hdue])]
  case storageWriteComplete =>
    intro index hmounted
    change execStorageWriteComplete t index s = _
    rw [execStorageWriteComplete, at_, if_pos hmounted]
  case jobComplete =>
    rintro sel bad n y hjob rfl rfl
    change execJobComplete t (.complete bad) s = _
    rw [execJobComplete, at_, hjob]
    exact congrArg Host.Outcome.next (if_pos rfl)
  case arcExport =>
    intro h sel hserves hwaits hfree hready
    change execArcExport t h sel s = _
    rw [execArcExport, packet_of_serves hserves hwaits, takeJob_of_free hfree hready]
  case arcCompress =>
    intro h sel hserves hwaits hfree hready
    change execArcCompress t h sel s = _
    rw [execArcCompress, packet_of_serves hserves hwaits, takeJob_of_free hfree hready]
  case arcRead =>
    intro h off len hserves hwaits hlo hhi hheld
    change execArcRead t h off len s = _
    rw [execArcRead, packet_of_serves hserves hwaits, if_neg (by omega)]
  case jobCancel =>
    intro h hserves hwaits hjob
    change execJobCancel t h s = _
    rw [execJobCancel, packet_of_serves hserves hwaits, if_pos hjob]

end Sys2Proof.Machine

namespace Sys2Proof.Machine

/-! Lanes: bring-up, tests, error counts and credits (R443 to R476). -/

/-- Settles O15: each row acts on a lane or port in the state that its clause names, once what it waits for has come. -/
theorem laneBringUpCommandsComplete : Obligations.LaneBringUpCommandsComplete := by
  rintro t s u rfl
  refine ⟨?laneSwitchClose, ?pllLock, ?pllLockTimeout, ?pllLoss, ?failedRetryLocked, ?failedRetry, ?helloSend,
    ?helloReceive, ?partnerGone, ?countdownSwitch, ?adaptLock, ?adaptFailure, ?trainingFrameReceive, ?dataStart,
    ?markerReceive, ?lockLoss, ?lockRegainTimeout, ?ethLinkUp⟩
  case laneSwitchClose =>
    intro lane hlane hpower hdown
    change execLaneSwitchClose t lane s = _
    rw [execLaneSwitchClose, onUnit_of_lt hlane, if_pos (by simp [hpower, hdown])]
  case pllLock =>
    intro lane hlane hpower hdown hstarted
    change execPllLock t lane s = _
    rw [execPllLock, onUnit_of_lt hlane, if_pos (by simp [hpower, hdown, hstarted])]
  case pllLockTimeout =>
    intro lane a hlane hpower hdown hstarted hdue
    change execPllLockTimeout t lane s = _
    rw [execPllLockTimeout, onUnit_of_lt hlane, if_pos (by simp [hpower, hdown, hstarted, hdue])]
  case pllLoss =>
    intro lane hlane hdown hfailed
    change execPllLoss t lane s = _
    rw [execPllLoss, onUnit_of_lt hlane, if_neg (by simp [hdown, hfailed])]
  case failedRetryLocked =>
    intro lane hlane hfailed hdue
    change execFailedRetry t lane true s = _
    rw [execFailedRetry, onUnit_of_lt hlane, if_neg (by simp [hfailed, hdue]), if_pos rfl]
  case failedRetry =>
    intro lane hlane hfailed hdue
    change execFailedRetry t lane false s = _
    rw [execFailedRetry, onUnit_of_lt hlane, if_neg (by simp [hfailed, hdue]), if_neg Bool.false_ne_true]
  case helloSend =>
    intro port hport hdue
    change execHelloSend t port s = _
    rw [execHelloSend, onUnit_of_lt hport, if_pos hdue]
  case helloReceive =>
    rintro port m y hport hborku hup rfl hseek
    change execHelloReceive t port m s = _
    rw [execHelloReceive, onUnit_of_lt hport, if_pos (by simp [hborku, hup])]
    simp only [if_neg hseek]
  case partnerGone =>
    intro port hport hsilent
    change execPartnerGone t port s = _
    rw [execPartnerGone, onUnit_of_lt hport, if_pos hsilent]
  case countdownSwitch =>
    intro port a hport hchange hat hdue
    change execCountdownSwitch t port s = _
    rw [execCountdownSwitch, onUnit_of_lt hport, if_pos (by simp [hchange, hat, hdue])]
  case adaptLock =>
    intro port hport hadapt hgen
    change execAdaptLock t port s = _
    rw [execAdaptLock, onUnit_of_lt hport, if_pos ⟨hadapt, .inl hgen⟩]
  case adaptFailure =>
    intro port hport hfailed
    change execAdaptFailure t port s = _
    rw [execAdaptFailure, onUnit_of_lt hport, if_pos hfailed]
  case trainingFrameReceive =>
    intro port control status eyeOk hport hadapt hgen htrains
    change execTrainingFrameReceive t port control status eyeOk s = _
    rw [execTrainingFrameReceive, onUnit_of_lt hport, if_pos ⟨hadapt, hgen, htrains⟩]
  case dataStart =>
    intro port hport hadapt hgen htrains hframes
    change execDataStart t port s = _
    rw [execDataStart, onUnit_of_lt hport, if_pos ⟨hadapt, hgen, htrains, hframes⟩]
  case markerReceive =>
    intro port hport hgen hup
    change execMarkerReceive t port true s = _
    rw [execMarkerReceive, onUnit_of_lt hport, if_pos ⟨hgen, .inl hup⟩, if_pos rfl]
  case lockLoss =>
    intro port hport hup
    change execLockLoss t port s = _
    rw [execLockLoss, onUnit_of_lt hport, if_pos hup]
  case lockRegainTimeout =>
    intro port a hport hup hlost hdue heth
    change execLockRegainTimeout t port s = _
    rw [execLockRegainTimeout, onUnit_of_lt hport, if_pos (by simp [hup, hlost, hdue]), if_neg (by simp [heth])]
  case ethLinkUp =>
    intro port fullDuplex hport hseek heth hgen
    change execEthLinkUp t port fullDuplex s = _
    rw [execEthLinkUp, onUnit_of_lt hport, if_pos ⟨hseek, heth⟩]
    simp only [beq_eq_false_iff_ne.2 hgen, if_neg hgen, Bool.false_and, Bool.false_eq_true, if_false]

/-- Configured values are no part of what the clock moves. -/
theorem cfgAt_tick (t : Nat) (s : State) (id : Nat) : (s.tick t).cfgAt id = s.cfgAt id := by
  have hcfg : (s.tick t).cfg = s.cfg := congrArg Prod.snd (State.tick_kept t s)
  rw [State.cfgAt, hcfg, State.cfgAt]

/-- Settles O16: the controls of a lane are item writes; ERR_INJ_SINGLE writes its bit beside the configured word, which
is the same before the tick and after it; the checker, the limits of the FEC and the credits act on a port in use. -/
theorem laneTestAndCreditCommandsComplete : Obligations.LaneTestAndCreditCommandsComplete := by
  rintro t s u rfl
  refine ⟨?laneTest, ?errInjSingle, ?laneCtlRetrain, ?laneCtlClear, ?checkerLock, ?checkerLockLoss,
    ?checkerCountSaturate, ?fecLimitCheck, ?creditReceive, ?creditSend⟩
  case laneTest => exact fun h port val hserves hwaits hitem hok => itemCommand_of_ok hserves hwaits hitem hok
  case errInjSingle =>
    intro h port hserves hwaits hitem hgenerates
    rw [State.cfgN, cfgAt_tick] at hitem
    exact itemCommand_of_ok hserves hwaits hitem (if_pos hgenerates)
  case laneCtlRetrain => exact fun h port hserves hwaits hitem => itemCommand_of_ok hserves hwaits hitem rfl
  case laneCtlClear => exact fun h port hserves hwaits hitem => itemCommand_of_ok hserves hwaits hitem rfl
  case checkerLock =>
    intro port hport htest hchecks hunlocked
    change execCheckerLock t port s = _
    rw [execCheckerLock, onUnit_of_lt hport, if_pos ⟨htest, hchecks, hunlocked⟩]
  case checkerLockLoss =>
    intro port hport hlocked
    change execCheckerLockLoss t port s = _
    rw [execCheckerLockLoss, onUnit_of_lt hport, if_pos hlocked]
  case checkerCountSaturate =>
    intro port hport hlocked hbits
    change execCheckerCountSaturate t port false s = _
    rw [execCheckerCountSaturate, onUnit_of_lt hport, if_neg (by simp [hlocked, hbits]), if_neg Bool.false_ne_true]
  case fecLimitCheck =>
    rintro port corr unc sym y z hport hgen hdue rfl rfl hbelow
    change execFecLimitCheck t port corr unc sym s = _
    rw [execFecLimitCheck, onUnit_of_lt hport, if_neg (by simp [hgen, hdue])]
    simp only [decide_eq_true_eq, if_neg hbelow]
  case creditReceive =>
    intro port c2 c3 hport hup hborku
    change execCreditReceive t port c2 c3 s = _
    rw [execCreditReceive, onUnit_of_lt hport, if_pos (by simp [hup, hborku])]
  case creditSend =>
    intro port hport hup hborku hfour
    change execCreditSend t port s = _
    rw [execCreditSend, onUnit_of_lt hport, if_pos (by simp [hup, hborku, hfour])]

/-! Frames, the topology database and the routes (R469 to R491). -/

theorem takeWcp_toHub {s : State} {port : Nat} {f : Frame} (hok : s.frameOk port f [0x05, 0x10] = true)
    (htyp : f.typ = 0x10) (hplain : s.collectorUp port = false) (huni : f.bcast = false)
    (hdest : s.net.id = some f.dest) : s.takeWcp port f = s.deliverWcp port f.payload := by
  rw [State.takeWcp, if_neg (by simp [hok]), if_neg (by simp [hplain]), if_neg (by simp [huni]), if_pos hdest.symm,
    if_pos htyp]

theorem takeStream_toOther {s : State} {port : Nat} {f : Frame} (hok : s.frameOk port f [0x20, 0x21] = true)
    (hdest : s.net.id ≠ some f.dest) : s.takeStream port f = s.forward port f := by
  rw [State.takeStream, if_neg (by simp [hok]), if_neg hdest.symm]

/-- Settles O17: frames are sent and taken on ports that carry them; what expires has an age that reached its limit; the
opcodes find what they name. -/
theorem frameAndRoutingCommandsComplete : Obligations.FrameAndRoutingCommandsComplete := by
  rintro t s u rfl
  refine ⟨?portFrameSend, ?blockSent, ?wcpFrameReceive, ?streamFrameReceive, ?ethFrameReceive, ?lsaReceive,
    ?lsaRefresh, ?lsaUnreachableHold, ?idHoldExpiry, ?routeRecompute, ?queuedFrameExpiry, ?proxyExpiry, ?streamAttach,
    ?topologyRead, ?idRelease, ?idClaimWaitEnd⟩
  case portFrameSend =>
    rintro port ecc y x hport hcarries hidle rfl hpicked
    change execPortFrameSend t port ecc s = _
    rw [execPortFrameSend, onUnit_of_lt hport, if_pos (by simp [hcarries, hidle])]
    simp only [hpicked]
  case blockSent =>
    intro port order r hport hsending
    change execBlockSent t port s = _
    rw [execBlockSent, onUnit_of_lt hport, hsending]
  case wcpFrameReceive =>
    intro port f hport hcarries hok htyp hplain huni hdest
    change execWcpFrameReceive t port f s = _
    rw [execWcpFrameReceive, onUnit_of_lt hport, if_pos hcarries, takeWcp_toHub hok htyp hplain huni hdest]
  case streamFrameReceive =>
    intro port f hport hcarries hok hdest
    change execStreamFrameReceive t port f s = _
    rw [execStreamFrameReceive, onUnit_of_lt hport, if_pos hcarries, takeStream_toOther hok hdest]
  case ethFrameReceive =>
    intro port etherType f hport hcarries heth hptp htype htyp
    change execEthFrameReceive t port etherType f s = _
    rw [execEthFrameReceive, onUnit_of_lt hport, if_neg (by simp [hcarries, heth]), if_neg hptp,
      if_neg (not_not.2 htype), if_pos htyp]
  case lsaReceive =>
    rintro port m y hport hcarries hborku hother hnewer rfl
    change execLsaReceive t port m s = _
    rw [execLsaReceive, onUnit_of_lt hport, if_pos (by simp [hcarries, hborku, hother, hnewer])]
  case lsaRefresh =>
    intro hpd hdue
    change execLsaRefresh t s = _
    rw [execLsaRefresh, at_, if_pos (by simp [hpd, hdue])]
  case lsaUnreachableHold =>
    intro eui e hentry hheld hroute hdue
    change execLsaUnreachableHold t eui s = _
    rw [execLsaUnreachableHold, at_, hentry]
    exact congrArg Host.Outcome.next (if_pos (by simp [hheld, hroute, hdue]))
  case idHoldExpiry =>
    intro eui e hentry hheld hdue
    change execIdHoldExpiry t eui s = _
    rw [execIdHoldExpiry, at_, hentry]
    exact congrArg Host.Outcome.next (if_pos (by simp [hheld, hdue]))
  case routeRecompute =>
    intro hdirty
    change execRouteRecompute t s = _
    rw [execRouteRecompute, at_, if_pos hdirty]
  case queuedFrameExpiry =>
    intro dest a hsince hroute hother hdue
    change execQueuedFrameExpiry t dest s = _
    rw [execQueuedFrameExpiry, at_, hsince]
    exact congrArg Host.Outcome.next (if_pos (by simp [hroute, hother, hdue]))
  case proxyExpiry =>
    intro tag x a hproxy hreply hfinal hdue
    change execProxyExpiry t tag s = _
    rw [execProxyExpiry, at_, hproxy]
    simp only [hreply, hfinal, Bool.false_eq_true, if_false, if_pos hdue]
  case streamAttach =>
    intro h detach hserves hwaits hok
    change execStreamAttach t h detach s = _
    rw [execStreamAttach, packet_of_serves hserves hwaits, if_neg (by simp [hok])]
  case topologyRead =>
    intro h id m a hserves hwaits hheld
    change execTopologyRead t h id s = _
    rw [execTopologyRead, packet_of_serves hserves hwaits, hheld]
  case idRelease =>
    intro h id hserves hwaits hroute hother
    change execIdRelease t h id s = _
    rw [execIdRelease, packet_of_serves hserves hwaits, if_neg (by simp [hroute, hother.symm])]
  case idClaimWaitEnd =>
    intro hclaims hdue hwon hfree hnowait
    change execIdClaimWaitEnd t s = _
    rw [execIdClaimWaitEnd, at_, if_pos ⟨hclaims, hdue⟩, if_neg (by simp [hwon, hfree])]
    exact congrArg Host.Outcome.next (if_neg (by simp [hnowait]))

end Sys2Proof.Machine

namespace Sys2Proof.Machine

/-! How an event enters the queue (R403, R404). -/

/-- The entries that events of a queue take. -/
def entries (l : List Ev) : Nat := (l.map (fun x => x.words.length)).sum

theorem admitEv_of_room {e : Ev} {used : Nat} {q : List Ev} (hroom : used + e.words.length ≤ 4096) :
    admitEv e used q = (insertBy (fun (x y : Ev) => y.prio < x.prio) e q, 0) :=
  if_pos hroom

/-- Without room for it even beside the events of its own priority and higher, an event is dropped. -/
theorem admitEv_of_dropped {e : Ev} {used : Nat} {q : List Ev}
    (hfull : 4096 + entries (q.filter (fun x => x.prio < e.prio)) < used + e.words.length) : admitEv e used q = (q, 1) := by
  rw [admitEv, if_neg (by omega)]
  exact if_neg (Nat.not_le.2 hfull)

/-- What discardBelow takes from the end of a queue in reading order: no more than is needed (R404). -/
theorem discardBelow_reverse {p k free : Nat} {q : List Ev} (hsorted : q.Pairwise (fun x y => y.prio ≤ x.prio))
    (hroom : k ≤ free + entries (q.filter (fun x => x.prio < p))) :
    ∃ kept gone, q = kept ++ gone ∧ discardBelow p k q.reverse free 0 = (kept.reverse, gone.length) ∧
      (∀ x ∈ gone, x.prio < p) ∧ k ≤ free + entries gone ∧ ∀ x l, gone = x :: l → free + entries l < k := by
  have hroom' : k ≤ free + ((q.reverse.filter (fun x => x.prio < p)).map (fun x => x.words.length)).sum := by
    rwa [List.filter_reverse, List.map_reverse, List.sum_reverse]
  obtain ⟨gone, kept, hq, hdiscard, hlow, henough, hleast⟩ :=
    discardBelow_spec p k q.reverse free 0 (List.pairwise_reverse.2 hsorted) hroom'
  refine ⟨kept.reverse, gone.reverse, ?_, ?_, fun x hx => hlow x (List.mem_reverse.1 hx), ?_, fun x l hl => ?_⟩
  · rw [← List.reverse_append, ← hq, List.reverse_reverse]
  · rw [hdiscard, List.reverse_reverse, List.length_reverse, Nat.zero_add]
  · rwa [entries, List.map_reverse, List.sum_reverse]
  · have hgone : gone = l.reverse ++ [x] := by rw [← List.reverse_reverse gone, hl, List.reverse_cons]
    have hless := hleast x l.reverse hgone
    rwa [List.map_reverse, List.sum_reverse] at hless

/-- An event that enters at the cost of lower ones: the queue without what discardBelow takes, and the event in it. -/
theorem admitEv_of_discard {e : Ev} {used : Nat} {q : List Ev} (hsorted : q.Pairwise (fun x y => y.prio ≤ x.prio))
    (hused : used ≤ 4096) (hfull : 4096 < used + e.words.length)
    (hroom : used + e.words.length ≤ 4096 + entries (q.filter (fun x => x.prio < e.prio))) :
    ∃ kept gone, q = kept ++ gone ∧
      admitEv e used q = (insertBy (fun (x y : Ev) => y.prio < x.prio) e kept, gone.length) ∧
      (∀ x ∈ gone, x.prio < e.prio) ∧ used + e.words.length ≤ 4096 + entries gone ∧
      ∀ x l, gone = x :: l → 4096 + entries l < used + e.words.length := by
  obtain ⟨kept, gone, hq, hdiscard, hlow, henough, hleast⟩ :=
    discardBelow_reverse (p := e.prio) (k := e.words.length) (free := 4096 - used) hsorted (by omega)
  refine ⟨kept, gone, hq, ?_, hlow, by omega, fun x l hl => ?_⟩
  · rw [admitEv, if_neg (Nat.not_le.2 hfull)]
    refine (if_pos hroom).trans ?_
    simp only [hdiscard, List.reverse_reverse]
  · have := hleast x l hl
    omega

theorem admitEv_sorted {e : Ev} {used : Nat} {q : List Ev} (hsorted : q.Pairwise (fun x y => y.prio ≤ x.prio))
    (hused : used ≤ 4096) : (admitEv e used q).1.Pairwise (fun x y => y.prio ≤ x.prio) := by
  rcases Nat.lt_or_ge 4096 (used + e.words.length) with hfull | hroom
  · rcases Nat.lt_or_ge (4096 + entries (q.filter (fun x => x.prio < e.prio))) (used + e.words.length) with hdrop | hlow
    · rwa [admitEv_of_dropped hdrop]
    · obtain ⟨kept, gone, rfl, hadmit, -⟩ := admitEv_of_discard hsorted hused hfull hlow
      rw [hadmit]
      exact insertBy_sorted e kept (List.pairwise_append.1 hsorted).1
  · rw [admitEv_of_room hroom]
    exact insertBy_sorted e q hsorted

/-- Settles O43: admitEv inserts the event into the queue, or into what discardBelow leaves of it, or drops it. -/
theorem eventAdmission : Obligations.EventAdmission := by
  intro e q used hsorted hused
  refine ⟨fun hroom => ?_, fun hfull hroom => ?_, fun hfull => admitEv_of_dropped hfull, admitEv_sorted hsorted hused⟩
  · rw [admitEv_of_room hroom]
    exact ⟨insertBy_perm e q, rfl⟩
  · obtain ⟨kept, gone, hq, hadmit, hlow, henough, hleast⟩ := admitEv_of_discard hsorted hused hfull hroom
    rw [hadmit]
    exact ⟨kept, gone, hq, hlow, insertBy_perm e kept, rfl, henough, hleast⟩

end Sys2Proof.Machine

namespace Sys2Proof.Machine

/-! What a look at the safety unit's demands changes: the outputs, events and counters (R566 to R568). -/

/-- v differs from s in the outputs of the safety unit, the event queue and the counters at most. -/
def onlyOutputs (s v : State) : Prop :=
  ∃ e c so0 so1, v = { s with evq := e, counts := c, safety := { s.safety with so0 := so0, so1 := so1 } }

theorem onlyOutputs_refl (s : State) : onlyOutputs s s := ⟨s.evq, s.counts, s.safety.so0, s.safety.so1, rfl⟩

theorem onlyOutputs_trans {a b c : State} (hab : onlyOutputs a b) (hbc : onlyOutputs b c) : onlyOutputs a c := by
  obtain ⟨_, _, _, _, rfl⟩ := hab
  obtain ⟨e, k, so0, so1, rfl⟩ := hbc
  exact ⟨e, k, so0, so1, rfl⟩

theorem onlyOutputs_of_onlyEvents {s v : State} (h : onlyEvents s v) : onlyOutputs s v := by
  obtain ⟨e, c, rfl⟩ := h
  exact ⟨e, c, s.safety.so0, s.safety.so1, rfl⟩

theorem modSo_onlyOutputs (s : State) (x : Nat) (f : So → So) : onlyOutputs s (s.modSo x f) := by
  unfold State.modSo State.setSo
  split
  · exact ⟨s.evq, s.counts, _, s.safety.so1, rfl⟩
  · exact ⟨s.evq, s.counts, s.safety.so0, _, rfl⟩

theorem soDrive_onlyOutputs (s : State) (x : Nat) (hs ls : Bool) : onlyOutputs s (s.soDrive x hs ls) :=
  modSo_onlyOutputs s x _

theorem soLatch_onlyOutputs (s : State) (x : Nat) : onlyOutputs s (s.soLatch x) := by
  unfold State.soLatch
  exact modSo_onlyOutputs s x _

theorem soState_onlyOutputs (s : State) (x : Nat) (st : SoState) : onlyOutputs s (s.soState x st) := by
  unfold State.soState
  split
  · exact onlyOutputs_refl s
  · exact onlyOutputs_trans (modSo_onlyOutputs s x _) (onlyOutputs_of_onlyEvents (raise_onlyEvents _ _ _))

theorem soResult_onlyOutputs (s : State) (x d r : Nat) : onlyOutputs s (s.soResult x d r) :=
  onlyOutputs_trans (modSo_onlyOutputs s x _)
    (onlyOutputs_of_onlyEvents (onlyEvents_trans (bump_onlyEvents _ _ _ _) (raise_onlyEvents _ _ _)))

theorem soFollow_onlyOutputs (s : State) (x : Nat) : onlyOutputs s (s.soFollow x) := by
  have hdrive (u : State) (hs ls : Bool) (st : SoState) : onlyOutputs u ((u.soDrive x hs ls).soState x st) :=
    onlyOutputs_trans (soDrive_onlyOutputs u x hs ls) (soState_onlyOutputs _ x st)
  unfold State.soFollow
  dsimp only
  split
  · exact onlyOutputs_refl s
  · split
    · split
      · exact hdrive s false true .starting
      · exact onlyOutputs_refl s
    · split
      · exact onlyOutputs_refl s
      · split
        · -- an interrupted test ends inconclusive
          exact onlyOutputs_trans (soResult_onlyOutputs s x _ 3)
            (onlyOutputs_trans (modSo_onlyOutputs _ x _) (hdrive _ false false .off))
        · exact hdrive s false false .off

theorem safetyRefresh_onlyOutputs (s : State) : onlyOutputs s s.safetyRefresh :=
  onlyOutputs_trans (soLatch_onlyOutputs s 0) (onlyOutputs_trans (soLatch_onlyOutputs _ 1)
    (onlyOutputs_trans (soFollow_onlyOutputs _ 0) (soFollow_onlyOutputs _ 1)))

section
variable {s v : State} (h : onlyOutputs s v)
include h

theorem onlyOutputs_faults : v.faults = s.faults := by
  obtain ⟨_, _, _, _, rfl⟩ := h
  rfl

theorem onlyOutputs_cfg : v.cfg = s.cfg := by
  obtain ⟨_, _, _, _, rfl⟩ := h
  rfl

theorem onlyOutputs_boot : v.boot = s.boot := by
  obtain ⟨_, _, _, _, rfl⟩ := h
  rfl

theorem onlyOutputs_confirmed : v.safety.confirmed = s.safety.confirmed := by
  obtain ⟨_, _, _, _, rfl⟩ := h
  rfl

theorem onlyOutputs_nsl (c : Nat) : v.nsl c = s.nsl c := by
  obtain ⟨_, _, _, _, rfl⟩ := h
  rfl

theorem onlyOutputs_nslCfg (c : Nat) : v.nslCfg c = s.nslCfg c := by
  rw [State.nslCfg, State.cfgN, State.cfgAt, onlyOutputs_cfg h]
  rfl

end

end Sys2Proof.Machine

namespace Sys2Proof.Machine

/-! FAULT_CLEAR (R508, R514, R515, R517). -/

@[simp] theorem raise_faults (s : State) (evCode : Nat) (fields : List (Nat × Nat)) :
    (s.raise evCode fields).faults = s.faults :=
  onlyOutputs_faults (onlyOutputs_of_onlyEvents (raise_onlyEvents s evCode fields))

/-- A source after FAULT_CLEAR has named it: LATCHED and SEVERE go unless it is active or of the safety class. -/
def clearedBy (n : Nat) (f : FSrc) : FSrc :=
  if f.latched && !f.active && !safetyClass n then { f with latched := false, severe := false, occ := [] } else f

@[simp] theorem clearedBy_clearedBy (n : Nat) (f : FSrc) : clearedBy n (clearedBy n f) = clearedBy n f := by
  by_cases hclears : (f.latched && !f.active && !safetyClass n) = true
  · simp [clearedBy, hclears]
  · simp [clearedBy, hclears]

theorem clearedBy_of_kept {n : Nat} {f : FSrc} (hkept : f.active = true ∨ safetyClass n = true) : clearedBy n f = f := by
  rcases hkept with hactive | hsafety
  · simp [clearedBy, hactive]
  · simp [clearedBy, hsafety]

theorem clearedBy_latched {n : Nat} {f : FSrc} (hactive : f.active = false) (hsafety : safetyClass n = false) :
    (clearedBy n f).latched = false ∧ (f.latched = true → (clearedBy n f).severe = false) := by
  cases hlatched : f.latched with
  | false => simp [clearedBy, hlatched]
  | true => simp [clearedBy, hlatched, hactive, hsafety]

/-- Of the collector, clearing a source changes that source alone. -/
theorem clearSrc_faults (s : State) (n : Nat) (hsrcs : twf {} s.faults.srcs = true) :
    ∃ t, (s.clearSrc n).faults = { s.faults with srcs := t } ∧ twf {} t = true ∧
      ∀ m, tget {} t m = if m = n then clearedBy n (s.fsrc n) else s.fsrc m := by
  by_cases hclears : ((s.fsrc n).latched && !(s.fsrc n).active && !safetyClass n) = true
  · refine ⟨_, ?_, twf_tmod {} s.faults.srcs n
      (fun f => { f with latched := false, severe := false, occ := [] }) hsrcs, fun m => ?_⟩
    · rw [State.clearSrc]
      simp only [if_pos hclears]
      split
      · rfl
      · rw [raise_faults]
        rfl
    · split
      next hm =>
        rw [hm, tget_tmod_same _ _ _ _ hsrcs, clearedBy, if_pos hclears]
        rfl
      next hm => exact tget_tmod_other _ _ _ _ _ hm
  · refine ⟨s.faults.srcs, ?_, hsrcs, fun m => ?_⟩
    · rw [State.clearSrc]
      simp only [if_neg hclears]
    · split
      next hm => rw [hm, clearedBy, if_neg hclears, State.fsrc]
      next => rfl

/-- FAULT_CLEAR's look at each named source: those named are cleared, and of the collector nothing else changes. -/
theorem forAll_clearSrc_faults (l : List Nat) (s : State) (hsrcs : twf {} s.faults.srcs = true) :
    ∃ t, (forAll l State.clearSrc s).faults = { s.faults with srcs := t } ∧
      ∀ m, tget {} t m = if m ∈ l then clearedBy m (s.fsrc m) else s.fsrc m := by
  induction l generalizing s with
  | nil => exact ⟨s.faults.srcs, rfl, fun m => by simp [State.fsrc]⟩
  | cons n r ih =>
    obtain ⟨t, hfaults, ht, hget⟩ := clearSrc_faults s n hsrcs
    have hfsrc (m : Nat) : (s.clearSrc n).fsrc m = if m = n then clearedBy n (s.fsrc n) else s.fsrc m := by
      rw [State.fsrc, hfaults]
      exact hget m
    obtain ⟨t', hfaults', hget'⟩ := ih (s.clearSrc n) (by rw [hfaults]; exact ht)
    refine ⟨t', ?_, fun m => ?_⟩
    · rw [hfaults] at hfaults'
      exact hfaults'
    · rw [hget', hfsrc]
      by_cases hm : m = n
      · simp [hm]
      · simp [hm]

theorem safeClear_faults (s : State) :
    ∃ safe safeBy, s.safeClear.faults = { s.faults with safe := safe, safeBy := safeBy } := by
  rw [State.safeClear]
  dsimp only
  split
  · rw [onlyOutputs_faults (safetyRefresh_onlyOutputs _)]
    exact ⟨_, _, rfl⟩
  · exact ⟨s.faults.safe, _, rfl⟩

theorem releaseFaultN_faults (s : State) :
    ∃ faultN asked, s.releaseFaultN.faults = { s.faults with faultN := faultN, clearAsked := asked } := by
  rw [State.releaseFaultN]
  split
  · exact ⟨_, _, rfl⟩
  · exact ⟨s.faults.faultN, s.faults.clearAsked, rfl⟩

theorem emptyLocket_faults (s : State) (locket : Bool) :
    (if locket then { s with faults := { s.faults with locket := {}, copied := false } } else s).faults =
      { s.faults with
        locket := if locket then {} else s.faults.locket
        copied := if locket then false else s.faults.copied } := by
  cases locket <;> rfl

theorem askFaultN_faults (s : State) (faultN : Bool) :
    ∃ pin asked, (if faultN then ({ s with faults := { s.faults with clearAsked := true } }).releaseFaultN else s).faults =
      { s.faults with faultN := pin, clearAsked := asked } := by
  cases faultN with
  | false => exact ⟨s.faults.faultN, s.faults.clearAsked, rfl⟩
  | true => exact releaseFaultN_faults { s with faults := { s.faults with clearAsked := true } }

/-- What FAULT_CLEAR does to the fault collector. -/
theorem faultClear_faults (s : State) (l : List Nat) (locket faultN : Bool) (hsrcs : twf {} s.faults.srcs = true) :
    ∃ srcs safe safeBy pin asked, (s.faultClear l locket faultN).faults = { s.faults with
      srcs := srcs
      safe := safe
      safeBy := safeBy
      faultN := pin
      clearAsked := asked
      locket := if locket then {} else s.faults.locket
      copied := if locket then false else s.faults.copied } ∧
      ∀ m, tget {} srcs m = if m ∈ l then clearedBy m (s.fsrc m) else s.fsrc m := by
  obtain ⟨srcs, hcleared, hget⟩ := forAll_clearSrc_faults l s hsrcs
  obtain ⟨safe, safeBy, hsafe⟩ := safeClear_faults (forAll l State.clearSrc s)
  obtain ⟨pin, asked, hpin⟩ := askFaultN_faults (if locket then
      { (forAll l State.clearSrc s).safeClear with
        faults := { (forAll l State.clearSrc s).safeClear.faults with locket := {}, copied := false } }
    else (forAll l State.clearSrc s).safeClear) faultN
  refine ⟨srcs, safe, safeBy, pin, asked, hpin.trans ?_, hget⟩
  rw [emptyLocket_faults, hsafe, hcleared]

/-- Settles O57: FAULT_CLEAR clears the sources that clearedBy tells, and changes nothing of the fences. -/
theorem faultClearClearsWhatItMay : Obligations.FaultClearClearsWhatItMay := by
  rintro t h mask locket faultN s u rfl hserves hwaits hsrcs
  obtain ⟨srcs, safe, safeBy, pin, asked, hfaults, hget⟩ :=
    faultClear_faults (s.tick t) (maskSrcs mask) locket faultN hsrcs
  have hfsrc (n : Nat) : ((s.tick t).faultClear (maskSrcs mask) locket faultN).fsrc n =
      if n ∈ maskSrcs mask then clearedBy n ((s.tick t).fsrc n) else (s.tick t).fsrc n := by
    rw [State.fsrc, hfaults]
    exact hget n
  refine ⟨(s.tick t).faultClear (maskSrcs mask) locket faultN, packet_of_serves hserves hwaits,
    fun n hn hactive hsafety => ?_, fun n hkept => ?_, ?_, ?_, ?_, ?_, fun hlocket => ?_, fun hlocket => ?_⟩
  · rw [hfsrc, if_pos hn]
    exact clearedBy_latched hactive hsafety
  · rw [hfsrc]
    split
    next hn => exact clearedBy_of_kept (hkept.resolve_left (not_not.2 hn))
    next => rfl
  iterate 4 rw [hfaults]
  · rw [hfaults, if_pos hlocket, if_pos hlocket]
    exact ⟨rfl, rfl⟩
  · rw [hfaults, if_neg (by simp [hlocket]), if_neg (by simp [hlocket])]
    exact ⟨rfl, rfl⟩

end Sys2Proof.Machine

namespace Sys2Proof.Machine

/-! Frames of the NSL connections and their commands (R558 to R565). -/

/-- A connection that has taken a DATA frame. -/
def State.nslAfter (s : State) (c : Nat) (b : List Byte) (k : Nsl) : Nsl :=
  { k with
    rx := fbe b 2 2
    tx := ((s.nsl c).tx + 1) % 2 ^ 16
    permit := BitVec.ofNat 2 (fbe b 13 1)
    seenData := true
    last := s.now }

/-- The state in which the command of an accepted DATA frame acts: the connection has taken the frame. -/
def State.nslTaken (s : State) (c : Nat) (b : List Byte) : State :=
  let gap := (sdiff 16 (fbe b 2 2) (s.nsl c).rx).toNat - 1
  let taken := s.modNsl c (s.nslAfter c b)
  (if gap = 0 then taken else taken.evNsl c 4 gap).safetyRefresh

/-- A DATA frame: its command acts on the connection that has taken it, and the hub's frame carries the result. -/
theorem nslTake_data {s : State} {op c : Nat} {b : List Byte} {v : State} {result st : Nat} (hdata : fbe b 1 1 = 3)
    (hcommand : (s.nslTaken c b).nslCommand op c (fbe b 16 4) = (v, result, st)) : s.nslTake op c b =
      (v, st, nslFrame 3 (((s.nsl c).tx + 1) % 2 ^ 16) (fbe b 4 4) (s.nslWd c) (v.nslPayload (fbe b 12 1) result)) := by
  have htaken : s.nslTake op c b = (((s.nslTaken c b).nslCommand op c (fbe b 16 4)).1,
      ((s.nslTaken c b).nslCommand op c (fbe b 16 4)).2.2,
      nslFrame 3 (((s.nsl c).tx + 1) % 2 ^ 16) (fbe b 4 4) (s.nslWd c)
        (((s.nslTaken c b).nslCommand op c (fbe b 16 4)).1.nslPayload (fbe b 12 1)
          ((s.nslTaken c b).nslCommand op c (fbe b 16 4)).2.1)) := by
    rw [State.nslTake, hdata]
    rfl
  rw [htaken, hcommand]

theorem nslTaken_onlyOutputs (s : State) (c : Nat) (b : List Byte) :
    onlyOutputs (s.modNsl c (s.nslAfter c b)) (s.nslTaken c b) := by
  refine onlyOutputs_trans ?_ (safetyRefresh_onlyOutputs _)
  split
  · exact onlyOutputs_refl _
  · exact onlyOutputs_of_onlyEvents (raise_onlyEvents _ _ _)

@[simp] theorem nslTaken_nslCfg (s : State) (c : Nat) (b : List Byte) : (s.nslTaken c b).nslCfg c = s.nslCfg c :=
  onlyOutputs_nslCfg (nslTaken_onlyOutputs s c b) c

/-- The sequence of a frame that has been taken is the last accepted. -/
theorem nslTaken_rx {s : State} (c : Nat) (b : List Byte) (hconns : twf {} s.safety.conns = true) :
    ((s.nslTaken c b).nsl c).rx = fbe b 2 2 := by
  have hread : (s.modNsl c (s.nslAfter c b)).nsl c = s.nslAfter c b (s.nsl c) := tget_tmod_same _ _ c _ hconns
  rw [onlyOutputs_nsl (nslTaken_onlyOutputs s c b), hread]
  rfl

theorem nslCommand_cycle (s : State) (c arg : Nat) : s.nslCommand 0x0B00 c arg = (s, 0, stOk) := if_pos rfl

theorem nslCommand_denied {s : State} {op c : Nat} (arg : Nat) (hop : op ≠ 0x0B00)
    (hcontrol : bit (s.nslCfg c) 19 = false) : s.nslCommand op c arg = (s, 1, stDenied) := by
  rw [State.nslCommand, if_neg hop, if_pos (by simp [hcontrol])]

theorem nslCommand_confirm {s : State} {c : Nat} (arg : Nat) (hcontrol : bit (s.nslCfg c) 19 = true) :
    s.nslCommand 0x0B01 c arg = ((s.confirmSignet arg).1, (s.confirmSignet arg).2,
      if (s.confirmSignet arg).2 = 0 then stOk else stSignetMismatch) := by
  rw [State.nslCommand, if_neg (by decide), if_neg (by simp [hcontrol]), if_pos rfl]

/-- The signet in force is confirmed, and stored as confirmed (R565). -/
theorem confirmSignet_of_inForce {s : State} {arg : Nat} (hrunning : s.running = true)
    (hsig : arg = s.safety.signet.toNat) : (s.confirmSignet arg).1.safety.confirmed = true ∧
      (s.confirmSignet arg).1.boot.signetConf = some s.safety.signet ∧ (s.confirmSignet arg).2 = 0 := by
  have hconfirms : s.confirmSignet arg = _ := if_pos (by simp [hrunning, hsig])
  have houtputs := onlyOutputs_trans (onlyOutputs_of_onlyEvents (raise_onlyEvents
    { s with safety := { s.safety with confirmed := true }, boot := { s.boot with signetConf := some s.safety.signet } }
    0x55 [(1, 2), (s.safety.signet.toNat, 32)])) (safetyRefresh_onlyOutputs _)
  rw [hconfirms]
  exact ⟨onlyOutputs_confirmed houtputs, congrArg Boot.signetConf (onlyOutputs_boot houtputs), rfl⟩

theorem confirmSignet_of_mismatch {s : State} {arg : Nat} (hbad : s.running = false ∨ arg ≠ s.safety.signet.toNat) :
    s.confirmSignet arg = ((s.report 107 2).raise 0x55 [(3, 2), (arg, 32)], 2) := by
  rw [State.confirmSignet]
  refine if_neg fun hgood => ?_
  obtain ⟨hrunning, hsig⟩ := Bool.and_eq_true_iff.1 hgood
  rcases hbad with hheld | hother
  · simp [hheld] at hrunning
  · exact hother (beq_iff_eq.1 hsig)

/-- Settles O58: without CONTROL the command is refused on the connection that has taken the frame, as a cycle's command does
nothing there; with it the signet is compared (log entry 63). -/
theorem safetyCommandsNeedControl : Obligations.SafetyCommandsNeedControl := by
  refine ⟨?withoutControl, ?confirmed, ?mismatch⟩
  case withoutControl =>
    intro s op c b hop hdata hcontrol hconns
    have hdenied := nslCommand_denied (s := s.nslTaken c b) (op := op) (fbe b 16 4) (by omega)
      (by rw [nslTaken_nslCfg, hcontrol])
    rw [nslTake_data hdata hdenied, nslTake_data hdata (nslCommand_cycle _ _ _)]
    exact ⟨rfl, rfl, rfl, nslTaken_rx c b hconns⟩
  case confirmed =>
    intro s c arg hcontrol hrunning hsig
    obtain ⟨hconfirmed, hstored, hresult⟩ := confirmSignet_of_inForce hrunning hsig
    rw [nslCommand_confirm arg hcontrol]
    exact ⟨hconfirmed, hstored, by rw [hresult, if_pos rfl]⟩
  case mismatch =>
    intro s c arg hcontrol hbad
    rw [nslCommand_confirm arg hcontrol, confirmSignet_of_mismatch hbad]
    rfl

/-! The structural alarm function (R550 to R576). -/

/-- A frame that the checks of R560 pass is taken and answered. -/
theorem nslPacket_of_ok {s y z : State} {op c st : Nat} {h : Hdr} {bytes f : List Byte} (hy : y = s.endCmd h op)
    (hfind : y.nslFind (fbe bytes 4 4) = some c) (hok : y.nslOk op h c bytes = true)
    (htake : y.nslTake op c bytes = (z, st, f)) : s.nslPacket op h bytes = z.answer h op st 0 f true := by
  rw [State.nslPacket, ← hy, hfind]
  simp only [if_pos hok, htake]

/-- The readback that the start of an output waits for (R568). -/
theorem readback_of_starting {s y : State} {so : Nat} {lrb : Bool} (hstarts : (s.so so).st = .starting)
    (hdriven : (s.so so).hs = true) (hy : y = s.modSo so (fun o => { o with hrb := true, lrb := lrb })) :
    s.readback so true lrb = y.soOn so := by
  rw [State.readback]
  simp only [hstarts, hdriven, hy, if_true]
  rfl

theorem rbExpiry_of_starting {s : State} {so : Nat} (hstarts : (s.so so).st = .starting) (hdriven : (s.so so).hs = true)
    (hdue : (s.so so).since + s.rbT ≤ s.now) : s.rbExpiry so = s.soFault so 0 2 := by
  rw [State.rbExpiry]
  simp only [if_neg (Nat.not_lt.2 hdue), hstarts, hdriven, if_true]

/-- Settles O20: a member's value counts on a running hub; what waits has waited for its time; a frame of the four opcodes
passes its checks (log entry 114). -/
theorem safetyCommandsComplete : Obligations.SafetyCommandsComplete := by
  rintro t s u rfl
  refine ⟨?pairMemberValue, ?pairDiscrepancy, ?siChange, ?siFilterExpiry, ?siDiscrepancy, ?nslCycle, ?confirmSignet,
    ?safetyReset, ?nslOpen, ?nslTimeout, ?soReadback, ?rbTExpiry, ?tpWidthEnd⟩
  case pairMemberValue =>
    intro pair v hpair hrunning hen
    change execPairMemberValue t pair false v s = _
    rw [execPairMemberValue, onUnit_of_lt hpair, if_pos (by simp [hrunning, hen])]
    rfl
  case pairDiscrepancy =>
    intro pair d hpair hdiffers hen hdue
    change execPairDiscrepancy t pair s = _
    rw [execPairDiscrepancy, onUnit_of_lt hpair, hdiffers]
    exact congrArg Host.Outcome.next (if_pos (by simp [hen, hdue]))
  case siChange =>
    rintro si a b y hsi rfl
    change execSiChange t si a b s = _
    rw [execSiChange, onUnit_of_lt hsi]
  case siFilterExpiry => exact fun si hsi => onUnit_of_lt (k := .safetyInput) (f := fun s => s.siFilter si) hsi
  case siDiscrepancy =>
    intro si hsi hen hdiffers hnew hdue hother
    change execSiDiscrepancy t si s = _
    rw [execSiDiscrepancy, onUnit_of_lt hsi, if_pos (by simp [hen, hdiffers, hnew, hdue])]
    simp only [hother, decide_false, Bool.false_and, Bool.false_eq_true, if_false]
  case nslCycle =>
    exact fun h bytes c st y z f hy hfind hok htake => congrArg Host.Outcome.next (nslPacket_of_ok hy hfind hok htake)
  case confirmSignet =>
    exact fun h bytes c y z f hy hfind hok htake => congrArg Host.Outcome.next (nslPacket_of_ok hy hfind hok htake)
  case safetyReset =>
    exact fun h bytes c y z f hy hfind hok htake => congrArg Host.Outcome.next (nslPacket_of_ok hy hfind hok htake)
  case nslOpen =>
    exact fun h bytes c st y z f hy hfind hok htake => congrArg Host.Outcome.next (nslPacket_of_ok hy hfind hok htake)
  case nslTimeout =>
    intro conn hconn hen hopen hdue
    change execNslTimeout t conn s = _
    rw [execNslTimeout, onUnit_of_lt hconn, if_pos (by simp [hen, hopen, hdue])]
  case soReadback =>
    intro so lrb y hso hstarts hdriven hy
    change execSoReadback t so true lrb s = _
    rw [execSoReadback, onUnit_of_lt hso, readback_of_starting hstarts hdriven hy]
  case rbTExpiry =>
    intro so hso hstarts hdriven hdue
    change execRbTExpiry t so s = _
    rw [execRbTExpiry, onUnit_of_lt hso, rbExpiry_of_starting hstarts hdriven hdue]
  case tpWidthEnd =>
    intro so hso htests hpending hdue hlow
    change execTpWidthEnd t so s = _
    rw [execTpWidthEnd, onUnit_of_lt hso, if_pos ⟨htests, hpending, hdue⟩, if_pos hlow]

end Sys2Proof.Machine

namespace Sys2Proof.Machine

/-! The fault collector (R496 to R526). -/

theorem pairActive_of_wired {s : State} {n : Nat} (detail : Word) (hwired : n < 92) (hheard : s.pairIgnored n = false)
    (hquiet : ((s.wireMends n).fsrc n).active = false) : s.pairActive n detail = (s.wireMends n).takeOcc n detail := by
  rw [State.pairActive, if_neg (by simp [hheard])]
  simp only [hquiet, Bool.false_eq_true, if_false]
  exact if_neg (by omega)

theorem wireFails_of_wired {s : State} {n : Nat} (hwired : n < 92) (hheard : s.pairIgnored n = false)
    (hnew : n ∉ s.faults.wires) : s.wireFails n =
      ({ s with faults := { s.faults with wires := n :: s.faults.wires } }).takeOcc 115 (BitVec.ofNat 32 n) := by
  rw [State.wireFails, if_neg (by simp [hheard, hnew])]
  exact if_neg (by omega)

theorem aliveToggle_of_holds {s : State} (hholds : s.aliveHolds = true) (hcause : s.faults.aliveCause = none) :
    s.aliveToggle = { s with
      faults := { s.faults with alive := true, aliveLevel := !s.faults.aliveLevel, aliveCause := none } } := by
  rw [State.aliveToggle, if_pos hholds, hcause]

/-- UNFENCE of a unit that it may release: event 0x41 shows the release (log entry 98). -/
theorem unfence_of_released {s y : State} {h : Hdr} {kind num : Nat} (hnum : num < unitKinds kind)
    (hfenced : s.unitFenced kind num = true) (hcause : s.causeActive (s.causes kind num) = false)
    (hheld : s.heldUnit kind num = false) (hcore : s.core.st ≠ .resync)
    (hy : y = (if (s.causes kind num).all Cause.returning then s else s.raise 0x41 [(kind, 3), (num, 6), (0, 1),
      (lowestCause (s.causes kind num), 7)])) :
    s.unfence h kind num =
      (y.setCauses kind num (.reload :: (s.causes kind num).filter (fun c => c == .calibrate))).accept h 0x0A02
        (.unfence kind num) := by
  rw [State.unfence]
  simp only [Nat.not_le.2 hnum, hfenced, hcause, hheld, hcore, hy, decide_false, Bool.not_true, Bool.or_self,
    Bool.false_eq_true, if_false]

/-- The reload of a unit ends, and no other cause of fence remains. -/
theorem unfenceEnd_of_last {s y : State} {kind num : Nat} (hreloads : (s.causes kind num).contains .reload = true)
    (hy : y = s.setCauses kind num ((s.causes kind num).filter (fun c => c != .reload)))
    (hlast : y.unitFenced kind num = false) :
    s.unfenceEnd kind num = (y.unitRuns kind num).unfenceReplies kind num := by
  rw [State.unfenceEnd, if_pos hreloads]
  simp only [← hy, hlast, Bool.false_eq_true, if_false]

/-- Settles O18: a pair below 92 has no more to its occurrence; the opcodes name units that exist; the other rows act once
their condition holds (log entry 98). -/
theorem faultCommandsComplete : Obligations.FaultCommandsComplete := by
  rintro t s u rfl
  refine ⟨?faultPairActive, ?faultPairInactive, ?wireFault, ?aliveToggle, ?watchdogMiss, ?faultNRelease, ?locketCopy,
    ?locketRead, ?faultClear, ?unfence, ?unfenceComplete, ?fenceUnit⟩
  case faultPairActive =>
    intro src detail hsrc hwired hheard hquiet
    change execFaultPairActive t src detail s = _
    rw [execFaultPairActive, onUnit_of_lt hsrc, if_pos (by omega), pairActive_of_wired detail hwired hheard hquiet]
  case faultPairInactive =>
    intro src hsrc hpair hother hheard hactive
    change execFaultPairInactive t src s = _
    rw [execFaultPairInactive, onUnit_of_lt hsrc, if_pos ⟨hpair, hheard⟩]
    simp only [if_pos hactive, hother, false_and, if_false]
  case wireFault =>
    intro pair hpair hwired hheard hnew
    change execWireFault t pair s = _
    rw [execWireFault, onUnit_of_lt hpair, if_pos (by omega), wireFails_of_wired hwired hheard hnew]
  case aliveToggle =>
    rintro y hdue rfl hholds hcause
    change execAliveToggle t s = _
    rw [execAliveToggle, at_, if_pos hdue, aliveToggle_of_holds hholds hcause]
  case watchdogMiss =>
    intro hserved hwindow
    change execWatchdogMiss t s = _
    rw [execWatchdogMiss, at_, if_pos (by simp [hserved, hwindow])]
  case faultNRelease =>
    intro hasked htested hquiet hdue
    change execFaultNRelease t s = _
    rw [execFaultNRelease, at_, State.releaseFaultN, if_pos (by simp [hasked, htested, hquiet, hdue])]
  case locketCopy =>
    intro hup hvalid hnew
    change execLocketCopy t s = _
    rw [execLocketCopy, command_of_coreUp hup, if_pos (by simp [hvalid, hnew])]
  case locketRead =>
    intro h hserves hwaits hvalid
    change execLocketRead t h false s = _
    rw [execLocketRead, packet_of_serves hserves hwaits]
    simp only [hvalid, Bool.false_eq_true, if_false]
    rfl
  case faultClear =>
    rintro h mask locket faultN y hserves hwaits rfl
    exact packet_of_serves hserves hwaits
  case unfence =>
    intro h kind num y hserves hwaits hnum hfenced hcause hheld hcore hy
    change execUnfence t h kind num s = _
    rw [execUnfence, packet_of_serves hserves hwaits, unfence_of_released hnum hfenced hcause hheld hcore hy]
  case unfenceComplete =>
    intro kind num y hup hreloads hy hlast
    change execUnfenceComplete t kind num s = _
    rw [execUnfenceComplete, command_of_coreUp hup, unfenceEnd_of_last hreloads hy hlast]
  case fenceUnit =>
    intro h kind num hserves hwaits hnum hfree
    change execFenceUnit t h kind num s = _
    rw [execFenceUnit, packet_of_serves hserves hwaits, if_neg (Nat.not_le.2 hnum), if_neg (by simp [hfree])]

end Sys2Proof.Machine

namespace Sys2Proof.Machine

/-! The voted core and the hub pair (R527 to R549). -/

theorem coreDiffers_of_triplex {s : State} (core : Nat) (htriplex : s.core.duplex = false) : s.coreDiffers core =
    ((s.report 97 (BitVec.ofNat 32 core)).bump coreStatId 16 16).modCore (fun c => { c with
      st := .resync, minority := core }) :=
  if_neg (by simp [htriplex])

theorem yieldLead_of_lead {s : State} (hpair : s.timePair = true) (hlead : s.time.isLead = true)
    (hnew : s.pair.yielding = false) :
    s.yieldLead = { s with pair := { s.pair with yielding := true, yieldAt := s.now, retryAt := none } } :=
  if_pos (by simp [hpair, hlead, hnew])

/-- Settles O19: the core's rows act in the state of Clasp that they name; heartbeats go to a partner that a path leads to
and come from the partner; a yield is of the lead of a TIME pair, and is repeated while its cause lasts. -/
theorem coreAndPairCommandsComplete : Obligations.CoreAndPairCommandsComplete := by
  rintro t s u rfl
  refine ⟨?claspMinority, ?coreResyncComplete, ?claspDoubleDisagreement, ?scrub, ?heartbeatSend, ?heartbeatReceive,
    ?partnerLoss, ?pairCtlYield, ?yieldTimeout, ?yieldRetryEnds, ?yieldRetryYields⟩
  case claspMinority =>
    intro core hcore hruns htriplex
    change execClaspMinority t core s = _
    rw [execClaspMinority, onUnit_of_lt hcore, if_pos hruns, coreDiffers_of_triplex core htriplex]
  case coreResyncComplete =>
    intro hresync
    change execCoreResyncComplete t true s = _
    rw [execCoreResyncComplete, at_, if_pos hresync, if_pos rfl, State.modCore]
  case claspDoubleDisagreement =>
    intro hpd hruns
    change execClaspDoubleDisagreement t s = _
    rw [execClaspDoubleDisagreement, at_, if_pos (by simp [hpd, hruns])]
  case scrub =>
    intro hruns hdue
    change execScrub t none s = _
    rw [execScrub]
    exact congrArg Host.Outcome.next (if_pos (by simp [hruns, hdue]))
  case heartbeatSend =>
    rintro r q y hid hpartner hms rfl rfl hroute
    change execHeartbeatSend t s = _
    rw [execHeartbeatSend, at_]
    refine congrArg Host.Outcome.next ((if_neg ?_).trans ?_)
    · simp [Option.ne_none_iff_isSome.2 hid, hpartner, hms]
    · simp only [State.modHub2, hroute]
  case heartbeatReceive =>
    intro port m hport hcarries haccepts
    change execHeartbeatReceive t port m s = _
    rw [execHeartbeatReceive, onUnit_of_lt hport, if_neg (by simp [hcarries]), if_pos haccepts]
  case partnerLoss =>
    intro hpartner hid hpresent hdue
    change execPartnerLoss t s = _
    rw [execPartnerLoss, at_, if_neg (by simp [hpartner, Option.ne_none_iff_isSome.2 hid, hpresent, hdue])]
    rfl
  case pairCtlYield =>
    exact fun h hserves hwaits hitem hpair hlead =>
      itemCommand_of_ok hserves hwaits hitem (if_pos (by simp [hpair, hlead]))
  case yieldTimeout =>
    intro hyields hdue hcause
    change execYieldTimeout t s = _
    rw [execYieldTimeout, at_, if_neg (by simp [hyields, hdue])]
    simp only [hcause, Bool.false_eq_true, if_false, State.modHub2]
  case yieldRetryEnds =>
    rintro r y hat hdue rfl hcause
    change execYieldRetry t s = _
    rw [execYieldRetry, at_, hat]
    exact congrArg Host.Outcome.next ((if_neg (Nat.not_lt.2 hdue)).trans (if_neg (Bool.eq_false_iff.1 hcause)))
  case yieldRetryYields =>
    intro r hat hdue hcause hpair hlead hnew
    change execYieldRetry t s = _
    rw [execYieldRetry, at_, hat]
    refine congrArg Host.Outcome.next ((if_neg (Nat.not_lt.2 hdue)).trans ((if_pos hcause).trans ?_))
    exact yieldLead_of_lead hpair hlead hnew

end Sys2Proof.Machine

namespace Sys2Proof.Machine

/-! Recovery mode and the ROM's own opcodes (R597), and the firmware update (R581 to R598). -/

section Forms
variable {op t : Nat} {h : Hdr} {s : State}

theorem packet_of_recovery (f : State → State) (hup : (s.tick t).coreUp = true)
    (hrecovery : (s.tick t).boot.phase = .recovery) (hop : romOp op = false) :
    packet op h t s f = .next ((s.tick t).finish h op stBadOpcode) := by
  rw [packet, command_of_coreUp hup, if_pos (by simp [hrecovery, hop])]

/-- An opcode that the ROM answers as the firmware does, in recovery mode as well as out of it. -/
theorem packet_of_rom (f : State → State) (hop : romOp op = true) (hup : (s.tick t).coreUp = true)
    (hwaits : (s.tick t).waits h = false) : packet op h t s f = .next (f (s.tick t)) := by
  rw [packet, command_of_coreUp hup, if_neg (by simp [hop]), if_neg (by simp [hwaits])]

end Forms

/-- Settles O41: each of these rows is a packet whose opcode is not one of the ROM's. -/
theorem recoveryAnswersBadOpcode : Obligations.RecoveryAnswersBadOpcode := by
  intro t s hup hrecovery
  repeat' apply And.intro
  all_goals
    intros
    exact packet_of_recovery _ hup hrecovery (by decide)

/-- UPD_OPEN answers the status of its checks when they fail (R593). -/
theorem exec_updOpen_of_refused {t slot len st : Nat} {h : Hdr} {s : State} (hup : (s.tick t).coreUp = true)
    (hwaits : (s.tick t).waits h = false) (hst : (s.tick t).updOpenStatus h slot len = st) (hbad : st ≠ stOk) :
    exec (.updOpen t h slot len) s = .next ((s.tick t).finish h 0x0C01 st) := by
  subst hst
  change execUpdOpen t h slot len s = _
  rw [execUpdOpen, packet_of_rom _ (by decide) hup hwaits]
  exact congrArg Host.Outcome.next (if_pos hbad)

section
variable {s : State} {h : Hdr} {slot len : Nat} (hslot : slot < 2)
include hslot

/-- A slot that runs, is active or is named by an action is not opened. -/
theorem updOpenStatus_of_inUse (hused : slot = s.boot.running ∨ slot = s.boot.active ∨
    (∃ k, k < 64 ∧ (s.act k).busy = true ∧ (s.act k).kind = 8 ∧ (s.act k).arg 0 = slot)) :
    s.updOpenStatus h slot len = stDenied := by
  rw [State.updOpenStatus]
  refine (if_neg (Nat.not_le.2 hslot)).trans (if_pos ?_)
  simpa [and_assoc] using hused

/-- Nor is one beside a slot that another source has open. -/
theorem updOpenStatus_of_otherOpen (hopen : (s.fw (1 - slot)).st = .opened)
    (howner : (s.fw (1 - slot)).owner ≠ some (ownerOf h)) : s.updOpenStatus h slot len = stDenied := by
  rw [State.updOpenStatus]
  refine (if_neg (Nat.not_le.2 hslot)).trans ?_
  split
  · rfl
  · exact if_pos ⟨hopen, howner⟩

/-- The length is looked at after everything else, and that of the empty image is good (log entry 71). -/
theorem updOpenStatus_of_badLength (hfree : s.updOpenStatus h slot 0 = stOk) (hlen : slotMax < len ∨ len % 4 ≠ 0) :
    s.updOpenStatus h slot len = stParamRange := by
  rw [State.updOpenStatus, if_neg (Nat.not_le.2 hslot)] at hfree ⊢
  split at hfree
  · cases hfree
  next hunused =>
    rw [if_neg hunused]
    split at hfree
    · cases hfree
    next hfirst => rw [if_neg hfirst, if_pos hlen]

end

/-- No slot is open for a source when neither is. -/
theorem openSlot_of_none {s : State} {h : Hdr}
    (hnone : ∀ n, n < 2 → ¬((s.fw n).st = .opened ∧ (s.fw n).owner = some (ownerOf h))) : s.openSlot h = none := by
  rw [State.openSlot, List.find?_eq_none]
  intro n hn
  have hlt : n < 2 := by
    simp only [List.mem_cons, List.not_mem_nil, or_false] at hn
    omega
  simpa using hnone n hlt

/-- A verification that is in progress ends with its check code (R581, R593). -/
theorem exec_updVerifyComplete_of_pending {t slot c : Nat} {keyOk sigOk : Bool} {s : State} (hslot : slot < 2)
    (hup : (s.tick t).coreUp = true) (hwork : (s.tick t).hasWork (fun w => w == .slotVerify slot) = true)
    (hcode : slotCode ((s.tick t).fw slot).image (s.tick t).boot.fuses keyOk sigOk = c) :
    exec (.updVerifyComplete t slot keyOk sigOk) s =
      .next ((((s.tick t).modFw slot (fun w => { w with
        code := c
        version := BitVec.ofNat 32 (fbe ((s.tick t).fw slot).image 8 4)
        sv := fbe ((s.tick t).fw slot).image 5 1 })).setSlot slot (if c = 0 then .verified else .bad)).finalReply
        (.slotVerify slot) (if c = 0 then stOk else stParamRange) 0 (be 1 c)) := by
  subst hcode
  have hexists : slot < unitCount .firmwareSlot := hslot
  change execUpdVerifyComplete t slot keyOk sigOk s = _
  rw [execUpdVerifyComplete, if_pos hexists, command_of_coreUp hup, if_pos hwork]

/-- Settles O59: UPD_OPEN by its status, the other opcodes by their first failing check; what an accepted UPD_WRITE or a
failed verification leaves of the slot. The order of the checks is the model's reading (log entry 71). -/
theorem updateRefusals : Obligations.UpdateRefusals := by
  rintro t h s u rfl hup hwaits
  refine ⟨?openInUse, ?openOther, ?openLength, ?writeClosed, ?writeBeyond, ?verifyUnwritten, ?confirmNoTrial,
    ?bootOutside, ?bootBad, ?verifyBad, ?written⟩
  case openInUse =>
    exact fun slot len hslot hused =>
      exec_updOpen_of_refused hup hwaits (updOpenStatus_of_inUse hslot hused) (by decide)
  case openOther =>
    exact fun slot len hslot hopen howner =>
      exec_updOpen_of_refused hup hwaits (updOpenStatus_of_otherOpen hslot hopen howner) (by decide)
  case openLength =>
    exact fun slot len hslot hfree hlen =>
      exec_updOpen_of_refused hup hwaits (updOpenStatus_of_badLength hslot hfree hlen) (by decide)
  case writeClosed =>
    intro off bytes hnone
    change execUpdWrite t h off bytes s = _
    rw [execUpdWrite, packet_of_rom _ (by decide) hup hwaits, openSlot_of_none hnone]
  case writeBeyond =>
    intro off bytes n hopen hbeyond
    change execUpdWrite t h off bytes s = _
    rw [execUpdWrite, packet_of_rom _ (by decide) hup hwaits, hopen]
    exact congrArg Host.Outcome.next (if_pos (.inr hbeyond))
  case verifyUnwritten =>
    intro slot hslot hwritten hverified
    change execUpdVerify t h slot s = _
    rw [execUpdVerify, packet_of_rom _ (by decide) hup hwaits, if_neg (Nat.not_le.2 hslot),
      if_neg (by simp [hwritten, hverified])]
  case confirmNoTrial =>
    intro hphase hbad burn
    change execUpdConfirm t h burn s = _
    rw [execUpdConfirm, packet_of_serves ⟨hup, hphase⟩ hwaits]
    exact congrArg Host.Outcome.next (if_pos hbad)
  case bootOutside =>
    intro slot code hphase
    change execUpdBoot t h slot code s = _
    rw [execUpdBoot, packet_of_rom _ (by decide) hup hwaits, if_pos hphase]
  case bootBad =>
    intro slot code hphase hslot hcode
    change execUpdBoot t h slot code s = _
    rw [execUpdBoot, packet_of_rom _ (by decide) hup hwaits, if_neg (not_not.2 hphase), if_neg (Nat.not_le.2 hslot)]
    exact congrArg Host.Outcome.next (if_pos hcode)
  case verifyBad =>
    intro slot c keyOk sigOk hslot hwork hcode hbad
    refine ⟨_, ?_, rfl⟩
    rw [exec_updVerifyComplete_of_pending hslot hup hwork hcode, if_neg hbad, if_neg hbad]
  case written =>
    rintro off bytes n v hopen halign hfits rfl hfull
    change execUpdWrite t h off bytes s = _
    rw [execUpdWrite, packet_of_rom _ (by decide) hup hwaits, hopen]
    refine congrArg Host.Outcome.next ((if_neg ?_).trans ?_)
    · simp [halign, hfits]
    · simp only [if_pos hfull]

/-- Settles O23: the opcodes pass the checks that their clauses state; an erase or a verification that is in progress ends.
UPD_BOOT is the ROM's own in recovery mode. -/
theorem firmwareUpdateCommandsComplete : Obligations.FirmwareUpdateCommandsComplete := by
  rintro t s u rfl
  refine ⟨?updStatus, ?updOpen, ?slotEraseComplete, ?updWrite, ?updVerify, ?updVerifyComplete, ?updConfirm, ?updBoot⟩
  case updStatus => exact fun h hserves hwaits => packet_of_serves hserves hwaits
  case updOpen =>
    intro h slot len hserves hwaits hok
    change execUpdOpen t h slot len s = _
    rw [execUpdOpen, packet_of_serves hserves hwaits]
    exact congrArg Host.Outcome.next (if_neg (not_not.2 hok))
  case slotEraseComplete =>
    intro n hup herasing
    change execSlotEraseComplete t s = _
    rw [execSlotEraseComplete, command_of_coreUp hup, herasing]
  case updWrite =>
    rintro h off bytes n y hserves hwaits hopen halign hfits rfl hpart
    change execUpdWrite t h off bytes s = _
    rw [execUpdWrite, packet_of_serves hserves hwaits, hopen]
    refine congrArg Host.Outcome.next ((if_neg ?_).trans ?_)
    · simp [halign, hfits]
    · simp only [if_neg hpart]
  case updVerify =>
    intro h slot hserves hwaits hslot hwritten
    change execUpdVerify t h slot s = _
    rw [execUpdVerify, packet_of_serves hserves hwaits, if_neg (Nat.not_le.2 hslot), if_pos hwritten]
  case updVerifyComplete =>
    intro slot keyOk sigOk hslot hup hwork hgood
    rw [exec_updVerifyComplete_of_pending hslot hup hwork hgood, if_pos rfl, if_pos rfl]
  case updConfirm =>
    rintro h y hserves hwaits hrunning htrial hactive rfl
    change execUpdConfirm t h false s = _
    rw [execUpdConfirm, packet_of_serves hserves hwaits]
    refine congrArg Host.Outcome.next ((if_neg ?_).trans rfl)
    simp [hrunning, htrial, hactive]
  case updBoot =>
    rintro h slot code y hup hwaits hphase hslot hgood rfl
    change execUpdBoot t h slot code s = _
    rw [execUpdBoot, packet_of_rom _ (by decide) hup hwaits, if_neg (not_not.2 hphase), if_neg (Nat.not_le.2 hslot)]
    exact congrArg Host.Outcome.next (if_neg (not_not.2 hgood))

end Sys2Proof.Machine

namespace Sys2Proof.Machine

/-! The test access port, the built-in tests and the hours of use (R616 to R630). -/

section Forms
variable {t : Nat} {s : State} (hport : (s.tick t).pd 15 = true ∨ (s.tick t).boot.phase = .testHold)
include hport

theorem tapCommand_of_on (f : State → State) : tapCommand t s f = .next (f (s.tick t)) :=
  congrArg Host.Outcome.next (if_pos (by simpa using hport))

/-- An intrusive instruction that is not locked acts in test hold (R625). -/
theorem intrusive_of_unlocked {code : BitVec 8} (f : State → Tap → Tap) (hopen : (s.tick t).unlocked = true) :
    intrusive t code s f =
      .next ((s.tick t).testHold.modTap (fun p => f (s.tick t).testHold (tapSelect code 0 p))) := by
  rw [intrusive, tapCommand_of_on hport, if_pos hopen]

end Forms

@[simp] theorem testHold_ident (s : State) : s.testHold.ident = s.ident := by
  simp [State.testHold, State.dropCommands, State.dropCommit, State.soDrive]

/-- Settles O24: an instruction acts while its pins are powered, an intrusive one while it is unlocked; the opcodes are
accepted on a hub that serves them. -/
theorem testPortCommandsComplete : Obligations.TestPortCommandsComplete := by
  rintro t s u rfl
  refine ⟨?extest, ?samplePreload, ?idcode, ?probe, ?extestPulse, ?extestTrain, ?clamp, ?highz, ?mbist, ?modbist,
    ?bistResult, ?bypass, ?testLogicReset, ?tapUnlock, ?unlockWindowExpiry, ?bistReport, ?tjHoursTick⟩
  case extest =>
    intro shift hport hopen
    change execExtest t shift s = _
    rw [execExtest, intrusive_of_unlocked hport _ hopen, testHold_ident]
  case samplePreload =>
    intro shift hport
    change execSamplePreload t shift s = _
    rw [execSamplePreload, tapCommand_of_on hport]
  case idcode =>
    intro hport
    change execIdcode t s = _
    rw [execIdcode, tapCommand_of_on hport]
  case probe =>
    intro hport hopen
    change execProbe t s = _
    rw [execProbe, intrusive_of_unlocked hport _ hopen]
  case extestPulse =>
    intro hport hopen
    change execExtestPulse t s = _
    rw [execExtestPulse, intrusive_of_unlocked hport _ hopen]
  case extestTrain =>
    intro hport hopen
    change execExtestTrain t s = _
    rw [execExtestTrain, intrusive_of_unlocked hport _ hopen]
  case clamp =>
    intro hport hopen
    change execClamp t s = _
    rw [execClamp, intrusive_of_unlocked hport _ hopen, testHold_ident]
  case highz =>
    intro hport hopen
    change execHighz t s = _
    rw [execHighz, intrusive_of_unlocked hport _ hopen]
  case mbist =>
    rintro failing y hport hopen rfl
    change execMbist t failing s = _
    rw [execMbist, tapCommand_of_on hport, if_pos hopen]
    simp
  case modbist =>
    rintro map y hport hopen hfield rfl
    change execModbist t map s = _
    rw [execModbist, tapCommand_of_on hport, if_pos hopen]
    simp [hfield]
  case bistResult =>
    intro hport
    change execBistResult t s = _
    rw [execBistResult, tapCommand_of_on hport]
  case bypass =>
    intro code hport hplain hintrusive
    change execBypass t code s = _
    rw [execBypass, tapCommand_of_on hport, if_neg (by simp [hplain, hintrusive])]
  case testLogicReset =>
    intro hport
    change execTestLogicReset t s = _
    rw [execTestLogicReset, tapCommand_of_on hport]
  case tapUnlock =>
    intro h hserves hwaits hheld hoff0 hoff1
    change execTapUnlock t h 0x54415055 s = _
    rw [execTapUnlock, packet_of_serves hserves hwaits, if_neg (not_not.2 rfl), if_neg (by simp [hheld]),
      if_neg (by simp [hoff0, hoff1])]
  case unlockWindowExpiry =>
    intro hlocked
    change execUnlockWindowExpiry t s = _
    rw [execUnlockWindowExpiry, at_, if_neg (by simp [hlocked])]
  case bistReport => exact fun h hserves hwaits => packet_of_serves hserves hwaits
  case tjHoursTick =>
    rintro temp sensor y rfl hup hdue
    change execTjHoursTick t temp sensor s = _
    rw [execTjHoursTick, at_]
    exact congrArg Host.Outcome.next (if_pos (by simp only [hup, hdue, Bool.and_self]))

end Sys2Proof.Machine
